-- ==== Sys2Proof/Word.lean ====
section
/-! DEFINITION. The word types: a byte of memory, and the 32- and 64-bit words of the register space (R9). -/
namespace Sys2Proof
abbrev Byte := BitVec 8
abbrev Word := BitVec 32
abbrev Word64 := BitVec 64
end Sys2Proof
end

