-- ==== Sys2Proof/Syntax.lean ====
section
/-! DEFINITION. The commands (Instr), one constructor per row of spec/opcode_table.json, with the rows' operands; and the types of
their operands: program and function names, requesters, engines, and what an operand carries in from outside the block. -/
namespace Sys2Proof
inductive ProgId | stage (p : Fin 32) (st : Fin 144) | cond (p : Fin 32)
 deriving DecidableEq, Repr
inductive FnId
  | plot (n : Fin 32) | stream (n : Fin 16) | head (n : Fin 4) | batch (n : Fin 16) | bel (n : Fin 6) | link (n : Fin 8)
  | port (n : Fin 4) | rx (n : Fin 16) | tx (n : Fin 8) | dma (n : Fin 16) | pwr (n : Fin 221)
 deriving DecidableEq, Repr
inductive Reader | core | prog (p : Fin 32) (step : BitVec 32) (band : BitVec 16)
 deriving DecidableEq, Repr
/-- A write of an enable bit, or the end of the STARTING work of its function. [log entry 10 DESIGN CHOICE] -/
inductive EnEv | write (b : Bool) | done
 deriving DecidableEq, Repr
/-- The header of a received Zhevlink frame (Table 12.1): the link it came by, origin and destination chip, hops left,
generation tag, end-to-end sequence number. -/
structure ZHdr where
  link : Fin 8
  src : Fin 32
  dst : Fin 32
  ttl : BitVec 8
  tag : BitVec 12
  eseq : BitVec 32
 deriving DecidableEq, Repr
/-- A sample row data segment of an ST 2110-20 packet: line, first pixel, its bytes as received. -/
structure Srd where
  line : BitVec 15
  pix : BitVec 15
  data : List Byte
 deriving DecidableEq, Repr
/-- A function of the PCIe endpoint. -/
inductive PFn | pf0 | vf (v : Fin 16)
 deriving DecidableEq, Repr
/-- A write to the endpoint's configuration space: a Function Level Reset (R369), or the number of VFs enabled, from VF 0 on (R351).
 -/
inductive CfgWrite | flr (f : PFn) | vfs (n : Fin 17)
 deriving DecidableEq, Repr
/-- A power domain: a write of its EN, or the end of its STARTING work with the result of its self-test. -/
inductive PwrEv | write (b : Bool) | on (ok : Bool)
 deriving DecidableEq, Repr
/-- The part of a slot command's life that a command of this model stands for (R89-R91): its issue and dispatch; its run, once
fired; an uncorrectable SRAM error on a read of it in a bank or segment (R334). -/
inductive SlotPh | issue | run | sramUe (store : BitVec 17)
 deriving DecidableEq, Repr
/-- A reset level's event: a fault that calls for it is reported; the reset begins; it ends, with what its self-test found. -/
inductive RstEv | fault | start | finish (ok : Bool)
 deriving DecidableEq, Repr
/-- Who accesses the register space (R9, R353, R417): a PCIe function, an Orangery core, or the Lodge service ring. -/
inductive Req | pf0 | vf (v : Fin 16) | core (n : Fin 16) | service
 deriving DecidableEq, Repr
/-- Who accesses the device address space beside the register space, and where: the host, at an offset of BAR4 (R352); a core, at a device
address (R14-R17). [log entry 251 DESIGN CHOICE] -/
inductive MemAt
  | host (off : BitVec 36)
  | core (c : Fin 16) (a : BitVec 48)
 deriving DecidableEq, Repr
/-- What it does: a write of bytes, a read of a number of bytes, or a core's FENCE with W among its predecessors (R416).
[log entry 251 DESIGN CHOICE] -/
inductive MemAcc
  | write (bs : List Byte)
  | read (n : Fin 4097)
  | fence
 deriving DecidableEq, Repr
/-- What the neighbour's answer in training says of its chip (R294): its group, and whether it is another chip than a neighbour of this chip
with the same chip id. -/
structure NbrChip where
  gid : BitVec 16
  other : Bool
 deriving DecidableEq, Repr
/-- The commands of the VX9600: one constructor per row of the table of operations and events, in its order. -/
inductive Instr
  /-- REG_WRITE (R7). -/
  | regWrite (r : Req) (off : BitVec 26) (wide : Bool) (v : BitVec 64)
  /-- READ_CLEAR (R7). -/
  | readClear (r : Req) (off : BitVec 26) (wide : Bool)
  /-- TB_STEP_WRITE (R30). -/
  | tbStepWrite (n : Fin 8) (v : BitVec 64)
  /-- TB_LOAD (R30). -/
  | tbLoad (n : Fin 8)
  /-- TB_OVR (R31). -/
  | tbOvr (n : Fin 8)
  /-- TB_INC_WRITE (R29). -/
  | tbIncWrite (n : Fin 8) (v : BitVec 64)
  /-- TB_PHASE_APPLY (R31). -/
  | tbPhaseApply (n : Fin 8)
  /-- HOLDOVER_CLEAR (R33). -/
  | holdoverClear (n : Fin 8)
  /-- TB_CAPTURE (R46). -/
  | tbCapture (mask : BitVec 8)
  /-- PAIR_FORCE (R34). -/
  | pairForce
  /-- PAIR_PERIODIC (R34). -/
  | pairPeriodic
  /-- LC_APPLY (R42). -/
  | lcApply (mask : BitVec 4)
  /-- LC_FRAME_START (R37). -/
  | lcFrameStart (n : Fin 4)
  /-- GENLOCK_PULSE (R40). -/
  | genlockPulse
  /-- GENLOCK_TIMEOUT (R40). -/
  | genlockTimeout (n : Fin 4)
  /-- AT (R43). -/
  | atPos (k : ProgId)
  /-- AT_COMPLETE (R43). -/
  | atComplete (k : ProgId)
  /-- DUE (R44). -/
  | due (k : ProgId)
  /-- LINE_START_CHECK (R44). -/
  | lineStartCheck (p : Fin 32) (fin : BitVec 32)
  /-- DUE_POSITION_REACHED (R44). -/
  | duePositionReached (p : Fin 32)
  /-- TIME (R136). -/
  | time (k : ProgId) (ph : SlotPh)
  /-- PLOT_ENABLE (R266). -/
  | plotEnable (p : Fin 32) (en : Bool)
  /-- IMAGE_LOAD (R87). -/
  | imageLoad (p : Fin 32)
  /-- STOPPING_DONE (R266). -/
  | stoppingDone (f : FnId)
  /-- PLOT_MAP_WRITE (R82). -/
  | plotMapWrite (i : Fin 36) (v : BitVec 32)
  /-- MEMBERSHIP_CHANGE (R82). -/
  | membershipChange (p : Fin 32)
  /-- COMMAND_FIRE (R90). -/
  | commandFire (k : ProgId) (move : Bool)
  /-- COMMAND_COMMIT (R92). -/
  | commandCommit (k : ProgId)
  /-- TOKEN_LAND (R95). -/
  | tokenLand (p : Fin 32) (chid : BitVec 8) (slot : Fin 8)
  /-- CREDIT_LAND (R95). -/
  | creditLand (p : Fin 32) (chid : BitVec 8) (slot : Fin 8)
  /-- WICKET_ALLOC (R97). -/
  | wicketAlloc (w : BitVec 17) (owner : BitVec 10) (v : Bool)
  /-- WSIG (R98). -/
  | wsig (k : ProgId)
  /-- WICKET_SIGNAL (R98). -/
  | wicketSignal (k : ProgId)
  /-- WWAIT (R99). -/
  | wwait (k : ProgId)
  /-- WWAIT_RELEASE (R99). -/
  | wwaitRelease (k : ProgId)
  /-- WAIT_TIMEOUT (R133). -/
  | waitTimeout (k : ProgId)
  /-- BARRIER (R100). -/
  | barrier (k : ProgId)
  /-- BARRIER_RELEASE (R100). -/
  | barrierRelease (w : BitVec 17)
  /-- TDESC (R118). -/
  | tdesc (k : ProgId)
  /-- SDESC (R119). -/
  | sdesc (k : ProgId)
  /-- KDESC (R121). -/
  | kdesc (k : ProgId)
  /-- CONV (R157). -/
  | conv (k : ProgId) (ph : SlotPh)
  /-- DWCONV (R159). -/
  | dwconv (k : ProgId) (ph : SlotPh)
  /-- GEMM (R122). -/
  | gemm (k : ProgId) (ph : SlotPh)
  /-- POOL (R161). -/
  | pool (k : ProgId) (ph : SlotPh)
  /-- RESAMP (R163). -/
  | resamp (k : ProgId) (ph : SlotPh)
  /-- ELT (R126). -/
  | elt (k : ProgId) (ph : SlotPh)
  /-- ACT (R77). -/
  | act (k : ProgId) (ph : SlotPh)
  /-- NORM (R76). -/
  | norm (k : ProgId) (ph : SlotPh)
  /-- SMAX (R76). -/
  | smax (k : ProgId) (ph : SlotPh)
  /-- REDUCE (R76). -/
  | reduce (k : ProgId) (ph : SlotPh)
  /-- QUANT (R126). -/
  | quant (k : ProgId) (ph : SlotPh)
  /-- RNG (R254). -/
  | rng (k : ProgId) (ph : SlotPh)
  /-- STAT (R143). -/
  | stat (k : ProgId) (ph : SlotPh)
  /-- DIGEST (R141). -/
  | digest (k : ProgId) (ph : SlotPh)
  /-- FLOW (R128). -/
  | flow (k : ProgId)
  /-- DISP (R128). -/
  | disp (k : ProgId)
  /-- WARP (R128). -/
  | warp (k : ProgId)
  /-- BEL_REQUEST_ACCEPT (R129). -/
  | belRequestAccept (e : Fin 8)
  /-- BEL_REQUEST_START (R176). -/
  | belRequestStart (e : Fin 8)
  /-- BEL_REQUEST_COMPLETE (R177). -/
  | belRequestComplete (e : Fin 8)
  /-- LOAD (R130). -/
  | load (k : ProgId) (ph : SlotPh)
  /-- STORE (R130). -/
  | store (k : ProgId) (ph : SlotPh)
  /-- SEND (R130). -/
  | send (k : ProgId) (ph : SlotPh)
  /-- RECV (R130). -/
  | recv (k : ProgId) (ph : SlotPh)
  /-- HALO (R131). -/
  | halo (k : ProgId) (ph : SlotPh)
  /-- ATOM (R132). -/
  | atom (k : ProgId) (ph : SlotPh)
  /-- LOOP (R137). -/
  | loop (k : ProgId)
  /-- ENDLOOP (R137). -/
  | endloop (k : ProgId)
  /-- DRAIN_POINT (R138). -/
  | drainPoint (k : ProgId)
  /-- BR (R139). -/
  | br (k : ProgId)
  /-- COMMIT (R105). -/
  | commit (k : ProgId)
  /-- FENCE (R140). -/
  | fence (k : ProgId)
  /-- FENCE_DONE (R140). -/
  | fenceDone (k : ProgId)
  /-- HALT (R140). -/
  | halt (k : ProgId)
  /-- NOP (R116). -/
  | nop (k : ProgId)
  /-- CTX_ALLOC (R268). -/
  | ctxAlloc (c : BitVec 10)
  /-- CTX_TEAR (R283). -/
  | ctxTear (c : BitVec 10)
  /-- TEARDOWN_DRAIN_DONE (R284). -/
  | teardownDrainDone (c : BitVec 10)
  /-- DRAIN_TIMEOUT (R284). -/
  | drainTimeout (c : BitVec 10)
  /-- SLOT_BIND (R272). -/
  | slotBind (p : Fin 32) (j : Fin 16) (v : BitVec 32)
  /-- SLOT_UNBIND (R275). -/
  | slotUnbind (p : Fin 32) (j : Fin 16)
  /-- REIMAGE (R282). -/
  | reimage (p : Fin 32) (j : Fin 16)
  /-- REIMAGE_SWITCH (R282). -/
  | reimageSwitch (p : Fin 32)
  /-- RESUME_ARM (R260). -/
  | resumeArm (p : Fin 32) (addr : BitVec 42)
  /-- SEED_WRITE (R255). -/
  | seedWrite (p : Fin 32) (i : Fin 8) (hi : Bool) (v : BitVec 64)
  /-- PERIOD_START (R276). -/
  | periodStart (p : Fin 32)
  /-- QUANTUM_EXPIRY (R276). -/
  | quantumExpiry (p : Fin 32)
  /-- PREEMPT_REQUEST (R279). -/
  | preemptRequest (p : Fin 32)
  /-- PREEMPT_GRACE_EXPIRY (R279). -/
  | preemptGraceExpiry (p : Fin 32)
  /-- SWITCH_OUT (R258). -/
  | switchOut (p : Fin 32)
  /-- SWITCH_IN (R274). -/
  | switchIn (p : Fin 32)
  /-- BATCH_GROUP_ENABLE (R286). -/
  | batchGroupEnable (g : Fin 16) (en : Bool)
  /-- JOIN (R287). -/
  | join (g : Fin 16) (sid : BitVec 16) (prio : Fin 8) (cls : Fin 4)
  /-- LEAVE (R287). -/
  | leave (g : Fin 16) (sid : BitVec 16)
  /-- LANE_MAP_ACK (R289). -/
  | laneMapAck (g : Fin 16)
  /-- STREAM_ENABLE (R199). -/
  | streamEnable (i : Fin 16) (en : Bool)
  /-- INPUT_POST (R201). -/
  | inputPost (i : Fin 16) (slot : BitVec 16)
  /-- HEADLESS_SIGNAL (R214). -/
  | headlessSignal (i : Fin 16)
  /-- BAND_LATCH (R204). -/
  | bandLatch (i : Fin 16)
  /-- ALIAS_READ (R206). -/
  | aliasRead (i : Fin 16) (off : BitVec 32) (n : Fin 65) (who : Reader)
  /-- BAND_DUE (R208). -/
  | bandDue (n : Fin 4)
  /-- HOLD_PROMOTE (R210). -/
  | holdPromote (i : Fin 16)
  /-- HEAD_ENABLE (R217). -/
  | headEnable (n : Fin 4) (en : Bool)
  /-- HEAD_COMMIT (R220). -/
  | headCommit (mask : BitVec 4)
  /-- COMMIT_TAKE (R220). -/
  | commitTake (n : Fin 4)
  /-- HEAD_FRAME_START (R226). -/
  | headFrameStart (n : Fin 4)
  /-- HPD_LOSS (R222). -/
  | hpdLoss (n : Fin 4) (pin : Bool)
  /-- HPD_RETURN (R222). -/
  | hpdReturn (n : Fin 4)
  /-- DP_TRAIN_RETRY (R222). -/
  | dpTrainRetry (n : Fin 4) (ok : Bool)
  /-- UNDERRUN (R231). -/
  | underrun (n l : Fin 4)
  /-- CRIT_HOLD_END (R402). -/
  | critHoldEnd
  /-- REGION_ROW_DONE (R234). -/
  | regionRowDone (n : Fin 4)
  /-- REGION_SENT (R234). -/
  | regionSent (n : Fin 4)
  /-- STAGE_SLOT_REUSE (R234). -/
  | stageSlotReuse (n : Fin 4)
  /-- KEEPALIVE_TIMER (R237). -/
  | keepaliveTimer (n : Fin 4)
  /-- PIN_CHECK (R240). -/
  | pinCheck (n : Fin 4) (push : Bool) (crc : BitVec 32)
  /-- ARRIVE (R262). -/
  | arrive (h : ZHdr) (w : BitVec 17)
  /-- RELEASE (R262). -/
  | release (h : ZHdr) (w : BitVec 17) (trel ts : BitVec 79)
  /-- SYNC_IN_EDGE (R263). -/
  | syncInEdge
  /-- GBAR_RELEASE (R262). -/
  | gbarRelease (w : BitVec 17)
  /-- LINK_ENABLE (R293). -/
  | linkEnable (l : Fin 8) (en : Bool)
  /-- LINK_TRAINING_DONE (R294). -/
  | linkTrainingDone (l : Fin 8) (lanes : BitVec 5) (rtt : BitVec 16) (chip : Fin 32) (nlink : Fin 8) (nbr : NbrChip)
  /-- LINK_TRAIN_RETRY (R294). -/
  | linkTrainRetry (l : Fin 8)
  /-- HELLO_TIMER (R298). -/
  | helloTimer (l : Fin 8)
  /-- HELLO (R303). -/
  | hello (l : Fin 8) (reach : BitVec 32)
  /-- ACK_NAK (R296). -/
  | ackNak (l : Fin 8) (nak : Bool) (lseq : BitVec 16)
  /-- LSTATE (R301). -/
  | lstate (l : Fin 8) (reach group : BitVec 32)
  /-- FRAME_CHECK_FAIL (R296). -/
  | frameCheckFail (l : Fin 8) (kind : Fin 3)
  /-- LINK_SILENCE_TIMEOUT (R298). -/
  | linkSilenceTimeout (l : Fin 8)
  /-- LANE_FAIL (R297). -/
  | laneFail (l : Fin 8) (lane : Fin 5)
  /-- LANE_SWAP (R297). -/
  | laneSwap (l : Fin 8)
  /-- HALO_REQ (R305). -/
  | haloReq (h : ZHdr) (k : BitVec 13) (step : BitVec 32) (plot : Fin 32) (chid : BitVec 8) (row0 rows : BitVec 16) (tags : List (BitVec 12))
  /-- HALO_ANSWER (R305). -/
  | haloAnswer
  /-- HALO_BUSY_RETRY (R305). -/
  | haloBusyRetry (busy : Option ZHdr) (k : BitVec 13)
  /-- HALO_DATA (R305). -/
  | haloData (h : ZHdr) (k : BitVec 13) (step : BitVec 32) (codes : List (BitVec 32)) (ents : List (BitVec 16)) (axis : Fin 5) (bmax : BitVec 8) (refused : Bool)
  /-- HALO_ACK (R305). -/
  | haloAck (h : ZHdr) (plot : Fin 32) (chid : BitVec 8) (step : BitVec 32) (abandon : Bool)
  /-- WSIG_FRAME (R307). -/
  | wsigFrame (h : ZHdr) (w : BitVec 17) (n : BitVec 16)
  /-- WAIT_REQ (R307). -/
  | waitReq (h : ZHdr) (w req : BitVec 17) (n : BitVec 16)
  /-- WAIT_DONE (R307). -/
  | waitDone (h : ZHdr) (w : BitVec 17) (result : Fin 3)
  /-- WAIT_CANCEL (R307). -/
  | waitCancel (h : ZHdr) (w req : BitVec 17)
  /-- FENCE_FRAME (R309). -/
  | fenceFrame (l : Fin 8) (origin : Fin 32) (id : BitVec 32)
  /-- FENCE_ACK (R309). -/
  | fenceAck (l : Fin 8) (origin : Fin 32) (id : BitVec 32)
  /-- TSYNC_TIMER (R308). -/
  | tsyncTimer
  /-- TSYNC (R308). -/
  | tsync (h : ZHdr) (reply : Bool) (ofs : BitVec 64)
  /-- GROUP_CFG_APPLY (R300). -/
  | groupCfgApply
  /-- CUT_OFF_TIMER (R310). -/
  | cutOffTimer (noSideKeeps : Bool)
  /-- REJOIN (R313). -/
  | rejoin
  /-- AUTO_REJOIN_TIMER (R313). -/
  | autoRejoinTimer
  /-- REJOIN_REQ (R313). -/
  | rejoinReq (h : ZHdr) (ptp jump : Bool)
  /-- REJOIN_GRANT (R313). -/
  | rejoinGrant (h : ZHdr) (who : Fin 32) (fr : BitVec 32) (cause : BitVec 8)
  /-- REJOIN_LAPSE (R313). -/
  | rejoinLapse
  /-- REJOIN_FRAME (R314). -/
  | rejoinFrame
  /-- FORMATION (R314). -/
  | formation
  /-- HANG (R323). -/
  | hang (e : BitVec 11)
  /-- PLOT_STALL (R324). -/
  | plotStall (p : Fin 32)
  /-- SUSPECT_REPLAY (R327). -/
  | suspectReplay (e : BitVec 11)
  /-- REPLAY_WATCHDOG (R327). -/
  | replayWatchdog (e : BitVec 11)
  /-- ENGINE_RESET (R317). -/
  | engineReset (e : BitVec 12) (ev : RstEv)
  /-- HEAD_RESET (R328). -/
  | headReset (n : Fin 4)
  /-- PARTITION_RESET (R317). -/
  | partitionReset (p : Fin 32) (ev : RstEv)
  /-- CHIP_WARM_RESET (R470). -/
  | chipWarmReset (ev : RstEv)
  /-- LEVEL_TIMEOUT (R320). -/
  | levelTimeout (l : Fin 5)
  /-- PAVILION_RETIRE (R331). -/
  | pavilionRetire (v : BitVec 8)
  /-- SPARE_MAP_CHANGE (R332). -/
  | spareMapChange (v : BitVec 8)
  /-- KEEPER_HEARTBEAT_MISS (R342). -/
  | keeperHeartbeatMiss (k : Fin 2)
  /-- SCHED_HEARTBEAT_MISS (R342). -/
  | schedHeartbeatMiss
  /-- KEEPERS_SILENT (R342). -/
  | keepersSilent
  /-- FW_GO (R343). -/
  | fwGo (flash : Bool) (lc : Fin 4)
  /-- FW_HANDOVER_FRAME (R343). -/
  | fwHandoverFrame
  /-- DUMP_REQ (R337). -/
  | dumpReq
  /-- DUMP_READ_TIMEOUT (R338). -/
  | dumpReadTimeout (unit word : BitVec 16)
  /-- DUMP_DONE (R337). -/
  | dumpDone (units : List (BitVec 16 × List (BitVec 32)))
  /-- POWER_LOSS (R460). -/
  | powerLoss
  /-- SUPPLY_DETECTOR (R461). -/
  | supplyDetector (rel : Option (Fin 4 × Fin 4 × Bool × List Byte))
  /-- PORST_RELEASE (R423). -/
  | porstRelease (src addr : Fin 4) (test : Bool) (flash : List Byte)
  /-- COLD_RESET (R319). -/
  | coldReset
  /-- PUSH_WRITE (R424). -/
  | pushWrite (bs : List Byte)
  /-- HART_RELEASE (R418). -/
  | hartRelease (h : Fin 16)
  /-- QUOTE (R429). -/
  | quote (m : Fin 2) (core : Fin 16) (nonce : BitVec 256) (mask : BitVec 8)
  /-- IDENTITY (R429). -/
  | identity (m : Fin 2) (core : Fin 16)
  /-- EXTEND (R428). -/
  | extend (m : Fin 2) (core : Fin 16) (i : Fin 8) (d : BitVec 384)
  /-- MODEL_KEY (R430). -/
  | modelKey (m : Fin 2) (core : Fin 16) (ctx : BitVec 10) (blob : List Byte)
  /-- DECRYPT (R431). -/
  | decrypt (m : Fin 2) (core slot : Fin 16) (src dst len : BitVec 48) (iv : BitVec 96) (aad : List Byte) (tag : BitVec 128)
  /-- DECRYPT_DONE (R431). -/
  | decryptDone
  /-- UNSEAL (R432). -/
  | unsealCtx (m : Fin 2) (core : Fin 16) (ctx : BitVec 10)
  /-- LC_ADVANCE (R427). -/
  | lcAdvance (m : Fin 2) (core : Fin 16) (target : Fin 8) (token : List Byte)
  /-- DEBUG_CHALLENGE (R433). -/
  | debugChallenge (m : Fin 2) (core : Fin 16)
  /-- DEBUG_UNLOCK (R433). -/
  | debugUnlock (m : Fin 2) (core : Fin 16) (scope : BitVec 8) (sig : List Byte)
  /-- ROLLBACK_ADVANCE (R426). -/
  | rollbackAdvance (m : Fin 2) (core : Fin 16) (level : BitVec 7)
  /-- VERIFY (R426). -/
  | verify (m : Fin 2) (core : Fin 16)
  /-- COPY (R423). -/
  | copy (m : Fin 2) (core : Fin 16) (flash : List Byte)
  /-- DMA_ENABLE (R354). -/
  | dmaEnable (c : Fin 16) (e : EnEv)
  /-- DMA_TAIL_WRITE (R355). -/
  | dmaTailWrite (c : Fin 16) (tail : BitVec 16)
  /-- DMA_DESCRIPTOR (R356). -/
  | dmaDescriptor (c : Fin 16) (desc data : List Byte) (ok : Bool)
  /-- DMA_DESC_DONE (R356). -/
  | dmaDescDone (c : Fin 16)
  /-- HOST_LINK_DOWN (R359). -/
  | hostLinkDown
  /-- PERST (R369). -/
  | perst (k : Fin 3)
  /-- FLR (R369): a write to configuration space. -/
  | flr (w : CfgWrite)
  /-- SPOUT_ADDR_WRITE (R360). -/
  | spoutAddrWrite (p : Fin 16) (a : BitVec 48)
  /-- SPOUT_DATA_WRITE (R360). -/
  | spoutDataWrite (p : Fin 16) (f : PFn) (off : BitVec 22) (bs : List Byte)
  /-- SPOUT_READ (R362). -/
  | spoutRead (p : Fin 16) (f : PFn) (off : BitVec 22) (n : Fin 4097)
  /-- SPOUT_DOORBELL (R363). -/
  | spoutDoorbell (p : Fin 16) (f : PFn) (off : BitVec 12) (v : BitVec 32)
  /-- DOORBELL_DONE (R363). -/
  | doorbellDone (p : Fin 16)
  /-- MSIX_UNMASK (R364). -/
  | msixUnmask (f : PFn) (vec : BitVec 10)
  /-- DEVID (R366). -/
  | devid
  /-- HEARTBEAT (R366). -/
  | heartbeat
  /-- STATUS (R366). -/
  | status
  /-- POWER (R366). -/
  | power
  /-- ALARM_MAP (R366). -/
  | alarmMap
  /-- ALARM_SEL (R366). -/
  | alarmSel (src : BitVec 8) (pec : Bool)
  /-- ALARM_ENTRY (R367). -/
  | alarmEntry
  /-- RECOVERY (R425). -/
  | recovery (off : BitVec 32) (bs : List Byte) (pec : Bool)
  /-- ALERT_RESPONSE (R367). -/
  | alertResponse
  /-- PORT_ENABLE (R373). -/
  | portEnable (n : Fin 4) (e : EnEv)
  /-- PORT_LINK_LOSS (R373). -/
  | portLinkLoss (p : Fin 16)
  /-- BYP_HOLD_TIMER (R379). -/
  | bypHoldTimer (n : Fin 4)
  /-- FRAME_INGRESS (R375). -/
  | frameIngress (p : Fin 16) (bs : List Byte) (ok : Bool) (idle : BitVec 16) (resid : BitVec 48)
  /-- GUARD_TIMER (R378). -/
  | guardTimer
  /-- GUARD_RETURN_TIMEOUT (R378). -/
  | guardReturnTimeout
  /-- RING_CLOSED (R378). -/
  | ringClosed
  /-- FLUSH (R378). -/
  | flush (p : Fin 16) (chip : BitVec 8) (seq : BitVec 32)
  /-- PTP_ENABLE (R380). -/
  | ptpEnable (i : Fin 4) (en : Bool)
  /-- PTP_MESSAGE_TIMER (R380). -/
  | ptpMessageTimer (i : Fin 4)
  /-- PTP_EVENT_RX (R381). -/
  | ptpEventRx (i typ : Fin 4) (seq : BitVec 16) (corr : BitVec 64) (two : Bool) (time peer : BitVec 80)
  /-- SAMPLE_SET_LATCH (R382). -/
  | sampleSetLatch (i : Fin 4)
  /-- ANNOUNCE_RX (R384). -/
  | announceRx (i : Fin 4) (gm : BitVec 64) (logi : BitVec 8)
  /-- ANNOUNCE_TIMEOUT (R384). -/
  | announceTimeout (i : Fin 4)
  /-- RX_ENABLE (R386). -/
  | rxEnable (r : Fin 16) (e : EnEv)
  /-- RX_PACKET (R386). -/
  | rxPacket (r : Fin 16) (pathB : Bool) (rts : BitVec 32) (rseq : BitVec 16) (marker overflow : Bool) (segs : List Srd)
  /-- TX_ENABLE (R388). -/
  | txEnable (t : Fin 8) (e : EnEv)
  /-- TX_FRAME_START (R388). -/
  | txFrameStart (t : Fin 8)
  /-- SND_LATE (R388). -/
  | sndLate (t : Fin 8)
  /-- CPU_TX (R389). -/
  | cpuTx (k : Fin 4)
  /-- DENSITY_WRITE (R392). -/
  | densityWrite (v : BitVec 2)
  /-- TRAINING_DONE (R392). -/
  | trainingDone
  /-- REFRESH_SLOT (R396). -/
  | refreshSlot (ce ue : List (BitVec 30))
  /-- DRAM_TEMP_POLL (R396). -/
  | dramTempPoll (hot : Bool)
  /-- RESV_WRITE (R400). -/
  | resvWrite (id : Fin 72) (rate : BitVec 12) (depth : BitVec 16)
  /-- STAGING_ENABLE (R403). -/
  | stagingEnable (i : Fin 32) (en : Bool)
  /-- STAGING_COPY_DONE (R403). -/
  | stagingCopyDone (i : Fin 32)
  /-- FILL_GO (R404). -/
  | fillGo (q : Fin 4)
  /-- FILL_DONE (R404). -/
  | fillDone (q : Fin 4)
  /-- POWER_DOMAIN_ENABLE (R406). -/
  | powerDomainEnable (d : Fin 221) (e : PwrEv)
  /-- TEMP_SENSOR_READ (R411). -/
  | tempSensorRead (hot : BitVec 16) (sensor : Fin 32) (power : BitVec 16)
  /-- EMERG_THROTTLE_START (R410). -/
  | emergThrottleStart (droop : Bool)
  /-- EMERG_THROTTLE_END (R410). -/
  | emergThrottleEnd
  /-- ALARM_USER (R438). -/
  | alarmUser (src : BitVec 8)
  /-- STICKY_CLEAR (R440). -/
  | stickyClear (i : Fin 8) (mask : BitVec 32)
  /-- LOG_PUT (R441). -/
  | logPut (code : BitVec 16)
  /-- LOG_RIDX_WRITE (R442). -/
  | logRidxWrite (trc : Bool) (v : BitVec 64)
  /-- TRACE_LEVEL_WRITE (R444). -/
  | traceLevelWrite (v : Fin 4)
  /-- TRACE_DECIMATION (R444). -/
  | traceDecimation
  /-- VLAN_EGRESS_TIMER (R445). -/
  | vlanEgressTimer
  /-- BEL_DOMAIN_ENABLE (R168). -/
  | belDomainEnable (d : Fin 6) (e : EnEv)
  /-- FILL_BELOW_CRIT (R402). -/
  | fillBelowCrit (n : Fin 4)
  /-- FETCH_LINE (R230). -/
  | fetchLine (n : Fin 4)
  /-- PCIE_LINK_TRAINED (R370). -/
  | pcieLinkTrained (speed : Fin 5) (width : Fin 4)
  /-- PORT_LINK_UP (R373). -/
  | portLinkUp (p : Fin 16)
  /-- LEARNED_ENTRY_AGE_OUT (R376). -/
  | learnedEntryAgeOut (vid : BitVec 12) (mac : BitVec 48)
  /-- PTP_GENERAL_MESSAGE (R382). -/
  | ptpGeneralMessage (i : Fin 4) (kind : Fin 3) (seq : BitVec 16) (corr : BitVec 64) (time : BitVec 80)
  /-- BAR4_WRITE (R352), and the other accesses to the device address space, to which the table gives no row. -/
  | bar4Write (w : MemAt) (x : MemAcc)
  /-- LOW_WORD_READ (R9). -/
  | lowWordRead (r : Req) (off : BitVec 26)
  deriving DecidableEq, Repr
end Sys2Proof
end

