-- ==== Sys2Proof/Decode.lean ====
section
/-! DEFINITION. The decoder of the table's words. The table of operations and events gives no row any bits: its rows are register
writes, messages and events, not words of a program. The words of Svetet programs are read by Machine/SvetDecode. -/
namespace Sys2Proof
/-- The command that a word of the table spells: none, for the table gives no row any bits. [log entry 3 DESIGN CHOICE] -/
def decodeTableWord (_nbits _w : Nat) : Option Instr := none
end Sys2Proof
end

