-- ==== Sys2Proof/Config.lean ====
section
/-! DEFINITION. The free values: what the spec leaves open and the machine goes on past. Each is an opaque constant
with no body, so nothing can be proved about its value. -/
namespace Sys2Proof.Config
/-- A free value, one per use: the machine's counter of free values selects it. [log entry 5 DESIGN CHOICE] -/
opaque free : Nat → Nat
/-- A free byte of use `n` at place `i`. -/
opaque freeByte : Nat → Nat → Byte
/-- The EVENT code of a trace event (R443 gives the field and only the marker's code 0x0000). [log entry 49 DESIGN CHOICE] -/
opaque traceEvent : Nat → BitVec 16
/-- The elements of a NORM (R125): sub-operation, partition count, EPS, the FP32 inputs of the row or channel, and the
place; the spec names the operation and fixes its sums (R76), and states no element's formula. [log entry 106 DESIGN CHOICE] -/
opaque norm : Nat → Nat → Nat → List Nat → Nat → BitVec 32
/-- The elements of a softmax: partition count, the FP32 inputs along the axis, and the place. -/
opaque softmax : Nat → List Nat → Nat → BitVec 32
/-- The code that a NaN quotient takes in a narrow output (R126 states none): code, zero point, the quotients of the tensor in canonical
order as dyadic numbers (none for a NaN), and the place. A function of the operands, as R243 asks. -/
opaque nanCode : Nat → Int → List (Option (Int × Int)) → Nat → Nat
/-- The FP16 or BF16 code that a NaN takes (R126 states none): code, the FP32 quotients of the tensor, and the place. -/
opaque nanHalf : Nat → List Nat → Nat → Nat
/-- TOPX of a wide output without an SDESC (R118 has it in the header, R123 names no source): the instruction's words, those of the
target's TDESC, and the codes written. -/
opaque openTopx : List Nat → List Nat → List Nat → Nat
/-- BEXP_MAX of the zero rows of a HALO on an ISLAND chip (R311 names none), below 64: the instruction's words and its descriptor's.
 -/
opaque zeroBmax : List Nat → List Nat → Nat
/-- The IPv4 source address of the packets that leave a port, over which R236's checksum runs: the spec gives it no register.
[log entry 272 DEDUCED] -/
opaque srcAddr : Nat → BitVec 32
/-- V of R209 where the flow has no period: factor, sign, Δt, step value. -/
opaque openVscale : Nat → Bool → Int → Nat → BitVec 16
/-- The wicket that pacer `s` signals for plot A (0) or plot B (1): WKA and WKB of R204, to which the spec gives no
register. [log entry 132 DESIGN CHOICE] -/
opaque pacerWicket : Nat → Nat → Nat
/-- What the group servo of R308 writes to INC and to STEP of TB6, by the measured offset and the INC in force: the spec gives
no control law. [log entry 188 DESIGN CHOICE] -/
opaque servoInc : Nat → Nat → Nat
opaque servoStep : Nat → Nat → Nat
/-- The version of the boot ROM, which MR0 is extended with (Table 17.5). -/
opaque romVersion : List Byte
end Sys2Proof.Config
end

