-- ==== Sys2Proof/Machine/RegMap.lean ====
section
/-! DEFINITION. The register map: every register and field of the spec's register tables, one `Reg` per register
name and one `Fld` per field, with page and stride (R11 and the placing rule of each chapter), access code (Table 0.3)
and reset value. -/
namespace Sys2Proof.Machine
/-- Access codes of Table 0.3 (R7). -/
inductive Acc | rw | ro | wo | w1c | w1s | rc | rws
  deriving DecidableEq, Repr
/-- The registers of the register space, named as the manual names them. GZB_ALM_ENTRY_HI is the upper 64-bit
register of the 128-bit GZB_ALM_ENTRY (R450). -/
inductive Reg
  | GLB_DEVID -- R3
  | SDL_CAPT -- R46
  | SDL_PAIR_SEQ -- R46
  | SDL_LC_APPLY -- R46
  | SDL_TB_CTRL -- R46
  | SDL_TB_STAT -- R46
  | SDL_TB_INC -- R46
  | SDL_TB_STEP -- R46
  | SDL_TB_LOAD_SEC -- R46
  | SDL_TB_SNAP_SEC -- R46
  | SDL_TB_LOAD_NSS -- R46
  | SDL_TB_SNAP_NSS -- R46
  | SDL_TB_JLIM -- R46
  | SDL_TB_LAST_REF -- R46
  | SDL_LC_CFG -- R46
  | SDL_LC_RATE -- R46
  | SDL_LC_OFFSET -- R46
  | SDL_LC_POS -- R46
  | SDL_LC_STAT -- R46
  | PTR_ARITH_CFG -- R78
  | PAV_ARITH_CNT -- R79
  | PAV_ARITH_LOSS -- R79
  | PLT_CTRL -- R110
  | PLT_STAT -- R110
  | PLT_IMAGE -- R110
  | PLT_GEN -- R110
  | PLT_QPTR -- R110
  | PAV_QPTR -- R110
  | PLT_STEP -- R110
  | PAV_STEP -- R110
  | PTR_PLOT_MAP -- R110
  | PTR_WKT -- R110
  | PLT_REC -- R136
  | PLT_RECIDX -- R136
  | PAV_LBUF -- R166
  | PAV_WIN_CNT -- R166
  | BEL_PWR_CTRL -- R197
  | BEL_ENG_STAT -- R197
  | BEL_SEG_FULL -- R197
  | BEL_SEG_RSV -- R197
  | BEL_CNT -- R197
  | BEL_IMG_W0 -- R197
  | BEL_IMG_W1 -- R197
  | BEL_IMG_W2 -- R197
  | BEL_IMG_W3 -- R197
  | BEL_FPSET -- R197
  | BEL_DPSET -- R197
  | BEL_DVTH -- R197
  | BEL_WPSET -- R197
  | PLT_STRM_CFG -- R216
  | PLT_STRM_BIND -- R216
  | PLT_STRM_BAND -- R216
  | PLT_STRM_IN -- R216
  | PLT_STRM_ISTR -- R216
  | PLT_STRM_XLIM -- R216
  | PLT_STRM_IDLY -- R216
  | PLT_STRM_POST -- R216
  | PLT_STRM_STAT -- R216
  | PLT_STRM_LOG -- R216
  | PLT_STRM_CNT -- R216
  | PLT_STRM_CNT2 -- R216
  | PLT_POST -- R216
  | PLT_POST_RING -- R216
  | PLT_POST_CNT -- R216
  | BST_LEAD -- R216
  | BST_COMMIT -- R242
  | BST_HCTRL -- R242
  | BST_HSTAT -- R242
  | BST_HTIM -- R242
  | BST_VTIM -- R242
  | BST_HSYNC -- R242
  | BST_VSYNC -- R242
  | BST_VRR -- R242
  | BST_LINK -- R242
  | BST_FMT -- R242
  | BST_BG -- R242
  | BST_WMARK -- R242
  | BST_DUSK -- R242
  | BST_PC_CFG -- R242
  | BST_PC_MISS -- R242
  | BST_PC_LAST -- R242
  | BST_HCNT -- R242
  | BST_HCNT2 -- R242
  | BST_PUSH_CFG -- R242
  | BST_PUSH_ORG -- R242
  | BST_PUSH_DST -- R242
  | BST_PUSH_UDP -- R242
  | BST_PUSH_REFR -- R242
  | BST_PUSH_STAGE -- R242
  | BST_LYR_CFG -- R242
  | BST_LYR_FETCH -- R242
  | BST_LYR_ADDR -- R242
  | BST_LYR_STAT -- R242
  | PLT_SEED_LO -- R265
  | PLT_SEED_HI -- R265
  | PLT_SAVE -- R265
  | PLT_RESUME -- R265
  | PTR_GBAR_CFG -- R265
  | PTR_GBAR_DLY -- R265
  | PTR_GBAR_STAT -- R265
  | PLT_SHARE -- R292
  | PLT_ADMIT -- R292
  | PLT_RUN -- R292
  | PLT_PRE_CNT -- R292
  | PLT_SLOT_CFG -- R292
  | PLT_SLOT_STAT -- R292
  | PLT_SLOT_IMAGE -- R292
  | PLT_SLOT_SAVE -- R292
  | PTR_CTX_CTRL -- R292
  | PTR_CTX_FREC -- R292
  | PTR_CTX_PCYC -- R292
  | PTR_CTX_BCYC -- R292
  | PLT_BAT_CFG -- R292
  | PLT_BAT_LIM -- R292
  | PLT_BAT_POOL -- R292
  | PLT_BAT_GRAN -- R292
  | PLT_BAT_WKT -- R292
  | PLT_BAT_CLS01 -- R292
  | PLT_BAT_CLS23 -- R292
  | PLT_BAT_REQ -- R292
  | PLT_BAT_MAP -- R292
  | PLT_BAT_RSP -- R292
  | PLT_BAT_RIDX -- R292
  | PLT_BAT_STAT -- R292
  | PLT_BAT_CNT -- R292
  | ZHL_GRP_CFG -- R316
  | ZHL_GRP_MEMBERS -- R316
  | ZHL_GRP_TIMING -- R316
  | ZHL_GCMD -- R316
  | ZHL_GRP_STAT -- R316
  | ZHL_RJFRAME -- R316
  | ZHL_TB6_OFS -- R316
  | ZHL_GRP_CNT -- R316
  | ZHL_ROUTE -- R316
  | ZHL_PROXY -- R316
  | ZHL_XCUT -- R316
  | ZHL_LNK_CTRL -- R316
  | ZHL_LNK_RTT -- R316
  | ZHL_LNK_CNT -- R316
  | LDG_HANG_CFG -- R348
  | LDG_RESET -- R348
  | LDG_STAT -- R348
  | LDG_KEEP -- R348
  | LDG_FW_ADDR -- R348
  | LDG_FW_CTRL -- R348
  | LDG_DUMP_BASE -- R348
  | LDG_DUMP_HOST -- R348
  | LDG_DUMP_CFG -- R348
  | LDG_DUMP_STAT -- R348
  | PTR_SPARE_ROW -- R348
  | PTR_SPARE_CMD -- R348
  | ARC_SCRUB_CFG -- R348
  | PCI_LINK -- R372
  | PCI_ACL -- R372
  | PCI_BAR4_OFS -- R372
  | PCI_MSIX_SRC -- R372
  | PCI_DMA_CTRL -- R372
  | PCI_DMA_RING -- R372
  | PCI_DMA_PTR -- R372
  | PCI_DMA_WLO -- R372
  | PCI_DMA_WHI -- R372
  | PCI_DMA_CNT -- R372
  | SPT_ADDR -- R372
  | SPT_STRIDE -- R372
  | SPT_LINE -- R372
  | SPT_COUNT -- R372
  | SPT_POS -- R372
  | SPT_CFG -- R372
  | SPT_CNT -- R372
  | ETH_RING_CFG -- R391
  | ETH_QOS -- R391
  | ETH_PORT_CFG -- R391
  | ETH_PORT_ASYM -- R391
  | ETH_PTP_CFG -- R391
  | ETH_RX_CFG -- R391
  | ETH_RX_GEO -- R391
  | ETH_TX_GEO -- R391
  | ETH_RX_DST_A -- R391
  | ETH_RX_DST_B -- R391
  | ETH_TX_DST -- R391
  | ETH_TX_CFG -- R391
  | ETH_TX_BUF -- R391
  | ETH_TX_RING -- R391
  | ETH_VLAN -- R391
  | ETH_CNT -- R391
  | ARC_CFG -- R413
  | ARC_ADMIT -- R413
  | ARC_CNT -- R413
  | ARC_RESV -- R413
  | ARC_STG -- R413
  | ARC_FILL_ADDR -- R413
  | ARC_FILL_LEN -- R413
  | ARC_FILL_PAT -- R413
  | ARC_FILL_CTRL -- R413
  | PWR_BUDGET -- R413
  | PWR_THERM_CFG -- R413
  | PWR_STAT -- R413
  | PWR_DOM_CTRL -- R413
  | ORG_ACL -- R436
  | ORG_HART_CTRL -- R436
  | ORG_HART_VEC -- R436
  | ORG_IRQ_ROUTE -- R436
  | GTH_STAT -- R436
  | GTH_MR -- R436
  | GTH_MBOX_CMD -- R436
  | GTH_MBOX_STAT -- R436
  | GZB_ALM_STICKY -- R450
  | GZB_ALM_ENTRY -- R450
  | GZB_ALM_ENTRY_HI -- R450
  | GZB_ALM_RAISE -- R450
  | GZB_LOG_RING -- R450
  | GZB_TRC_RING -- R450
  | GZB_LOG_WIDX -- R450
  | GZB_LOG_RIDX -- R450
  | GZB_TRC_WIDX -- R450
  | GZB_TRC_RIDX -- R450
  | GZB_LOG_CFG -- R450
  | GZB_LOG_PUT -- R450
  | GZB_LOG_PCODE -- R450
  | GZB_TRC_CFG -- R450
  | GZB_DROP -- R450
  | GZB_EGR_DST -- R450
  | GZB_TCNT -- R450
  deriving DecidableEq, Repr
/-- Where a register lies: page (Table 1.1), offset of its first instance in the page, the counts and strides of up to
two instance numbers, and whether it is 64 bits wide (R9). -/
structure RegDesc where
  page : Nat
  base : Nat
  n1 : Nat := 1
  s1 : Nat := 0
  n2 : Nat := 1
  s2 : Nat := 0
  wide : Bool := false
  deriving DecidableEq, Repr
/-- The placing of every register. -/
def Reg.desc : Reg → RegDesc
  | .GLB_DEVID => ⟨0, 0x0, 1, 0x0, 1, 0x0, false⟩
  | .SDL_CAPT => ⟨7, 0x0, 1, 0x0, 1, 0x0, false⟩
  | .SDL_PAIR_SEQ => ⟨7, 0x4, 1, 0x0, 1, 0x0, false⟩
  | .SDL_LC_APPLY => ⟨7, 0x8, 1, 0x0, 1, 0x0, false⟩
  | .SDL_TB_CTRL => ⟨7, 0x1000, 8, 0x100, 1, 0x0, false⟩
  | .SDL_TB_STAT => ⟨7, 0x1004, 8, 0x100, 1, 0x0, false⟩
  | .SDL_TB_INC => ⟨7, 0x1008, 8, 0x100, 1, 0x0, true⟩
  | .SDL_TB_STEP => ⟨7, 0x1010, 8, 0x100, 1, 0x0, true⟩
  | .SDL_TB_LOAD_SEC => ⟨7, 0x1018, 8, 0x100, 1, 0x0, true⟩
  | .SDL_TB_SNAP_SEC => ⟨7, 0x1030, 8, 0x100, 1, 0x0, true⟩
  | .SDL_TB_LOAD_NSS => ⟨7, 0x1020, 8, 0x100, 1, 0x0, true⟩
  | .SDL_TB_SNAP_NSS => ⟨7, 0x1038, 8, 0x100, 1, 0x0, true⟩
  | .SDL_TB_JLIM => ⟨7, 0x1028, 8, 0x100, 1, 0x0, false⟩
  | .SDL_TB_LAST_REF => ⟨7, 0x1040, 8, 0x100, 1, 0x0, true⟩
  | .SDL_LC_CFG => ⟨7, 0x2000, 4, 0x100, 1, 0x0, false⟩
  | .SDL_LC_RATE => ⟨7, 0x2004, 4, 0x100, 1, 0x0, false⟩
  | .SDL_LC_OFFSET => ⟨7, 0x2008, 4, 0x100, 1, 0x0, true⟩
  | .SDL_LC_POS => ⟨7, 0x2010, 4, 0x100, 1, 0x0, true⟩
  | .SDL_LC_STAT => ⟨7, 0x2018, 4, 0x100, 1, 0x0, false⟩
  | .PTR_ARITH_CFG => ⟨1, 0x400, 1, 0x0, 1, 0x0, false⟩
  | .PAV_ARITH_CNT => ⟨2, 0x300, 156, 0x1000, 1, 0x0, true⟩
  | .PAV_ARITH_LOSS => ⟨2, 0x308, 156, 0x1000, 1, 0x0, true⟩
  | .PLT_CTRL => ⟨3, 0x0, 32, 0x4000, 1, 0x0, false⟩
  | .PLT_STAT => ⟨3, 0x4, 32, 0x4000, 1, 0x0, false⟩
  | .PLT_IMAGE => ⟨3, 0x8, 32, 0x4000, 1, 0x0, true⟩
  | .PLT_GEN => ⟨3, 0x10, 32, 0x4000, 1, 0x0, false⟩
  | .PLT_QPTR => ⟨3, 0x18, 32, 0x4000, 1, 0x0, true⟩
  | .PAV_QPTR => ⟨2, 0x100, 156, 0x1000, 1, 0x0, true⟩
  | .PLT_STEP => ⟨3, 0x20, 32, 0x4000, 1, 0x0, true⟩
  | .PAV_STEP => ⟨2, 0x108, 156, 0x1000, 1, 0x0, true⟩
  | .PTR_PLOT_MAP => ⟨1, 0x800, 36, 0x4, 1, 0x0, false⟩
  | .PTR_WKT => ⟨1, 0x80000, 131072, 0x4, 1, 0x0, false⟩
  | .PLT_REC => ⟨3, 0x28, 32, 0x4000, 1, 0x0, true⟩
  | .PLT_RECIDX => ⟨3, 0x30, 32, 0x4000, 1, 0x0, true⟩
  | .PAV_LBUF => ⟨2, 0x310, 156, 0x1000, 1, 0x0, false⟩
  | .PAV_WIN_CNT => ⟨2, 0x318, 156, 0x1000, 1, 0x0, true⟩
  | .BEL_PWR_CTRL => ⟨5, 0x0, 6, 0x4, 1, 0x0, false⟩
  | .BEL_ENG_STAT => ⟨5, 0x40, 8, 0x8, 1, 0x0, true⟩
  | .BEL_SEG_FULL => ⟨5, 0x100, 12, 0x4, 1, 0x0, false⟩
  | .BEL_SEG_RSV => ⟨5, 0x140, 12, 0x4, 1, 0x0, false⟩
  | .BEL_CNT => ⟨5, 0x200, 1, 0x0, 1, 0x0, true⟩
  | .BEL_IMG_W0 => ⟨5, 0x1000, 256, 0x20, 1, 0x0, true⟩
  | .BEL_IMG_W1 => ⟨5, 0x1008, 256, 0x20, 1, 0x0, true⟩
  | .BEL_IMG_W2 => ⟨5, 0x1010, 256, 0x20, 1, 0x0, true⟩
  | .BEL_IMG_W3 => ⟨5, 0x1018, 256, 0x20, 1, 0x0, true⟩
  | .BEL_FPSET => ⟨5, 0x3000, 16, 0x8, 1, 0x0, true⟩
  | .BEL_DPSET => ⟨5, 0x3100, 16, 0x8, 1, 0x0, true⟩
  | .BEL_DVTH => ⟨5, 0x3200, 16, 0x4, 1, 0x0, false⟩
  | .BEL_WPSET => ⟨5, 0x3300, 16, 0x4, 1, 0x0, false⟩
  | .PLT_STRM_CFG => ⟨3, 0x80000, 16, 0x100, 1, 0x0, false⟩
  | .PLT_STRM_BIND => ⟨3, 0x80004, 16, 0x100, 1, 0x0, false⟩
  | .PLT_STRM_BAND => ⟨3, 0x80008, 16, 0x100, 1, 0x0, false⟩
  | .PLT_STRM_IN => ⟨3, 0x80010, 16, 0x100, 1, 0x0, true⟩
  | .PLT_STRM_ISTR => ⟨3, 0x80018, 16, 0x100, 1, 0x0, true⟩
  | .PLT_STRM_XLIM => ⟨3, 0x80020, 16, 0x100, 1, 0x0, false⟩
  | .PLT_STRM_IDLY => ⟨3, 0x80024, 16, 0x100, 1, 0x0, false⟩
  | .PLT_STRM_POST => ⟨3, 0x80028, 16, 0x100, 1, 0x0, false⟩
  | .PLT_STRM_STAT => ⟨3, 0x80030, 16, 0x100, 1, 0x0, true⟩
  | .PLT_STRM_LOG => ⟨3, 0x80038, 16, 0x100, 1, 0x0, true⟩
  | .PLT_STRM_CNT => ⟨3, 0x80040, 16, 0x100, 1, 0x0, true⟩
  | .PLT_STRM_CNT2 => ⟨3, 0x80048, 16, 0x100, 1, 0x0, true⟩
  | .PLT_POST => ⟨3, 0x38, 32, 0x4000, 1, 0x0, true⟩
  | .PLT_POST_RING => ⟨3, 0x40, 32, 0x4000, 1, 0x0, true⟩
  | .PLT_POST_CNT => ⟨3, 0x48, 32, 0x4000, 1, 0x0, true⟩
  | .BST_LEAD => ⟨6, 0x20, 4, 0x4, 1, 0x0, false⟩
  | .BST_COMMIT => ⟨6, 0x0, 1, 0x0, 1, 0x0, false⟩
  | .BST_HCTRL => ⟨6, 0x1000, 4, 0x400, 1, 0x0, false⟩
  | .BST_HSTAT => ⟨6, 0x1004, 4, 0x400, 1, 0x0, false⟩
  | .BST_HTIM => ⟨6, 0x1010, 4, 0x400, 1, 0x0, false⟩
  | .BST_VTIM => ⟨6, 0x1018, 4, 0x400, 1, 0x0, false⟩
  | .BST_HSYNC => ⟨6, 0x1014, 4, 0x400, 1, 0x0, false⟩
  | .BST_VSYNC => ⟨6, 0x101c, 4, 0x400, 1, 0x0, false⟩
  | .BST_VRR => ⟨6, 0x1020, 4, 0x400, 1, 0x0, false⟩
  | .BST_LINK => ⟨6, 0x1024, 4, 0x400, 1, 0x0, false⟩
  | .BST_FMT => ⟨6, 0x1028, 4, 0x400, 1, 0x0, false⟩
  | .BST_BG => ⟨6, 0x102c, 4, 0x400, 1, 0x0, false⟩
  | .BST_WMARK => ⟨6, 0x1030, 4, 0x400, 1, 0x0, false⟩
  | .BST_DUSK => ⟨6, 0x1034, 4, 0x400, 1, 0x0, false⟩
  | .BST_PC_CFG => ⟨6, 0x1040, 4, 0x400, 1, 0x0, false⟩
  | .BST_PC_MISS => ⟨6, 0x1044, 4, 0x400, 1, 0x0, false⟩
  | .BST_PC_LAST => ⟨6, 0x1048, 4, 0x400, 1, 0x0, true⟩
  | .BST_HCNT => ⟨6, 0x1060, 4, 0x400, 1, 0x0, true⟩
  | .BST_HCNT2 => ⟨6, 0x1068, 4, 0x400, 1, 0x0, true⟩
  | .BST_PUSH_CFG => ⟨6, 0x1080, 4, 0x400, 1, 0x0, false⟩
  | .BST_PUSH_ORG => ⟨6, 0x1084, 4, 0x400, 1, 0x0, false⟩
  | .BST_PUSH_DST => ⟨6, 0x1088, 4, 0x400, 1, 0x0, false⟩
  | .BST_PUSH_UDP => ⟨6, 0x108c, 4, 0x400, 1, 0x0, false⟩
  | .BST_PUSH_REFR => ⟨6, 0x1090, 4, 0x400, 1, 0x0, false⟩
  | .BST_PUSH_STAGE => ⟨6, 0x1098, 4, 0x400, 1, 0x0, true⟩
  | .BST_LYR_CFG => ⟨6, 0x1100, 4, 0x400, 4, 0x40, false⟩
  | .BST_LYR_FETCH => ⟨6, 0x1108, 4, 0x400, 4, 0x40, true⟩
  | .BST_LYR_ADDR => ⟨6, 0x1110, 4, 0x400, 4, 0x40, true⟩
  | .BST_LYR_STAT => ⟨6, 0x1118, 4, 0x400, 4, 0x40, false⟩
  | .PLT_SEED_LO => ⟨3, 0x100, 32, 0x4000, 8, 0x10, true⟩
  | .PLT_SEED_HI => ⟨3, 0x108, 32, 0x4000, 8, 0x10, true⟩
  | .PLT_SAVE => ⟨3, 0x180, 32, 0x4000, 1, 0x0, true⟩
  | .PLT_RESUME => ⟨3, 0x188, 32, 0x4000, 1, 0x0, true⟩
  | .PTR_GBAR_CFG => ⟨1, 0x900, 1, 0x0, 1, 0x0, false⟩
  | .PTR_GBAR_DLY => ⟨1, 0x904, 1, 0x0, 1, 0x0, false⟩
  | .PTR_GBAR_STAT => ⟨1, 0x908, 1, 0x0, 1, 0x0, false⟩
  | .PLT_SHARE => ⟨3, 0x200, 32, 0x4000, 1, 0x0, false⟩
  | .PLT_ADMIT => ⟨3, 0x208, 32, 0x4000, 1, 0x0, false⟩
  | .PLT_RUN => ⟨3, 0x20c, 32, 0x4000, 1, 0x0, false⟩
  | .PLT_PRE_CNT => ⟨3, 0x210, 32, 0x4000, 1, 0x0, true⟩
  | .PLT_SLOT_CFG => ⟨3, 0x400, 32, 0x4000, 16, 0x20, false⟩
  | .PLT_SLOT_STAT => ⟨3, 0x404, 32, 0x4000, 16, 0x20, false⟩
  | .PLT_SLOT_IMAGE => ⟨3, 0x408, 32, 0x4000, 16, 0x20, true⟩
  | .PLT_SLOT_SAVE => ⟨3, 0x410, 32, 0x4000, 16, 0x20, true⟩
  | .PTR_CTX_CTRL => ⟨1, 0x40000, 1024, 0x20, 1, 0x0, false⟩
  | .PTR_CTX_FREC => ⟨1, 0x40008, 1024, 0x20, 1, 0x0, true⟩
  | .PTR_CTX_PCYC => ⟨1, 0x40010, 1024, 0x20, 1, 0x0, true⟩
  | .PTR_CTX_BCYC => ⟨1, 0x40018, 1024, 0x20, 1, 0x0, true⟩
  | .PLT_BAT_CFG => ⟨3, 0x90000, 16, 0x100, 1, 0x0, false⟩
  | .PLT_BAT_LIM => ⟨3, 0x90004, 16, 0x100, 1, 0x0, false⟩
  | .PLT_BAT_POOL => ⟨3, 0x90008, 16, 0x100, 1, 0x0, true⟩
  | .PLT_BAT_GRAN => ⟨3, 0x90010, 16, 0x100, 1, 0x0, false⟩
  | .PLT_BAT_WKT => ⟨3, 0x90014, 16, 0x100, 1, 0x0, false⟩
  | .PLT_BAT_CLS01 => ⟨3, 0x90018, 16, 0x100, 1, 0x0, false⟩
  | .PLT_BAT_CLS23 => ⟨3, 0x9001c, 16, 0x100, 1, 0x0, false⟩
  | .PLT_BAT_REQ => ⟨3, 0x90020, 16, 0x100, 1, 0x0, false⟩
  | .PLT_BAT_MAP => ⟨3, 0x90028, 16, 0x100, 1, 0x0, true⟩
  | .PLT_BAT_RSP => ⟨3, 0x90030, 16, 0x100, 1, 0x0, true⟩
  | .PLT_BAT_RIDX => ⟨3, 0x90038, 16, 0x100, 1, 0x0, true⟩
  | .PLT_BAT_STAT => ⟨3, 0x90040, 16, 0x100, 1, 0x0, true⟩
  | .PLT_BAT_CNT => ⟨3, 0x90048, 16, 0x100, 1, 0x0, true⟩
  | .ZHL_GRP_CFG => ⟨8, 0x0, 1, 0x0, 1, 0x0, false⟩
  | .ZHL_GRP_MEMBERS => ⟨8, 0x4, 1, 0x0, 1, 0x0, false⟩
  | .ZHL_GRP_TIMING => ⟨8, 0x8, 1, 0x0, 1, 0x0, false⟩
  | .ZHL_GCMD => ⟨8, 0xc, 1, 0x0, 1, 0x0, false⟩
  | .ZHL_GRP_STAT => ⟨8, 0x10, 1, 0x0, 1, 0x0, true⟩
  | .ZHL_RJFRAME => ⟨8, 0x18, 1, 0x0, 1, 0x0, false⟩
  | .ZHL_TB6_OFS => ⟨8, 0x20, 1, 0x0, 1, 0x0, true⟩
  | .ZHL_GRP_CNT => ⟨8, 0x28, 1, 0x0, 1, 0x0, true⟩
  | .ZHL_ROUTE => ⟨8, 0x800, 32, 0x4, 1, 0x0, false⟩
  | .ZHL_PROXY => ⟨8, 0x8000, 4096, 0x8, 1, 0x0, true⟩
  | .ZHL_XCUT => ⟨8, 0x10000, 4096, 0x4, 1, 0x0, false⟩
  | .ZHL_LNK_CTRL => ⟨8, 0x1000, 8, 0x100, 1, 0x0, false⟩
  | .ZHL_LNK_RTT => ⟨8, 0x1004, 8, 0x100, 1, 0x0, false⟩
  | .ZHL_LNK_CNT => ⟨8, 0x1008, 8, 0x100, 1, 0x0, true⟩
  | .LDG_HANG_CFG => ⟨12, 0x0, 1, 0x0, 1, 0x0, false⟩
  | .LDG_RESET => ⟨12, 0x4, 1, 0x0, 1, 0x0, false⟩
  | .LDG_STAT => ⟨12, 0x8, 1, 0x0, 1, 0x0, true⟩
  | .LDG_KEEP => ⟨12, 0x10, 1, 0x0, 1, 0x0, false⟩
  | .LDG_FW_ADDR => ⟨12, 0x18, 1, 0x0, 1, 0x0, true⟩
  | .LDG_FW_CTRL => ⟨12, 0x20, 1, 0x0, 1, 0x0, false⟩
  | .LDG_DUMP_BASE => ⟨12, 0x28, 1, 0x0, 1, 0x0, true⟩
  | .LDG_DUMP_HOST => ⟨12, 0x30, 1, 0x0, 1, 0x0, true⟩
  | .LDG_DUMP_CFG => ⟨12, 0x38, 1, 0x0, 1, 0x0, false⟩
  | .LDG_DUMP_STAT => ⟨12, 0x3c, 1, 0x0, 1, 0x0, false⟩
  | .PTR_SPARE_ROW => ⟨1, 0xa00, 12, 0x4, 1, 0x0, false⟩
  | .PTR_SPARE_CMD => ⟨1, 0xa40, 1, 0x0, 1, 0x0, false⟩
  | .ARC_SCRUB_CFG => ⟨4, 0x600, 1, 0x0, 1, 0x0, false⟩
  | .PCI_LINK => ⟨10, 0x0, 1, 0x0, 1, 0x0, false⟩
  | .PCI_ACL => ⟨10, 0x4, 1, 0x0, 1, 0x0, false⟩
  | .PCI_BAR4_OFS => ⟨10, 0x8, 1, 0x0, 1, 0x0, true⟩
  | .PCI_MSIX_SRC => ⟨10, 0x100, 64, 0x4, 1, 0x0, false⟩
  | .PCI_DMA_CTRL => ⟨10, 0x1000, 16, 0x100, 1, 0x0, false⟩
  | .PCI_DMA_RING => ⟨10, 0x1008, 16, 0x100, 1, 0x0, true⟩
  | .PCI_DMA_PTR => ⟨10, 0x1010, 16, 0x100, 1, 0x0, false⟩
  | .PCI_DMA_WLO => ⟨10, 0x1018, 16, 0x100, 1, 0x0, true⟩
  | .PCI_DMA_WHI => ⟨10, 0x1020, 16, 0x100, 1, 0x0, true⟩
  | .PCI_DMA_CNT => ⟨10, 0x1028, 16, 0x100, 1, 0x0, true⟩
  | .SPT_ADDR => ⟨11, 0x1000, 16, 0x100, 1, 0x0, true⟩
  | .SPT_STRIDE => ⟨11, 0x1008, 16, 0x100, 1, 0x0, false⟩
  | .SPT_LINE => ⟨11, 0x100c, 16, 0x100, 1, 0x0, false⟩
  | .SPT_COUNT => ⟨11, 0x1010, 16, 0x100, 1, 0x0, true⟩
  | .SPT_POS => ⟨11, 0x1018, 16, 0x100, 1, 0x0, true⟩
  | .SPT_CFG => ⟨11, 0x1020, 16, 0x100, 1, 0x0, false⟩
  | .SPT_CNT => ⟨11, 0x1028, 16, 0x100, 1, 0x0, true⟩
  | .ETH_RING_CFG => ⟨9, 0x0, 1, 0x0, 1, 0x0, false⟩
  | .ETH_QOS => ⟨9, 0x4, 1, 0x0, 1, 0x0, true⟩
  | .ETH_PORT_CFG => ⟨9, 0x1000, 4, 0x100, 1, 0x0, false⟩
  | .ETH_PORT_ASYM => ⟨9, 0x1008, 4, 0x100, 1, 0x0, false⟩
  | .ETH_PTP_CFG => ⟨9, 0x2000, 5, 0x100, 1, 0x0, false⟩
  | .ETH_RX_CFG => ⟨9, 0x3000, 16, 0x40, 1, 0x0, false⟩
  | .ETH_RX_GEO => ⟨9, 0x3004, 16, 0x40, 1, 0x0, false⟩
  | .ETH_TX_GEO => ⟨9, 0x4004, 8, 0x40, 1, 0x0, false⟩
  | .ETH_RX_DST_A => ⟨9, 0x3008, 16, 0x40, 1, 0x0, true⟩
  | .ETH_RX_DST_B => ⟨9, 0x3010, 16, 0x40, 1, 0x0, true⟩
  | .ETH_TX_DST => ⟨9, 0x4010, 8, 0x40, 1, 0x0, true⟩
  | .ETH_TX_CFG => ⟨9, 0x4000, 8, 0x40, 1, 0x0, false⟩
  | .ETH_TX_BUF => ⟨9, 0x4008, 8, 0x40, 1, 0x0, true⟩
  | .ETH_TX_RING => ⟨9, 0x4018, 8, 0x40, 1, 0x0, true⟩
  | .ETH_VLAN => ⟨9, 0x10000, 4096, 0x8, 1, 0x0, true⟩
  | .ETH_CNT => ⟨9, 0x1010, 4, 0x100, 1, 0x0, true⟩
  | .ARC_CFG => ⟨4, 0x0, 1, 0x0, 1, 0x0, false⟩
  | .ARC_ADMIT => ⟨4, 0x8, 1, 0x0, 1, 0x0, false⟩
  | .ARC_CNT => ⟨4, 0x10, 1, 0x0, 1, 0x0, true⟩
  | .ARC_RESV => ⟨4, 0x1000, 72, 0x8, 1, 0x0, true⟩
  | .ARC_STG => ⟨4, 0x800, 32, 0x8, 1, 0x0, true⟩
  | .ARC_FILL_ADDR => ⟨4, 0x400, 4, 0x20, 1, 0x0, true⟩
  | .ARC_FILL_LEN => ⟨4, 0x408, 4, 0x20, 1, 0x0, true⟩
  | .ARC_FILL_PAT => ⟨4, 0x410, 4, 0x20, 1, 0x0, true⟩
  | .ARC_FILL_CTRL => ⟨4, 0x418, 4, 0x20, 1, 0x0, false⟩
  | .PWR_BUDGET => ⟨16, 0x0, 1, 0x0, 1, 0x0, false⟩
  | .PWR_THERM_CFG => ⟨16, 0x8, 1, 0x0, 1, 0x0, false⟩
  | .PWR_STAT => ⟨16, 0x10, 1, 0x0, 1, 0x0, true⟩
  | .PWR_DOM_CTRL => ⟨16, 0x1000, 221, 0x4, 1, 0x0, false⟩
  | .ORG_ACL => ⟨14, 0x0, 1, 0x0, 1, 0x0, false⟩
  | .ORG_HART_CTRL => ⟨14, 0x100, 16, 0x4, 1, 0x0, false⟩
  | .ORG_HART_VEC => ⟨14, 0x200, 1, 0x0, 1, 0x0, true⟩
  | .ORG_IRQ_ROUTE => ⟨14, 0x400, 64, 0x4, 1, 0x0, false⟩
  | .GTH_STAT => ⟨13, 0x0, 1, 0x0, 1, 0x0, false⟩
  | .GTH_MR => ⟨13, 0x100, 8, 0x40, 6, 0x8, true⟩
  | .GTH_MBOX_CMD => ⟨13, 0x1000, 2, 0x1000, 1, 0x0, false⟩
  | .GTH_MBOX_STAT => ⟨13, 0x1004, 2, 0x1000, 1, 0x0, false⟩
  | .GZB_ALM_STICKY => ⟨15, 0x0, 8, 0x4, 1, 0x0, false⟩
  | .GZB_ALM_ENTRY => ⟨15, 0x1000, 256, 0x10, 1, 0x0, true⟩
  | .GZB_ALM_ENTRY_HI => ⟨15, 0x1008, 256, 0x10, 1, 0x0, true⟩
  | .GZB_ALM_RAISE => ⟨15, 0x100, 1, 0x0, 1, 0x0, false⟩
  | .GZB_LOG_RING => ⟨15, 0x200, 1, 0x0, 1, 0x0, true⟩
  | .GZB_TRC_RING => ⟨15, 0x240, 1, 0x0, 1, 0x0, true⟩
  | .GZB_LOG_WIDX => ⟨15, 0x208, 1, 0x0, 1, 0x0, true⟩
  | .GZB_LOG_RIDX => ⟨15, 0x210, 1, 0x0, 1, 0x0, true⟩
  | .GZB_TRC_WIDX => ⟨15, 0x248, 1, 0x0, 1, 0x0, true⟩
  | .GZB_TRC_RIDX => ⟨15, 0x250, 1, 0x0, 1, 0x0, true⟩
  | .GZB_LOG_CFG => ⟨15, 0x218, 1, 0x0, 1, 0x0, false⟩
  | .GZB_LOG_PUT => ⟨15, 0x220, 2, 0x8, 1, 0x0, true⟩
  | .GZB_LOG_PCODE => ⟨15, 0x230, 1, 0x0, 1, 0x0, false⟩
  | .GZB_TRC_CFG => ⟨15, 0x258, 1, 0x0, 1, 0x0, false⟩
  | .GZB_DROP => ⟨15, 0x260, 1, 0x0, 1, 0x0, true⟩
  | .GZB_EGR_DST => ⟨15, 0x280, 1, 0x0, 1, 0x0, true⟩
  | .GZB_TCNT => ⟨15, 0x300, 4, 0x8, 1, 0x0, true⟩
/-- A field: its register, lowest bit, width, access code and reset value. -/
structure Fld where
  reg : Reg
  lo : Nat
  w : Nat
  acc : Acc
  rst : Nat
  deriving DecidableEq, Repr
def GLB_DEVID_PART : Fld := ⟨.GLB_DEVID, 16, 16, .ro, 0x9600⟩
def GLB_DEVID_FAMILY : Fld := ⟨.GLB_DEVID, 8, 8, .ro, 0x0⟩
def GLB_DEVID_STEP_MAJOR : Fld := ⟨.GLB_DEVID, 4, 4, .ro, 0x1⟩
def GLB_DEVID_STEP_MINOR : Fld := ⟨.GLB_DEVID, 0, 4, .ro, 0x1⟩
def SDL_CAPT_CAPT : Fld := ⟨.SDL_CAPT, 0, 8, .w1s, 0x0⟩
def SDL_CAPT_PAIR : Fld := ⟨.SDL_CAPT, 8, 1, .w1s, 0x0⟩
def SDL_PAIR_SEQ_SEQ : Fld := ⟨.SDL_PAIR_SEQ, 0, 32, .ro, 0x0⟩
def SDL_LC_APPLY_APPLY : Fld := ⟨.SDL_LC_APPLY, 0, 4, .w1s, 0x0⟩
def SDL_TB_CTRL_OVR : Fld := ⟨.SDL_TB_CTRL, 0, 1, .w1s, 0x0⟩
def SDL_TB_CTRL_LOAD : Fld := ⟨.SDL_TB_CTRL, 1, 1, .w1s, 0x0⟩
def SDL_TB_CTRL_UNSET : Fld := ⟨.SDL_TB_CTRL, 2, 1, .ro, 0x1⟩
def SDL_TB_STAT_HOLDOVER : Fld := ⟨.SDL_TB_STAT, 0, 1, .w1c, 0x0⟩
def SDL_TB_STAT_JUMP_REFUSED : Fld := ⟨.SDL_TB_STAT, 1, 1, .w1c, 0x0⟩
def SDL_TB_STAT_DISCARDS : Fld := ⟨.SDL_TB_STAT, 16, 16, .rc, 0x0⟩
def SDL_TB_INC_INC : Fld := ⟨.SDL_TB_INC, 0, 40, .rws, 0x200000000⟩
def SDL_TB_STEP_STEP : Fld := ⟨.SDL_TB_STEP, 0, 64, .wo, 0x0⟩
def SDL_TB_LOAD_SEC_SEC : Fld := ⟨.SDL_TB_LOAD_SEC, 0, 48, .rw, 0x0⟩
def SDL_TB_SNAP_SEC_SEC : Fld := ⟨.SDL_TB_SNAP_SEC, 0, 48, .ro, 0x0⟩
def SDL_TB_LOAD_NSS_SUB : Fld := ⟨.SDL_TB_LOAD_NSS, 0, 4, .rw, 0x0⟩
def SDL_TB_LOAD_NSS_NS : Fld := ⟨.SDL_TB_LOAD_NSS, 4, 30, .rw, 0x0⟩
def SDL_TB_SNAP_NSS_SUB : Fld := ⟨.SDL_TB_SNAP_NSS, 0, 4, .ro, 0x0⟩
def SDL_TB_SNAP_NSS_NS : Fld := ⟨.SDL_TB_SNAP_NSS, 4, 30, .ro, 0x0⟩
def SDL_TB_JLIM_JLIM : Fld := ⟨.SDL_TB_JLIM, 0, 32, .rws, 0x3e8⟩
def SDL_TB_LAST_REF_JUMP : Fld := ⟨.SDL_TB_LAST_REF, 0, 63, .ro, 0x0⟩
def SDL_LC_CFG_MODE : Fld := ⟨.SDL_LC_CFG, 0, 2, .rws, 0x0⟩
def SDL_LC_CFG_BASE : Fld := ⟨.SDL_LC_CFG, 4, 3, .rws, 0x0⟩
def SDL_LC_CFG_SLEW : Fld := ⟨.SDL_LC_CFG, 8, 8, .rws, 0x1⟩
def SDL_LC_CFG_TOL : Fld := ⟨.SDL_LC_CFG, 16, 8, .rws, 0x4⟩
def SDL_LC_CFG_DIV : Fld := ⟨.SDL_LC_CFG, 24, 4, .rws, 0x0⟩
def SDL_LC_RATE_DEN : Fld := ⟨.SDL_LC_RATE, 0, 16, .rws, 0x1⟩
def SDL_LC_RATE_NUM : Fld := ⟨.SDL_LC_RATE, 16, 16, .rws, 0x3c⟩
def SDL_LC_OFFSET_OFFSET : Fld := ⟨.SDL_LC_OFFSET, 0, 64, .rws, 0x0⟩
def SDL_LC_POS_P : Fld := ⟨.SDL_LC_POS, 0, 16, .ro, 0x0⟩
def SDL_LC_POS_L : Fld := ⟨.SDL_LC_POS, 16, 16, .ro, 0x0⟩
def SDL_LC_POS_F : Fld := ⟨.SDL_LC_POS, 32, 32, .ro, 0x0⟩
def SDL_LC_STAT_GENLOCK_LOST : Fld := ⟨.SDL_LC_STAT, 0, 1, .w1c, 0x0⟩
def SDL_LC_STAT_ALIGNED : Fld := ⟨.SDL_LC_STAT, 1, 1, .ro, 0x0⟩
def SDL_LC_STAT_OUTLIERS : Fld := ⟨.SDL_LC_STAT, 8, 8, .rc, 0x0⟩
def PTR_ARITH_CFG_SAT_SHIFT : Fld := ⟨.PTR_ARITH_CFG, 0, 5, .rws, 0xc⟩
def PTR_ARITH_CFG_LOW_SHIFT : Fld := ⟨.PTR_ARITH_CFG, 8, 4, .rws, 0x4⟩
def PAV_ARITH_CNT_A96SAT : Fld := ⟨.PAV_ARITH_CNT, 0, 16, .rc, 0x0⟩
def PAV_ARITH_CNT_SKEW : Fld := ⟨.PAV_ARITH_CNT, 16, 16, .rc, 0x0⟩
def PAV_ARITH_CNT_MISS : Fld := ⟨.PAV_ARITH_CNT, 32, 16, .rc, 0x0⟩
def PAV_ARITH_CNT_NONFIN : Fld := ⟨.PAV_ARITH_CNT, 48, 16, .rc, 0x0⟩
def PAV_ARITH_LOSS_WLOSS : Fld := ⟨.PAV_ARITH_LOSS, 0, 40, .rc, 0x0⟩
def PAV_ARITH_LOSS_ALOSS : Fld := ⟨.PAV_ARITH_LOSS, 40, 24, .rc, 0x0⟩
def PLT_CTRL_EN : Fld := ⟨.PLT_CTRL, 0, 1, .rw, 0x0⟩
def PLT_CTRL_LC : Fld := ⟨.PLT_CTRL, 1, 2, .rw, 0x0⟩
def PLT_STAT_STATE : Fld := ⟨.PLT_STAT, 0, 2, .ro, 0x0⟩
def PLT_STAT_PENDING_ON : Fld := ⟨.PLT_STAT, 2, 1, .ro, 0x0⟩
def PLT_STAT_LOADFAULT : Fld := ⟨.PLT_STAT, 16, 16, .ro, 0x0⟩
def PLT_IMAGE_ADDR : Fld := ⟨.PLT_IMAGE, 6, 42, .rw, 0x0⟩
def PLT_GEN_GEN : Fld := ⟨.PLT_GEN, 0, 12, .ro, 0x0⟩
def PLT_QPTR_PC : Fld := ⟨.PLT_QPTR, 0, 16, .ro, 0x0⟩
def PLT_QPTR_L1 : Fld := ⟨.PLT_QPTR, 16, 16, .ro, 0x0⟩
def PLT_QPTR_L2 : Fld := ⟨.PLT_QPTR, 32, 16, .ro, 0x0⟩
def PLT_QPTR_L3 : Fld := ⟨.PLT_QPTR, 48, 16, .ro, 0x0⟩
def PAV_QPTR_PC : Fld := ⟨.PAV_QPTR, 0, 16, .ro, 0x0⟩
def PAV_QPTR_L1 : Fld := ⟨.PAV_QPTR, 16, 16, .ro, 0x0⟩
def PAV_QPTR_L2 : Fld := ⟨.PAV_QPTR, 32, 16, .ro, 0x0⟩
def PAV_QPTR_L3 : Fld := ⟨.PAV_QPTR, 48, 16, .ro, 0x0⟩
def PLT_STEP_STEP : Fld := ⟨.PLT_STEP, 0, 64, .ro, 0x0⟩
def PAV_STEP_STEP : Fld := ⟨.PAV_STEP, 0, 64, .ro, 0x0⟩
def PTR_PLOT_MAP_PLOT0 : Fld := ⟨.PTR_PLOT_MAP, 0, 5, .rw, 0x0⟩
def PTR_PLOT_MAP_VALID0 : Fld := ⟨.PTR_PLOT_MAP, 7, 1, .rw, 0x0⟩
def PTR_PLOT_MAP_PLOT1 : Fld := ⟨.PTR_PLOT_MAP, 8, 5, .rw, 0x0⟩
def PTR_PLOT_MAP_VALID1 : Fld := ⟨.PTR_PLOT_MAP, 15, 1, .rw, 0x0⟩
def PTR_PLOT_MAP_PLOT2 : Fld := ⟨.PTR_PLOT_MAP, 16, 5, .rw, 0x0⟩
def PTR_PLOT_MAP_VALID2 : Fld := ⟨.PTR_PLOT_MAP, 23, 1, .rw, 0x0⟩
def PTR_PLOT_MAP_PLOT3 : Fld := ⟨.PTR_PLOT_MAP, 24, 5, .rw, 0x0⟩
def PTR_PLOT_MAP_VALID3 : Fld := ⟨.PTR_PLOT_MAP, 31, 1, .rw, 0x0⟩
def PTR_WKT_OWNER : Fld := ⟨.PTR_WKT, 0, 10, .rw, 0x0⟩
def PTR_WKT_V : Fld := ⟨.PTR_WKT, 10, 1, .rw, 0x0⟩
def PTR_WKT_BMODE : Fld := ⟨.PTR_WKT, 11, 1, .ro, 0x0⟩
def PTR_WKT_WKIND : Fld := ⟨.PTR_WKT, 12, 3, .ro, 0x0⟩
def PTR_WKT_WID : Fld := ⟨.PTR_WKT, 15, 13, .ro, 0x0⟩
def PLT_REC_BASE : Fld := ⟨.PLT_REC, 6, 42, .rw, 0x0⟩
def PLT_REC_SIZE : Fld := ⟨.PLT_REC, 48, 16, .rw, 0x0⟩
def PLT_RECIDX_COUNT : Fld := ⟨.PLT_RECIDX, 0, 64, .ro, 0x0⟩
def PAV_LBUF_BANKS : Fld := ⟨.PAV_LBUF, 0, 24, .ro, 0x0⟩
def PAV_LBUF_PEAK : Fld := ⟨.PAV_LBUF, 24, 3, .rc, 0x0⟩
def PAV_WIN_CNT_EMPTY : Fld := ⟨.PAV_WIN_CNT, 0, 16, .rc, 0x0⟩
def PAV_WIN_CNT_LBSHORT : Fld := ⟨.PAV_WIN_CNT, 16, 16, .rc, 0x0⟩
def PAV_WIN_CNT_HOSTDROP : Fld := ⟨.PAV_WIN_CNT, 32, 16, .rc, 0x0⟩
def BEL_PWR_CTRL_EN : Fld := ⟨.BEL_PWR_CTRL, 0, 1, .rw, 0x0⟩
def BEL_PWR_CTRL_STATE : Fld := ⟨.BEL_PWR_CTRL, 1, 2, .ro, 0x0⟩
def BEL_PWR_CTRL_PENDING_ON : Fld := ⟨.BEL_PWR_CTRL, 3, 1, .ro, 0x0⟩
def BEL_ENG_STAT_QDEPTH : Fld := ⟨.BEL_ENG_STAT, 0, 4, .ro, 0x0⟩
def BEL_ENG_STAT_BUSY : Fld := ⟨.BEL_ENG_STAT, 4, 1, .ro, 0x0⟩
def BEL_ENG_STAT_DONE : Fld := ⟨.BEL_ENG_STAT, 32, 32, .ro, 0x0⟩
def BEL_SEG_FULL_SEG : Fld := ⟨.BEL_SEG_FULL, 0, 32, .ro, 0x0⟩
def BEL_SEG_RSV_SEG : Fld := ⟨.BEL_SEG_RSV, 0, 32, .ro, 0x0⟩
def BEL_CNT_FLOWINV : Fld := ⟨.BEL_CNT, 0, 16, .rc, 0x0⟩
def BEL_CNT_OCC : Fld := ⟨.BEL_CNT, 16, 16, .rc, 0x0⟩
def BEL_CNT_LOWTEX : Fld := ⟨.BEL_CNT, 32, 16, .rc, 0x0⟩
def BEL_CNT_BADVEC : Fld := ⟨.BEL_CNT, 48, 16, .rc, 0x0⟩
def BEL_IMG_W0_KIND : Fld := ⟨.BEL_IMG_W0, 0, 3, .rw, 0x0⟩
def BEL_IMG_W0_FORMAT : Fld := ⟨.BEL_IMG_W0, 4, 4, .rw, 0x0⟩
def BEL_IMG_W0_CONSUME : Fld := ⟨.BEL_IMG_W0, 8, 1, .rw, 0x0⟩
def BEL_IMG_W0_BLVL : Fld := ⟨.BEL_IMG_W0, 9, 2, .rw, 0x0⟩
def BEL_IMG_W0_PLV : Fld := ⟨.BEL_IMG_W0, 11, 3, .rw, 0x0⟩
def BEL_IMG_W0_OWNER : Fld := ⟨.BEL_IMG_W0, 16, 10, .rw, 0x0⟩
def BEL_IMG_W0_RPTR : Fld := ⟨.BEL_IMG_W0, 26, 3, .ro, 0x0⟩
def BEL_IMG_W0_WIDTH : Fld := ⟨.BEL_IMG_W0, 32, 16, .rw, 0x0⟩
def BEL_IMG_W0_HEIGHT : Fld := ⟨.BEL_IMG_W0, 48, 16, .rw, 0x0⟩
def BEL_IMG_W1_BASE : Fld := ⟨.BEL_IMG_W1, 0, 48, .rw, 0x0⟩
/-- A second reading of BASE's bits (KIND 3, R197). -/
def BEL_IMG_W1_BANK0 : Fld := ⟨.BEL_IMG_W1, 0, 5, .rw, 0⟩
/-- A second reading of BASE's bits (KIND 3, R197). -/
def BEL_IMG_W1_DEPTH : Fld := ⟨.BEL_IMG_W1, 5, 3, .rw, 0⟩
/-- A second reading of BASE's bits (KIND 3, R197). -/
def BEL_IMG_W1_SBANKS : Fld := ⟨.BEL_IMG_W1, 8, 2, .rw, 0⟩
/-- A second reading of BASE's bits (KIND 3, R197). -/
def BEL_IMG_W1_STAGE : Fld := ⟨.BEL_IMG_W1, 10, 8, .rw, 0⟩
/-- A second reading of BASE's bits (KIND 3, R197). -/
def BEL_IMG_W1_CHID : Fld := ⟨.BEL_IMG_W1, 18, 8, .rw, 0⟩
def BEL_IMG_W2_RING : Fld := ⟨.BEL_IMG_W2, 0, 16, .rw, 0x0⟩
def BEL_IMG_W2_STEP_OFS : Fld := ⟨.BEL_IMG_W2, 16, 16, .rw, 0x0⟩
def BEL_IMG_W2_STRIDE : Fld := ⟨.BEL_IMG_W2, 32, 32, .rw, 0x0⟩
def BEL_IMG_W3_PITCH : Fld := ⟨.BEL_IMG_W3, 0, 24, .rw, 0x0⟩
def BEL_IMG_W3_BROWS : Fld := ⟨.BEL_IMG_W3, 24, 16, .rw, 0x0⟩
def BEL_IMG_W3_COFS : Fld := ⟨.BEL_IMG_W3, 40, 24, .rw, 0x0⟩
def BEL_FPSET_LEVELS : Fld := ⟨.BEL_FPSET, 0, 3, .rw, 0x5⟩
def BEL_FPSET_SR : Fld := ⟨.BEL_FPSET, 3, 4, .rw, 0x4⟩
def BEL_FPSET_CW : Fld := ⟨.BEL_FPSET, 7, 4, .rw, 0x4⟩
def BEL_FPSET_CLIP : Fld := ⟨.BEL_FPSET, 11, 8, .rw, 0x20⟩
def BEL_FPSET_CONF_MIN : Fld := ⟨.BEL_FPSET, 19, 8, .rw, 0x10⟩
def BEL_FPSET_COST_MAX : Fld := ⟨.BEL_FPSET, 32, 16, .rw, 0xffff⟩
def BEL_DPSET_DMAX : Fld := ⟨.BEL_DPSET, 0, 8, .rw, 0xff⟩
def BEL_DPSET_LRC : Fld := ⟨.BEL_DPSET, 8, 1, .rw, 0x1⟩
def BEL_DPSET_CW : Fld := ⟨.BEL_DPSET, 9, 4, .rw, 0x4⟩
def BEL_DPSET_CLIP : Fld := ⟨.BEL_DPSET, 13, 8, .rw, 0x20⟩
def BEL_DPSET_THR : Fld := ⟨.BEL_DPSET, 21, 11, .rw, 0x10⟩
def BEL_DPSET_P1 : Fld := ⟨.BEL_DPSET, 32, 12, .rw, 0x28⟩
def BEL_DPSET_P2 : Fld := ⟨.BEL_DPSET, 44, 12, .rw, 0x190⟩
def BEL_DVTH_VTH : Fld := ⟨.BEL_DVTH, 0, 32, .rw, 0x9c4⟩
def BEL_WPSET_FILTER : Fld := ⟨.BEL_WPSET, 0, 2, .rw, 0x1⟩
def BEL_WPSET_OP : Fld := ⟨.BEL_WPSET, 2, 1, .rw, 0x0⟩
def BEL_WPSET_VG : Fld := ⟨.BEL_WPSET, 4, 6, .rw, 0x0⟩
def BEL_WPSET_VSCALE : Fld := ⟨.BEL_WPSET, 16, 16, .rw, 0x1000⟩
def PLT_STRM_CFG_EN : Fld := ⟨.PLT_STRM_CFG, 0, 1, .rw, 0x0⟩
def PLT_STRM_CFG_STATE : Fld := ⟨.PLT_STRM_CFG, 1, 2, .ro, 0x0⟩
def PLT_STRM_CFG_PENDING_ON : Fld := ⟨.PLT_STRM_CFG, 3, 1, .ro, 0x0⟩
def PLT_STRM_CFG_MODE : Fld := ⟨.PLT_STRM_CFG, 4, 2, .rw, 0x0⟩
def PLT_STRM_CFG_FACTOR : Fld := ⟨.PLT_STRM_CFG, 6, 3, .rw, 0x0⟩
def PLT_STRM_CFG_HEADS : Fld := ⟨.PLT_STRM_CFG, 9, 4, .rw, 0x0⟩
def PLT_STRM_CFG_LC : Fld := ⟨.PLT_STRM_CFG, 13, 2, .rw, 0x0⟩
def PLT_STRM_CFG_FB : Fld := ⟨.PLT_STRM_CFG, 15, 1, .rw, 0x0⟩
def PLT_STRM_CFG_FBNEG : Fld := ⟨.PLT_STRM_CFG, 16, 1, .rw, 0x0⟩
def PLT_STRM_CFG_FBLAG : Fld := ⟨.PLT_STRM_CFG, 17, 2, .rw, 0x0⟩
def PLT_STRM_CFG_ALVL : Fld := ⟨.PLT_STRM_CFG, 19, 2, .rw, 0x0⟩
def PLT_STRM_BIND_PLOTA : Fld := ⟨.PLT_STRM_BIND, 0, 5, .rw, 0x0⟩
def PLT_STRM_BIND_AV : Fld := ⟨.PLT_STRM_BIND, 5, 1, .rw, 0x0⟩
def PLT_STRM_BIND_PLOTB : Fld := ⟨.PLT_STRM_BIND, 6, 5, .rw, 0x0⟩
def PLT_STRM_BIND_BV : Fld := ⟨.PLT_STRM_BIND, 11, 1, .rw, 0x0⟩
def PLT_STRM_BIND_OWNER : Fld := ⟨.PLT_STRM_BIND, 12, 10, .rw, 0x0⟩
def PLT_STRM_BAND_BH : Fld := ⟨.PLT_STRM_BAND, 0, 2, .rw, 0x1⟩
def PLT_STRM_BAND_LATCH : Fld := ⟨.PLT_STRM_BAND, 2, 8, .rw, 0x3c⟩
def PLT_STRM_BAND_FBIMG : Fld := ⟨.PLT_STRM_BAND, 16, 8, .rw, 0x0⟩
def PLT_STRM_BAND_FBPSET : Fld := ⟨.PLT_STRM_BAND, 24, 4, .rw, 0x0⟩
def PLT_STRM_IN_IBASE : Fld := ⟨.PLT_STRM_IN, 6, 42, .rw, 0x0⟩
def PLT_STRM_IN_ISLOTS : Fld := ⟨.PLT_STRM_IN, 48, 5, .rw, 0x0⟩
def PLT_STRM_ISTR_ISTRIDE : Fld := ⟨.PLT_STRM_ISTR, 0, 32, .rw, 0x0⟩
def PLT_STRM_XLIM_XLIMIT : Fld := ⟨.PLT_STRM_XLIM, 0, 32, .rw, 0x2625a00⟩
def PLT_STRM_IDLY_IDELAY : Fld := ⟨.PLT_STRM_IDLY, 0, 32, .rw, 0xfe502b⟩
def PLT_STRM_POST_SLOT : Fld := ⟨.PLT_STRM_POST, 0, 5, .wo, 0x0⟩
def PLT_STRM_STAT_FREE : Fld := ⟨.PLT_STRM_STAT, 0, 32, .ro, 0x0⟩
def PLT_STRM_STAT_FAULT : Fld := ⟨.PLT_STRM_STAT, 32, 16, .ro, 0x0⟩
def PLT_STRM_STAT_SEQ : Fld := ⟨.PLT_STRM_STAT, 48, 16, .ro, 0x0⟩
def PLT_STRM_LOG_BASE : Fld := ⟨.PLT_STRM_LOG, 6, 42, .rw, 0x0⟩
def PLT_STRM_LOG_SIZE : Fld := ⟨.PLT_STRM_LOG, 48, 16, .rw, 0x0⟩
def PLT_STRM_CNT_STALE : Fld := ⟨.PLT_STRM_CNT, 0, 16, .rc, 0x0⟩
def PLT_STRM_CNT_SKIP : Fld := ⟨.PLT_STRM_CNT, 16, 16, .rc, 0x0⟩
def PLT_STRM_CNT_BUSY : Fld := ⟨.PLT_STRM_CNT, 32, 16, .rc, 0x0⟩
def PLT_STRM_CNT_OVERLIM : Fld := ⟨.PLT_STRM_CNT, 48, 16, .rc, 0x0⟩
def PLT_STRM_CNT2_FUTURE : Fld := ⟨.PLT_STRM_CNT2, 0, 16, .rc, 0x0⟩
def PLT_STRM_CNT2_XFALL : Fld := ⟨.PLT_STRM_CNT2, 16, 16, .rc, 0x0⟩
def PLT_STRM_CNT2_HOLDGUARD : Fld := ⟨.PLT_STRM_CNT2, 32, 16, .rc, 0x0⟩
def PLT_STRM_CNT2_ALIASMISS : Fld := ⟨.PLT_STRM_CNT2, 48, 16, .rc, 0x0⟩
def PLT_POST_SV : Fld := ⟨.PLT_POST, 0, 1, .rw, 0x0⟩
def PLT_POST_STREAM : Fld := ⟨.PLT_POST, 1, 4, .rw, 0x0⟩
def PLT_POST_LAYER : Fld := ⟨.PLT_POST, 5, 1, .rw, 0x0⟩
def PLT_POST_BASE : Fld := ⟨.PLT_POST, 6, 42, .rw, 0x0⟩
def PLT_POST_RING_RING : Fld := ⟨.PLT_POST_RING, 0, 16, .rw, 0x0⟩
def PLT_POST_RING_STEP_OFS : Fld := ⟨.PLT_POST_RING, 16, 16, .rw, 0x0⟩
def PLT_POST_RING_STRIDE : Fld := ⟨.PLT_POST_RING, 32, 32, .rw, 0x0⟩
def PLT_POST_CNT_LATE : Fld := ⟨.PLT_POST_CNT, 0, 16, .rc, 0x0⟩
def PLT_POST_CNT_DUP : Fld := ⟨.PLT_POST_CNT, 16, 16, .rc, 0x0⟩
def PLT_POST_CNT_VOID : Fld := ⟨.PLT_POST_CNT, 32, 16, .rc, 0x0⟩
def PLT_POST_CNT_HOLD : Fld := ⟨.PLT_POST_CNT, 48, 16, .rc, 0x0⟩
def BST_LEAD_LEAD : Fld := ⟨.BST_LEAD, 0, 8, .rws, 0x4⟩
def BST_LEAD_FETCH : Fld := ⟨.BST_LEAD, 8, 8, .rws, 0x8⟩
def BST_COMMIT_COMMIT : Fld := ⟨.BST_COMMIT, 0, 4, .w1s, 0x0⟩
def BST_HCTRL_EN : Fld := ⟨.BST_HCTRL, 0, 1, .rw, 0x0⟩
def BST_HCTRL_STATE : Fld := ⟨.BST_HCTRL, 1, 2, .ro, 0x0⟩
def BST_HCTRL_PENDING_ON : Fld := ⟨.BST_HCTRL, 3, 1, .ro, 0x0⟩
def BST_HCTRL_OUTPUT : Fld := ⟨.BST_HCTRL, 4, 2, .rws, 0x0⟩
def BST_HCTRL_VRR : Fld := ⟨.BST_HCTRL, 6, 1, .rws, 0x0⟩
def BST_HCTRL_DUSK_EN : Fld := ⟨.BST_HCTRL, 7, 1, .rws, 0x0⟩
def BST_HSTAT_LINKUP : Fld := ⟨.BST_HSTAT, 0, 1, .ro, 0x0⟩
def BST_HSTAT_DUSK : Fld := ⟨.BST_HSTAT, 1, 1, .ro, 0x0⟩
def BST_HSTAT_SETTLE : Fld := ⟨.BST_HSTAT, 2, 1, .ro, 0x0⟩
def BST_HSTAT_HOLDMODE : Fld := ⟨.BST_HSTAT, 3, 1, .ro, 0x0⟩
def BST_HSTAT_COMMIT_REFUSED : Fld := ⟨.BST_HSTAT, 4, 1, .w1c, 0x0⟩
def BST_HSTAT_PINCHECK : Fld := ⟨.BST_HSTAT, 5, 1, .w1c, 0x0⟩
def BST_HSTAT_TRAIN_FAIL : Fld := ⟨.BST_HSTAT, 6, 1, .w1c, 0x0⟩
def BST_HSTAT_PCRUN : Fld := ⟨.BST_HSTAT, 16, 8, .ro, 0x0⟩
def BST_HSTAT_REASON : Fld := ⟨.BST_HSTAT, 24, 8, .ro, 0x0⟩
def BST_HTIM_HACTIVE : Fld := ⟨.BST_HTIM, 0, 16, .rws, 0xf00⟩
def BST_HTIM_HTOTAL : Fld := ⟨.BST_HTIM, 16, 16, .rws, 0xfa0⟩
def BST_VTIM_VACTIVE : Fld := ⟨.BST_VTIM, 0, 16, .rws, 0x870⟩
def BST_VTIM_VTOTAL : Fld := ⟨.BST_VTIM, 16, 16, .rws, 0x8ae⟩
def BST_HSYNC_HSS : Fld := ⟨.BST_HSYNC, 0, 16, .rws, 0xf30⟩
def BST_HSYNC_HSW : Fld := ⟨.BST_HSYNC, 16, 15, .rws, 0x20⟩
def BST_HSYNC_HPOL : Fld := ⟨.BST_HSYNC, 31, 1, .rws, 0x1⟩
def BST_VSYNC_VSS : Fld := ⟨.BST_VSYNC, 0, 16, .rws, 0x873⟩
def BST_VSYNC_VSW : Fld := ⟨.BST_VSYNC, 16, 15, .rws, 0x8⟩
def BST_VSYNC_VPOL : Fld := ⟨.BST_VSYNC, 31, 1, .rws, 0x0⟩
def BST_VRR_VT_MIN : Fld := ⟨.BST_VRR, 0, 16, .rws, 0x8ae⟩
def BST_VRR_VT_MAX : Fld := ⟨.BST_VRR, 16, 16, .rws, 0x115c⟩
def BST_LINK_RATE : Fld := ⟨.BST_LINK, 0, 3, .rws, 0x2⟩
def BST_LINK_LANES : Fld := ⟨.BST_LINK, 3, 2, .rws, 0x2⟩
def BST_LINK_BPC10 : Fld := ⟨.BST_LINK, 6, 1, .rws, 0x1⟩
def BST_LINK_COLORIMETRY : Fld := ⟨.BST_LINK, 8, 2, .rws, 0x0⟩
def BST_FMT_BASEFMT : Fld := ⟨.BST_FMT, 0, 2, .rws, 0x3⟩
def BST_FMT_OVFMT : Fld := ⟨.BST_FMT, 2, 2, .rws, 0x2⟩
def BST_BG_B : Fld := ⟨.BST_BG, 0, 10, .rws, 0x0⟩
def BST_BG_G : Fld := ⟨.BST_BG, 10, 10, .rws, 0x0⟩
def BST_BG_R : Fld := ⟨.BST_BG, 20, 10, .rws, 0x0⟩
def BST_WMARK_LOW : Fld := ⟨.BST_WMARK, 0, 8, .rws, 0x30⟩
def BST_WMARK_CRIT : Fld := ⟨.BST_WMARK, 8, 8, .rws, 0x10⟩
def BST_DUSK_DUSK_FRAMES : Fld := ⟨.BST_DUSK, 0, 8, .rws, 0x4⟩
def BST_DUSK_DUSK_VT : Fld := ⟨.BST_DUSK, 16, 16, .rws, 0x0⟩
def BST_PC_CFG_PC_LIMIT : Fld := ⟨.BST_PC_CFG, 0, 8, .rws, 0x3⟩
def BST_PC_CFG_PC_EN : Fld := ⟨.BST_PC_CFG, 8, 1, .rws, 0x1⟩
def BST_PC_MISS_FRAME : Fld := ⟨.BST_PC_MISS, 0, 32, .ro, 0x0⟩
def BST_PC_LAST_EXPECTED : Fld := ⟨.BST_PC_LAST, 0, 32, .ro, 0x0⟩
def BST_PC_LAST_MEASURED : Fld := ⟨.BST_PC_LAST, 32, 32, .ro, 0x0⟩
def BST_HCNT_UNDERRUN : Fld := ⟨.BST_HCNT, 0, 16, .rc, 0x0⟩
def BST_HCNT_SKIPFR : Fld := ⟨.BST_HCNT, 16, 16, .rc, 0x0⟩
def BST_HCNT_PCMISS : Fld := ⟨.BST_HCNT, 32, 16, .rc, 0x0⟩
def BST_HCNT_FOREIGN : Fld := ⟨.BST_HCNT, 48, 16, .rc, 0x0⟩
def BST_HCNT2_SHORTFR : Fld := ⟨.BST_HCNT2, 0, 16, .rc, 0x0⟩
def BST_HCNT2_PUSHDEFER : Fld := ⟨.BST_HCNT2, 16, 16, .rc, 0x0⟩
def BST_PUSH_CFG_PORT : Fld := ⟨.BST_PUSH_CFG, 0, 2, .rws, 0x0⟩
def BST_PUSH_CFG_PUSHFMT : Fld := ⟨.BST_PUSH_CFG, 2, 1, .rws, 0x0⟩
def BST_PUSH_CFG_PKTROWS : Fld := ⟨.BST_PUSH_CFG, 3, 3, .rws, 0x2⟩
def BST_PUSH_CFG_PBASE : Fld := ⟨.BST_PUSH_CFG, 8, 3, .rws, 0x1⟩
def BST_PUSH_CFG_CANVAS : Fld := ⟨.BST_PUSH_CFG, 16, 16, .rws, 0x0⟩
def BST_PUSH_ORG_RXBASE : Fld := ⟨.BST_PUSH_ORG, 0, 16, .rws, 0x0⟩
def BST_PUSH_ORG_RYBASE : Fld := ⟨.BST_PUSH_ORG, 16, 16, .rws, 0x0⟩
def BST_PUSH_DST_ADDR : Fld := ⟨.BST_PUSH_DST, 0, 32, .rws, 0x0⟩
def BST_PUSH_UDP_DPORT : Fld := ⟨.BST_PUSH_UDP, 0, 16, .rws, 0xe5d0⟩
def BST_PUSH_UDP_SPORT : Fld := ⟨.BST_PUSH_UDP, 16, 16, .rws, 0xe5d0⟩
def BST_PUSH_REFR_REFRESH : Fld := ⟨.BST_PUSH_REFR, 0, 16, .rws, 0x0⟩
def BST_PUSH_REFR_DSCP : Fld := ⟨.BST_PUSH_REFR, 16, 6, .rws, 0x0⟩
def BST_PUSH_STAGE_BASE : Fld := ⟨.BST_PUSH_STAGE, 6, 42, .rws, 0x0⟩
def BST_LYR_CFG_EN : Fld := ⟨.BST_LYR_CFG, 0, 1, .rws, 0x0⟩
def BST_LYR_CFG_STATIC : Fld := ⟨.BST_LYR_CFG, 1, 1, .rws, 0x0⟩
def BST_LYR_FETCH_OFFSET : Fld := ⟨.BST_LYR_FETCH, 0, 32, .rws, 0x0⟩
def BST_LYR_FETCH_PITCH : Fld := ⟨.BST_LYR_FETCH, 32, 32, .rws, 0x0⟩
def BST_LYR_ADDR_ADDR : Fld := ⟨.BST_LYR_ADDR, 6, 42, .rws, 0x0⟩
def BST_LYR_STAT_OFFLINE : Fld := ⟨.BST_LYR_STAT, 0, 16, .ro, 0xffff⟩
def BST_LYR_STAT_ON : Fld := ⟨.BST_LYR_STAT, 16, 1, .ro, 0x0⟩
def BST_LYR_STAT_CAUSE : Fld := ⟨.BST_LYR_STAT, 17, 1, .ro, 0x0⟩
def PLT_SEED_LO_SEED : Fld := ⟨.PLT_SEED_LO, 0, 64, .rw, 0x0⟩
def PLT_SEED_HI_SEED : Fld := ⟨.PLT_SEED_HI, 0, 64, .rw, 0x0⟩
def PLT_SAVE_SV : Fld := ⟨.PLT_SAVE, 0, 1, .rw, 0x0⟩
def PLT_SAVE_ADDR : Fld := ⟨.PLT_SAVE, 6, 42, .rw, 0x0⟩
def PLT_RESUME_RV : Fld := ⟨.PLT_RESUME, 0, 1, .w1s, 0x0⟩
def PLT_RESUME_ADDR : Fld := ⟨.PLT_RESUME, 6, 42, .rw, 0x0⟩
def PTR_GBAR_CFG_SYNC_EN : Fld := ⟨.PTR_GBAR_CFG, 0, 1, .rws, 0x0⟩
def PTR_GBAR_CFG_RLEAD : Fld := ⟨.PTR_GBAR_CFG, 8, 8, .rws, 0x4⟩
def PTR_GBAR_DLY_SYNC_DLY : Fld := ⟨.PTR_GBAR_DLY, 0, 16, .rws, 0x0⟩
def PTR_GBAR_STAT_LATE : Fld := ⟨.PTR_GBAR_STAT, 0, 16, .rc, 0x0⟩
def PTR_GBAR_STAT_NOSYNC : Fld := ⟨.PTR_GBAR_STAT, 16, 16, .rc, 0x0⟩
def PLT_SHARE_GRACE : Fld := ⟨.PLT_SHARE, 0, 10, .rw, 0x32⟩
def PLT_SHARE_ADMIT : Fld := ⟨.PLT_SHARE, 10, 8, .rw, 0xf3⟩
def PLT_SHARE_QUANTUM : Fld := ⟨.PLT_SHARE, 18, 14, .rw, 0x14⟩
def PLT_ADMIT_LOAD : Fld := ⟨.PLT_ADMIT, 0, 16, .ro, 0x0⟩
def PLT_ADMIT_LIMIT : Fld := ⟨.PLT_ADMIT, 16, 16, .ro, 0x0⟩
def PLT_RUN_SLOT : Fld := ⟨.PLT_RUN, 0, 4, .ro, 0x0⟩
def PLT_RUN_VALID : Fld := ⟨.PLT_RUN, 4, 1, .ro, 0x0⟩
def PLT_PRE_CNT_SWITCHES : Fld := ⟨.PLT_PRE_CNT, 0, 16, .rc, 0x0⟩
def PLT_PRE_CNT_ABORTS : Fld := ⟨.PLT_PRE_CNT, 16, 16, .rc, 0x0⟩
def PLT_PRE_CNT_OVERRUN : Fld := ⟨.PLT_PRE_CNT, 32, 16, .rc, 0x0⟩
def PLT_SLOT_CFG_CTX : Fld := ⟨.PLT_SLOT_CFG, 0, 10, .rw, 0x0⟩
def PLT_SLOT_CFG_CLASS : Fld := ⟨.PLT_SLOT_CFG, 10, 1, .rw, 0x0⟩
def PLT_SLOT_CFG_RESUME : Fld := ⟨.PLT_SLOT_CFG, 11, 1, .rw, 0x0⟩
def PLT_SLOT_CFG_WEIGHT : Fld := ⟨.PLT_SLOT_CFG, 12, 8, .rw, 0x0⟩
def PLT_SLOT_CFG_RTSTEPS : Fld := ⟨.PLT_SLOT_CFG, 20, 8, .rw, 0x0⟩
def PLT_SLOT_CFG_BIND : Fld := ⟨.PLT_SLOT_CFG, 28, 1, .rw, 0x0⟩
def PLT_SLOT_CFG_REIMAGE : Fld := ⟨.PLT_SLOT_CFG, 29, 1, .w1s, 0x0⟩
def PLT_SLOT_STAT_STATE : Fld := ⟨.PLT_SLOT_STAT, 0, 2, .ro, 0x0⟩
def PLT_SLOT_STAT_REFUSED : Fld := ⟨.PLT_SLOT_STAT, 2, 1, .w1c, 0x0⟩
def PLT_SLOT_STAT_LOADFAULT : Fld := ⟨.PLT_SLOT_STAT, 16, 16, .ro, 0x0⟩
def PLT_SLOT_IMAGE_ADDR : Fld := ⟨.PLT_SLOT_IMAGE, 6, 42, .rw, 0x0⟩
def PLT_SLOT_SAVE_ADDR : Fld := ⟨.PLT_SLOT_SAVE, 6, 42, .rw, 0x0⟩
def PTR_CTX_CTRL_ALLOC : Fld := ⟨.PTR_CTX_CTRL, 0, 1, .w1s, 0x0⟩
def PTR_CTX_CTRL_TEAR : Fld := ⟨.PTR_CTX_CTRL, 1, 1, .w1s, 0x0⟩
def PTR_CTX_CTRL_STATE : Fld := ⟨.PTR_CTX_CTRL, 2, 2, .ro, 0x1⟩
def PTR_CTX_CTRL_CGEN : Fld := ⟨.PTR_CTX_CTRL, 4, 12, .ro, 0x0⟩
def PTR_CTX_CTRL_FAULT : Fld := ⟨.PTR_CTX_CTRL, 16, 16, .ro, 0x0⟩
def PTR_CTX_FREC_PLOT : Fld := ⟨.PTR_CTX_FREC, 0, 5, .ro, 0x0⟩
def PTR_CTX_FREC_STAGE : Fld := ⟨.PTR_CTX_FREC, 5, 8, .ro, 0x0⟩
def PTR_CTX_FREC_PC : Fld := ⟨.PTR_CTX_FREC, 13, 16, .ro, 0x0⟩
def PTR_CTX_FREC_STEP : Fld := ⟨.PTR_CTX_FREC, 32, 32, .ro, 0x0⟩
def PTR_CTX_PCYC_COUNT : Fld := ⟨.PTR_CTX_PCYC, 0, 64, .ro, 0x0⟩
def PTR_CTX_BCYC_COUNT : Fld := ⟨.PTR_CTX_BCYC, 0, 64, .ro, 0x0⟩
def PLT_BAT_CFG_EN : Fld := ⟨.PLT_BAT_CFG, 0, 1, .rw, 0x0⟩
def PLT_BAT_CFG_STATE : Fld := ⟨.PLT_BAT_CFG, 1, 2, .ro, 0x0⟩
def PLT_BAT_CFG_PENDING_ON : Fld := ⟨.PLT_BAT_CFG, 3, 1, .ro, 0x0⟩
def PLT_BAT_CFG_PLOT : Fld := ⟨.PLT_BAT_CFG, 4, 5, .rw, 0x0⟩
def PLT_BAT_CFG_LANES : Fld := ⟨.PLT_BAT_CFG, 9, 6, .rw, 0x0⟩
def PLT_BAT_CFG_OWNER : Fld := ⟨.PLT_BAT_CFG, 15, 10, .rw, 0x0⟩
def PLT_BAT_LIM_JOIN_LIMIT : Fld := ⟨.PLT_BAT_LIM, 0, 16, .rw, 0x3c⟩
def PLT_BAT_POOL_BASE : Fld := ⟨.PLT_BAT_POOL, 16, 32, .rw, 0x0⟩
def PLT_BAT_GRAN_POOL : Fld := ⟨.PLT_BAT_GRAN, 0, 20, .rw, 0x0⟩
def PLT_BAT_WKT_MAPWKT : Fld := ⟨.PLT_BAT_WKT, 0, 17, .rw, 0x0⟩
def PLT_BAT_CLS01_R_EVEN : Fld := ⟨.PLT_BAT_CLS01, 0, 16, .rw, 0x0⟩
def PLT_BAT_CLS01_R_ODD : Fld := ⟨.PLT_BAT_CLS01, 16, 16, .rw, 0x0⟩
def PLT_BAT_CLS23_R_EVEN : Fld := ⟨.PLT_BAT_CLS23, 0, 16, .rw, 0x0⟩
def PLT_BAT_CLS23_R_ODD : Fld := ⟨.PLT_BAT_CLS23, 16, 16, .rw, 0x0⟩
def PLT_BAT_REQ_SID : Fld := ⟨.PLT_BAT_REQ, 0, 16, .wo, 0x0⟩
def PLT_BAT_REQ_OP : Fld := ⟨.PLT_BAT_REQ, 16, 2, .wo, 0x0⟩
def PLT_BAT_REQ_PRIO : Fld := ⟨.PLT_BAT_REQ, 18, 3, .wo, 0x0⟩
def PLT_BAT_REQ_CLASS : Fld := ⟨.PLT_BAT_REQ, 21, 2, .wo, 0x0⟩
def PLT_BAT_MAP_BASE : Fld := ⟨.PLT_BAT_MAP, 10, 38, .rw, 0x0⟩
def PLT_BAT_RSP_BASE : Fld := ⟨.PLT_BAT_RSP, 6, 42, .rw, 0x0⟩
def PLT_BAT_RSP_SIZE : Fld := ⟨.PLT_BAT_RSP, 48, 16, .rw, 0x0⟩
def PLT_BAT_RIDX_COUNT : Fld := ⟨.PLT_BAT_RIDX, 0, 64, .ro, 0x0⟩
def PLT_BAT_STAT_ACTIVE : Fld := ⟨.PLT_BAT_STAT, 0, 7, .ro, 0x0⟩
def PLT_BAT_STAT_QUEUED : Fld := ⟨.PLT_BAT_STAT, 8, 7, .ro, 0x0⟩
def PLT_BAT_STAT_FREEGRAN : Fld := ⟨.PLT_BAT_STAT, 16, 20, .ro, 0x0⟩
def PLT_BAT_STAT_FAULT : Fld := ⟨.PLT_BAT_STAT, 48, 16, .ro, 0x0⟩
def PLT_BAT_CNT_JOINED : Fld := ⟨.PLT_BAT_CNT, 0, 16, .rc, 0x0⟩
def PLT_BAT_CNT_DEFERRED : Fld := ⟨.PLT_BAT_CNT, 16, 16, .rc, 0x0⟩
def PLT_BAT_CNT_REFUSED : Fld := ⟨.PLT_BAT_CNT, 32, 16, .rc, 0x0⟩
def PLT_BAT_CNT_LEFT : Fld := ⟨.PLT_BAT_CNT, 48, 16, .rc, 0x0⟩
def ZHL_GRP_CFG_GROUP_ID : Fld := ⟨.ZHL_GRP_CFG, 0, 16, .rws, 0x0⟩
def ZHL_GRP_CFG_CHIP : Fld := ⟨.ZHL_GRP_CFG, 16, 5, .rws, 0x0⟩
def ZHL_GRP_CFG_ANCHOR : Fld := ⟨.ZHL_GRP_CFG, 21, 5, .rws, 0x0⟩
def ZHL_GRP_CFG_AAUTO : Fld := ⟨.ZHL_GRP_CFG, 26, 1, .rws, 0x1⟩
def ZHL_GRP_CFG_LC : Fld := ⟨.ZHL_GRP_CFG, 27, 2, .rws, 0x0⟩
def ZHL_GRP_CFG_AUTO_REJOIN : Fld := ⟨.ZHL_GRP_CFG, 29, 1, .rws, 0x0⟩
def ZHL_GRP_MEMBERS_MEMBERS : Fld := ⟨.ZHL_GRP_MEMBERS, 0, 32, .rws, 0x0⟩
def ZHL_GRP_TIMING_RTT_MAX : Fld := ⟨.ZHL_GRP_TIMING, 0, 16, .rws, 0x3e8⟩
def ZHL_GRP_TIMING_LANE_THR : Fld := ⟨.ZHL_GRP_TIMING, 16, 8, .rws, 0x10⟩
def ZHL_GCMD_REJOIN : Fld := ⟨.ZHL_GCMD, 0, 1, .w1s, 0x0⟩
def ZHL_GRP_STAT_GSTATE : Fld := ⟨.ZHL_GRP_STAT, 0, 2, .ro, 0x0⟩
def ZHL_GRP_STAT_ACTING : Fld := ⟨.ZHL_GRP_STAT, 2, 5, .ro, 0x0⟩
def ZHL_GRP_STAT_TSYNC_LOCK : Fld := ⟨.ZHL_GRP_STAT, 7, 1, .ro, 0x0⟩
def ZHL_GRP_STAT_RJCAUSE : Fld := ⟨.ZHL_GRP_STAT, 8, 8, .ro, 0x0⟩
def ZHL_GRP_STAT_REACH : Fld := ⟨.ZHL_GRP_STAT, 32, 32, .ro, 0x0⟩
def ZHL_RJFRAME_FR : Fld := ⟨.ZHL_RJFRAME, 0, 32, .ro, 0x0⟩
def ZHL_TB6_OFS_OFS : Fld := ⟨.ZHL_TB6_OFS, 0, 64, .ro, 0x0⟩
def ZHL_GRP_CNT_LOST : Fld := ⟨.ZHL_GRP_CNT, 0, 16, .rc, 0x0⟩
def ZHL_GRP_CNT_REJOINS : Fld := ⟨.ZHL_GRP_CNT, 16, 16, .rc, 0x0⟩
def ZHL_GRP_CNT_ABANDON : Fld := ⟨.ZHL_GRP_CNT, 32, 16, .rc, 0x0⟩
def ZHL_GRP_CNT_IREFUSED : Fld := ⟨.ZHL_GRP_CNT, 48, 16, .rc, 0x0⟩
def ZHL_ROUTE_PRI : Fld := ⟨.ZHL_ROUTE, 0, 3, .rws, 0x0⟩
def ZHL_ROUTE_PV : Fld := ⟨.ZHL_ROUTE, 3, 1, .rws, 0x0⟩
def ZHL_ROUTE_ALT : Fld := ⟨.ZHL_ROUTE, 4, 3, .rws, 0x0⟩
def ZHL_ROUTE_AV : Fld := ⟨.ZHL_ROUTE, 7, 1, .rws, 0x0⟩
def ZHL_ROUTE_HPRI : Fld := ⟨.ZHL_ROUTE, 8, 5, .rws, 0x0⟩
def ZHL_ROUTE_HALT : Fld := ⟨.ZHL_ROUTE, 13, 5, .rws, 0x0⟩
def ZHL_ROUTE_USING : Fld := ⟨.ZHL_ROUTE, 24, 1, .ro, 0x0⟩
def ZHL_ROUTE_UNREACH : Fld := ⟨.ZHL_ROUTE, 25, 1, .ro, 0x0⟩
def ZHL_PROXY_LOCAL : Fld := ⟨.ZHL_PROXY, 0, 17, .rw, 0x0⟩
def ZHL_PROXY_V : Fld := ⟨.ZHL_PROXY, 17, 1, .rw, 0x0⟩
def ZHL_PROXY_RCHIP : Fld := ⟨.ZHL_PROXY, 18, 5, .rw, 0x0⟩
def ZHL_PROXY_RWKT : Fld := ⟨.ZHL_PROXY, 32, 17, .rw, 0x0⟩
def ZHL_XCUT_XCUT : Fld := ⟨.ZHL_XCUT, 0, 32, .rw, 0x0⟩
def ZHL_LNK_CTRL_EN : Fld := ⟨.ZHL_LNK_CTRL, 0, 1, .rws, 0x0⟩
def ZHL_LNK_CTRL_STATE : Fld := ⟨.ZHL_LNK_CTRL, 1, 2, .ro, 0x0⟩
def ZHL_LNK_CTRL_PENDING_ON : Fld := ⟨.ZHL_LNK_CTRL, 3, 1, .ro, 0x0⟩
def ZHL_LNK_CTRL_LSTATE : Fld := ⟨.ZHL_LNK_CTRL, 4, 2, .ro, 0x0⟩
def ZHL_LNK_CTRL_SPARE : Fld := ⟨.ZHL_LNK_CTRL, 6, 3, .ro, 0x4⟩
def ZHL_LNK_CTRL_SPARE_USED : Fld := ⟨.ZHL_LNK_CTRL, 9, 1, .ro, 0x0⟩
def ZHL_LNK_CTRL_NBR_CHIP : Fld := ⟨.ZHL_LNK_CTRL, 10, 5, .ro, 0x0⟩
def ZHL_LNK_CTRL_NBR_LINK : Fld := ⟨.ZHL_LNK_CTRL, 15, 3, .ro, 0x0⟩
def ZHL_LNK_CTRL_TRAIN_REASON : Fld := ⟨.ZHL_LNK_CTRL, 24, 8, .ro, 0x0⟩
def ZHL_LNK_RTT_RTT : Fld := ⟨.ZHL_LNK_RTT, 0, 16, .ro, 0x0⟩
def ZHL_LNK_CNT_RETRY : Fld := ⟨.ZHL_LNK_CNT, 0, 16, .rc, 0x0⟩
def ZHL_LNK_CNT_CRCERR : Fld := ⟨.ZHL_LNK_CNT, 16, 16, .rc, 0x0⟩
def ZHL_LNK_CNT_SWAP : Fld := ⟨.ZHL_LNK_CNT, 32, 16, .rc, 0x0⟩
def ZHL_LNK_CNT_DOWN : Fld := ⟨.ZHL_LNK_CNT, 48, 16, .rc, 0x0⟩
def LDG_HANG_CFG_HANG_WIN : Fld := ⟨.LDG_HANG_CFG, 0, 16, .rws, 0x3e8⟩
def LDG_HANG_CFG_PLOT_WIN : Fld := ⟨.LDG_HANG_CFG, 16, 16, .rws, 0x1388⟩
def LDG_RESET_LEVEL : Fld := ⟨.LDG_RESET, 0, 3, .wo, 0x0⟩
def LDG_RESET_TARGET : Fld := ⟨.LDG_RESET, 4, 12, .wo, 0x0⟩
def LDG_STAT_LEVEL : Fld := ⟨.LDG_STAT, 0, 3, .ro, 0x0⟩
def LDG_STAT_REPLAY : Fld := ⟨.LDG_STAT, 3, 1, .ro, 0x0⟩
def LDG_STAT_HOLD : Fld := ⟨.LDG_STAT, 4, 4, .ro, 0x0⟩
def LDG_STAT_ENGINE : Fld := ⟨.LDG_STAT, 16, 16, .ro, 0x0⟩
def LDG_STAT_SEGFAIL : Fld := ⟨.LDG_STAT, 32, 32, .ro, 0x0⟩
def LDG_KEEP_K0 : Fld := ⟨.LDG_KEEP, 0, 8, .rw, 0x0⟩
def LDG_KEEP_K1 : Fld := ⟨.LDG_KEEP, 8, 8, .rw, 0x0⟩
def LDG_KEEP_SCHED : Fld := ⟨.LDG_KEEP, 16, 8, .rw, 0x0⟩
def LDG_KEEP_SCHED_WIN : Fld := ⟨.LDG_KEEP, 24, 8, .rws, 0x32⟩
def LDG_FW_ADDR_ADDR : Fld := ⟨.LDG_FW_ADDR, 6, 42, .rw, 0x0⟩
def LDG_FW_CTRL_GO : Fld := ⟨.LDG_FW_CTRL, 0, 1, .w1s, 0x0⟩
def LDG_FW_CTRL_FLASH : Fld := ⟨.LDG_FW_CTRL, 1, 1, .rw, 0x0⟩
def LDG_FW_CTRL_LC : Fld := ⟨.LDG_FW_CTRL, 2, 2, .rw, 0x0⟩
def LDG_FW_CTRL_STATE : Fld := ⟨.LDG_FW_CTRL, 4, 2, .ro, 0x0⟩
def LDG_FW_CTRL_HEALTH : Fld := ⟨.LDG_FW_CTRL, 6, 10, .ro, 0x0⟩
def LDG_FW_CTRL_GO_IGNORED : Fld := ⟨.LDG_FW_CTRL, 16, 8, .rc, 0x0⟩
def LDG_DUMP_BASE_ADDR : Fld := ⟨.LDG_DUMP_BASE, 12, 36, .rws, 0x0⟩
def LDG_DUMP_BASE_SIZE : Fld := ⟨.LDG_DUMP_BASE, 48, 16, .rws, 0x0⟩
def LDG_DUMP_HOST_ADDR : Fld := ⟨.LDG_DUMP_HOST, 12, 52, .rws, 0x0⟩
def LDG_DUMP_CFG_TRIG : Fld := ⟨.LDG_DUMP_CFG, 0, 5, .rws, 0x1f⟩
def LDG_DUMP_CFG_SCOPE : Fld := ⟨.LDG_DUMP_CFG, 5, 1, .rws, 0x0⟩
def LDG_DUMP_CFG_REQ : Fld := ⟨.LDG_DUMP_CFG, 6, 1, .w1s, 0x0⟩
def LDG_DUMP_CFG_UNIT_WORDS : Fld := ⟨.LDG_DUMP_CFG, 16, 16, .rws, 0x1000⟩
def LDG_DUMP_STAT_BUSY : Fld := ⟨.LDG_DUMP_STAT, 0, 1, .ro, 0x0⟩
def LDG_DUMP_STAT_DONE : Fld := ⟨.LDG_DUMP_STAT, 1, 1, .w1c, 0x0⟩
def LDG_DUMP_STAT_MISSED : Fld := ⟨.LDG_DUMP_STAT, 16, 16, .rc, 0x0⟩
def PTR_SPARE_ROW_SPARE : Fld := ⟨.PTR_SPARE_ROW, 0, 4, .rws, 0xc⟩
def PTR_SPARE_ROW_FAILED : Fld := ⟨.PTR_SPARE_ROW, 4, 13, .rws, 0x0⟩
def PTR_SPARE_ROW_UNHOMED : Fld := ⟨.PTR_SPARE_ROW, 17, 1, .ro, 0x0⟩
def PTR_SPARE_CMD_PAV : Fld := ⟨.PTR_SPARE_CMD, 0, 8, .wo, 0x0⟩
def ARC_SCRUB_CFG_SCRUB_HOURS : Fld := ⟨.ARC_SCRUB_CFG, 0, 8, .rws, 0x18⟩
def PCI_LINK_SPEED : Fld := ⟨.PCI_LINK, 0, 3, .ro, 0x0⟩
def PCI_LINK_WIDTH : Fld := ⟨.PCI_LINK, 3, 4, .ro, 0x0⟩
def PCI_LINK_DOWNS : Fld := ⟨.PCI_LINK, 16, 16, .rc, 0x0⟩
def PCI_ACL_WEN : Fld := ⟨.PCI_ACL, 0, 17, .rws, 0x1dfff⟩
def PCI_BAR4_OFS_OFS : Fld := ⟨.PCI_BAR4_OFS, 28, 20, .rw, 0x0⟩
def PCI_MSIX_SRC_VEC : Fld := ⟨.PCI_MSIX_SRC, 0, 10, .rw, 0x0⟩
def PCI_MSIX_SRC_EN : Fld := ⟨.PCI_MSIX_SRC, 10, 1, .rw, 0x0⟩
def PCI_DMA_CTRL_EN : Fld := ⟨.PCI_DMA_CTRL, 0, 1, .rw, 0x0⟩
def PCI_DMA_CTRL_STATE : Fld := ⟨.PCI_DMA_CTRL, 1, 2, .ro, 0x0⟩
def PCI_DMA_CTRL_PENDING_ON : Fld := ⟨.PCI_DMA_CTRL, 3, 1, .ro, 0x0⟩
def PCI_DMA_CTRL_RLOC : Fld := ⟨.PCI_DMA_CTRL, 4, 1, .rw, 0x0⟩
def PCI_DMA_CTRL_RSIZE : Fld := ⟨.PCI_DMA_CTRL, 5, 4, .rw, 0x0⟩
def PCI_DMA_CTRL_WEIGHT : Fld := ⟨.PCI_DMA_CTRL, 9, 4, .rw, 0x0⟩
def PCI_DMA_CTRL_CTX : Fld := ⟨.PCI_DMA_CTRL, 13, 10, .rw, 0x0⟩
def PCI_DMA_RING_BASE : Fld := ⟨.PCI_DMA_RING, 6, 58, .rw, 0x0⟩
def PCI_DMA_PTR_HEAD : Fld := ⟨.PCI_DMA_PTR, 0, 16, .ro, 0x0⟩
def PCI_DMA_PTR_TAIL : Fld := ⟨.PCI_DMA_PTR, 16, 16, .rw, 0x0⟩
def PCI_DMA_WLO_ADDR : Fld := ⟨.PCI_DMA_WLO, 0, 48, .rw, 0x0⟩
def PCI_DMA_WHI_ADDR : Fld := ⟨.PCI_DMA_WHI, 0, 48, .rw, 0x0⟩
def PCI_DMA_CNT_DONE : Fld := ⟨.PCI_DMA_CNT, 0, 32, .rc, 0x0⟩
def PCI_DMA_CNT_ERRORS : Fld := ⟨.PCI_DMA_CNT, 32, 16, .rc, 0x0⟩
def PCI_DMA_CNT_DENIED : Fld := ⟨.PCI_DMA_CNT, 48, 16, .rc, 0x0⟩
def SPT_ADDR_ADDR : Fld := ⟨.SPT_ADDR, 0, 48, .rw, 0x0⟩
def SPT_STRIDE_STRIDE : Fld := ⟨.SPT_STRIDE, 0, 32, .rw, 0x0⟩
def SPT_LINE_LINE : Fld := ⟨.SPT_LINE, 0, 32, .rw, 0x0⟩
def SPT_COUNT_COUNT : Fld := ⟨.SPT_COUNT, 0, 40, .rw, 0x0⟩
def SPT_POS_POS : Fld := ⟨.SPT_POS, 0, 40, .ro, 0x0⟩
def SPT_CFG_CTX : Fld := ⟨.SPT_CFG, 0, 10, .rw, 0x0⟩
def SPT_CFG_DBACT : Fld := ⟨.SPT_CFG, 10, 2, .rw, 0x0⟩
def SPT_CFG_WKT : Fld := ⟨.SPT_CFG, 12, 17, .rw, 0x0⟩
def SPT_CNT_OVER : Fld := ⟨.SPT_CNT, 0, 16, .rc, 0x0⟩
def SPT_CNT_RANGE : Fld := ⟨.SPT_CNT, 16, 16, .rc, 0x0⟩
def SPT_CNT_DBDROP : Fld := ⟨.SPT_CNT, 32, 16, .rc, 0x0⟩
def SPT_CNT_DBELLS : Fld := ⟨.SPT_CNT, 48, 16, .rc, 0x0⟩
def ETH_RING_CFG_RING_E : Fld := ⟨.ETH_RING_CFG, 0, 4, .rws, 0x0⟩
def ETH_RING_CFG_RING_W : Fld := ⟨.ETH_RING_CFG, 4, 4, .rws, 0x0⟩
def ETH_RING_CFG_TC : Fld := ⟨.ETH_RING_CFG, 8, 1, .rws, 0x1⟩
def ETH_RING_CFG_GUARD : Fld := ⟨.ETH_RING_CFG, 9, 1, .rws, 0x0⟩
def ETH_RING_CFG_OWNER : Fld := ⟨.ETH_RING_CFG, 10, 1, .rws, 0x0⟩
def ETH_RING_CFG_OPEN : Fld := ⟨.ETH_RING_CFG, 11, 1, .ro, 0x0⟩
/-- [log entry 25 DEDUCED] -/
def ETH_QOS_MGMT_VID : Fld := ⟨.ETH_QOS, 0, 12, .rws, 0x1⟩
def ETH_QOS_RX_PCP : Fld := ⟨.ETH_QOS, 12, 3, .rws, 0x5⟩
def ETH_QOS_PUSH_VID : Fld := ⟨.ETH_QOS, 16, 12, .rws, 0x40⟩
/-- [log entry 35 DEDUCED] -/
def ETH_QOS_PUSH_PCP : Fld := ⟨.ETH_QOS, 28, 3, .rws, 0x0⟩
def ETH_QOS_TX_VID : Fld := ⟨.ETH_QOS, 32, 12, .rws, 0x0⟩
def ETH_QOS_TX_PCP : Fld := ⟨.ETH_QOS, 44, 3, .rws, 0x5⟩
def ETH_PORT_CFG_EN : Fld := ⟨.ETH_PORT_CFG, 0, 1, .rws, 0x0⟩
def ETH_PORT_CFG_STATE : Fld := ⟨.ETH_PORT_CFG, 1, 2, .ro, 0x0⟩
def ETH_PORT_CFG_PENDING_ON : Fld := ⟨.ETH_PORT_CFG, 3, 1, .ro, 0x0⟩
def ETH_PORT_CFG_MODE : Fld := ⟨.ETH_PORT_CFG, 4, 2, .rws, 0x0⟩
def ETH_PORT_CFG_FEC : Fld := ⟨.ETH_PORT_CFG, 6, 2, .rws, 0x0⟩
def ETH_PORT_CFG_BYP_OFF : Fld := ⟨.ETH_PORT_CFG, 8, 1, .rws, 0x0⟩
def ETH_PORT_CFG_BYP : Fld := ⟨.ETH_PORT_CFG, 9, 1, .ro, 0x0⟩
def ETH_PORT_CFG_LINK : Fld := ⟨.ETH_PORT_CFG, 10, 4, .ro, 0x0⟩
def ETH_PORT_CFG_MTU : Fld := ⟨.ETH_PORT_CFG, 16, 14, .rws, 0x5dc⟩
def ETH_PORT_ASYM_ASYM : Fld := ⟨.ETH_PORT_ASYM, 0, 32, .rws, 0x0⟩
def ETH_PTP_CFG_EN : Fld := ⟨.ETH_PTP_CFG, 0, 1, .rws, 0x0⟩
def ETH_PTP_CFG_ROLE : Fld := ⟨.ETH_PTP_CFG, 1, 2, .rws, 0x0⟩
def ETH_PTP_CFG_TWOSTEP : Fld := ⟨.ETH_PTP_CFG, 3, 1, .rws, 0x0⟩
def ETH_PTP_CFG_PORT : Fld := ⟨.ETH_PTP_CFG, 4, 4, .rws, 0x0⟩
def ETH_PTP_CFG_DOMAIN : Fld := ⟨.ETH_PTP_CFG, 8, 8, .rws, 0x0⟩
def ETH_PTP_CFG_SYNC : Fld := ⟨.ETH_PTP_CFG, 16, 4, .rws, 0xd⟩
def ETH_PTP_CFG_DREQ : Fld := ⟨.ETH_PTP_CFG, 20, 4, .rws, 0xd⟩
def ETH_PTP_CFG_ANN_TMO : Fld := ⟨.ETH_PTP_CFG, 24, 4, .rws, 0x0⟩
def ETH_RX_CFG_EN : Fld := ⟨.ETH_RX_CFG, 0, 1, .rw, 0x0⟩
def ETH_RX_CFG_STATE : Fld := ⟨.ETH_RX_CFG, 1, 2, .ro, 0x0⟩
def ETH_RX_CFG_PENDING_ON : Fld := ⟨.ETH_RX_CFG, 3, 1, .ro, 0x0⟩
def ETH_RX_CFG_PORT_A : Fld := ⟨.ETH_RX_CFG, 4, 4, .rw, 0x0⟩
def ETH_RX_CFG_PORT_B : Fld := ⟨.ETH_RX_CFG, 8, 4, .rw, 0x0⟩
def ETH_RX_CFG_DUAL : Fld := ⟨.ETH_RX_CFG, 12, 1, .rw, 0x0⟩
def ETH_RX_CFG_FMT : Fld := ⟨.ETH_RX_CFG, 13, 1, .rw, 0x0⟩
def ETH_RX_CFG_INC : Fld := ⟨.ETH_RX_CFG, 14, 1, .rw, 0x0⟩
def ETH_RX_CFG_STREAM : Fld := ⟨.ETH_RX_CFG, 15, 4, .rw, 0x0⟩
/-- [log entry 34 DEDUCED] -/
def ETH_RX_CFG_PTPI : Fld := ⟨.ETH_RX_CFG, 19, 3, .rw, 0x1⟩
def ETH_RX_CFG_CTX : Fld := ⟨.ETH_RX_CFG, 22, 10, .rw, 0x0⟩
def ETH_RX_GEO_WIDTH : Fld := ⟨.ETH_RX_GEO, 0, 16, .rw, 0xf00⟩
def ETH_RX_GEO_HEIGHT : Fld := ⟨.ETH_RX_GEO, 16, 16, .rw, 0x870⟩
def ETH_TX_GEO_WIDTH : Fld := ⟨.ETH_TX_GEO, 0, 16, .rw, 0xf00⟩
def ETH_TX_GEO_HEIGHT : Fld := ⟨.ETH_TX_GEO, 16, 16, .rw, 0x870⟩
def ETH_RX_DST_A_ADDR : Fld := ⟨.ETH_RX_DST_A, 0, 32, .rw, 0x0⟩
def ETH_RX_DST_A_UDP : Fld := ⟨.ETH_RX_DST_A, 32, 16, .rw, 0x0⟩
def ETH_RX_DST_B_ADDR : Fld := ⟨.ETH_RX_DST_B, 0, 32, .rw, 0x0⟩
def ETH_RX_DST_B_UDP : Fld := ⟨.ETH_RX_DST_B, 32, 16, .rw, 0x0⟩
def ETH_TX_DST_ADDR : Fld := ⟨.ETH_TX_DST, 0, 32, .rw, 0x0⟩
def ETH_TX_DST_UDP : Fld := ⟨.ETH_TX_DST, 32, 16, .rw, 0x0⟩
def ETH_TX_CFG_EN : Fld := ⟨.ETH_TX_CFG, 0, 1, .rw, 0x0⟩
def ETH_TX_CFG_STATE : Fld := ⟨.ETH_TX_CFG, 1, 2, .ro, 0x0⟩
def ETH_TX_CFG_PENDING_ON : Fld := ⟨.ETH_TX_CFG, 3, 1, .ro, 0x0⟩
def ETH_TX_CFG_PORT : Fld := ⟨.ETH_TX_CFG, 4, 4, .rw, 0x0⟩
def ETH_TX_CFG_FMT : Fld := ⟨.ETH_TX_CFG, 8, 1, .rw, 0x0⟩
def ETH_TX_CFG_TYPEW : Fld := ⟨.ETH_TX_CFG, 9, 1, .rw, 0x0⟩
def ETH_TX_CFG_LC : Fld := ⟨.ETH_TX_CFG, 10, 2, .rw, 0x0⟩
def ETH_TX_CFG_WKV : Fld := ⟨.ETH_TX_CFG, 12, 1, .rw, 0x0⟩
def ETH_TX_CFG_WKT : Fld := ⟨.ETH_TX_CFG, 13, 17, .rw, 0x0⟩
def ETH_TX_BUF_BASE : Fld := ⟨.ETH_TX_BUF, 6, 42, .rw, 0x0⟩
def ETH_TX_BUF_CTX : Fld := ⟨.ETH_TX_BUF, 48, 16, .rw, 0x0⟩
def ETH_TX_RING_RING : Fld := ⟨.ETH_TX_RING, 0, 16, .rw, 0x0⟩
def ETH_TX_RING_OFS : Fld := ⟨.ETH_TX_RING, 16, 16, .rw, 0x0⟩
def ETH_TX_RING_STRIDE : Fld := ⟨.ETH_TX_RING, 32, 32, .rw, 0x0⟩
def ETH_VLAN_MEMBER : Fld := ⟨.ETH_VLAN, 0, 20, .rws, 0x0⟩
def ETH_VLAN_UNTAG : Fld := ⟨.ETH_VLAN, 20, 20, .rws, 0x0⟩
def ETH_CNT_STOMP : Fld := ⟨.ETH_CNT, 0, 16, .rc, 0x0⟩
def ETH_CNT_RXERR : Fld := ⟨.ETH_CNT, 16, 16, .rc, 0x0⟩
def ETH_CNT_DOWN : Fld := ⟨.ETH_CNT, 32, 16, .rc, 0x0⟩
def ETH_CNT_CPUDROP : Fld := ⟨.ETH_CNT, 48, 16, .rc, 0x0⟩
def ARC_CFG_DENSITY : Fld := ⟨.ARC_CFG, 0, 2, .rws, 0x2⟩
def ARC_CFG_TRAINED : Fld := ⟨.ARC_CFG, 2, 1, .ro, 0x0⟩
def ARC_CFG_HOT : Fld := ⟨.ARC_CFG, 3, 1, .ro, 0x0⟩
def ARC_ADMIT_CAP : Fld := ⟨.ARC_ADMIT, 0, 12, .rws, 0x99a⟩
def ARC_ADMIT_TOTAL : Fld := ⟨.ARC_ADMIT, 16, 12, .ro, 0x0⟩
def ARC_ADMIT_OVER : Fld := ⟨.ARC_ADMIT, 28, 1, .ro, 0x0⟩
def ARC_CNT_ECC_CE : Fld := ⟨.ARC_CNT, 0, 16, .rc, 0x0⟩
def ARC_CNT_RANGE : Fld := ⟨.ARC_CNT, 16, 16, .rc, 0x0⟩
def ARC_CNT_STGREF : Fld := ⟨.ARC_CNT, 32, 16, .rc, 0x0⟩
def ARC_CNT_CRITPRE : Fld := ⟨.ARC_CNT, 48, 16, .rc, 0x0⟩
def ARC_RESV_RATE : Fld := ⟨.ARC_RESV, 0, 12, .rws, 0x0⟩
def ARC_RESV_DEPTH : Fld := ⟨.ARC_RESV, 16, 16, .rws, 0x0⟩
def ARC_RESV_WAIT : Fld := ⟨.ARC_RESV, 32, 16, .rc, 0x0⟩
def ARC_STG_EN : Fld := ⟨.ARC_STG, 0, 1, .rw, 0x0⟩
def ARC_STG_VALID : Fld := ⟨.ARC_STG, 1, 1, .ro, 0x0⟩
def ARC_STG_BASE : Fld := ⟨.ARC_STG, 16, 32, .rw, 0x0⟩
def ARC_STG_SIZE : Fld := ⟨.ARC_STG, 48, 16, .rw, 0x0⟩
def ARC_FILL_ADDR_BASE : Fld := ⟨.ARC_FILL_ADDR, 6, 42, .rw, 0x0⟩
def ARC_FILL_LEN_LEN : Fld := ⟨.ARC_FILL_LEN, 6, 42, .rw, 0x0⟩
def ARC_FILL_PAT_PATTERN : Fld := ⟨.ARC_FILL_PAT, 0, 64, .rw, 0x0⟩
def ARC_FILL_CTRL_GO : Fld := ⟨.ARC_FILL_CTRL, 0, 1, .w1s, 0x0⟩
def ARC_FILL_CTRL_BUSY : Fld := ⟨.ARC_FILL_CTRL, 1, 1, .ro, 0x0⟩
def ARC_FILL_CTRL_CLASS : Fld := ⟨.ARC_FILL_CTRL, 2, 2, .rw, 0x0⟩
def ARC_FILL_CTRL_CTX : Fld := ⟨.ARC_FILL_CTRL, 4, 10, .rw, 0x0⟩
def ARC_FILL_CTRL_WKT : Fld := ⟨.ARC_FILL_CTRL, 14, 17, .rw, 0x0⟩
def ARC_FILL_CTRL_WKV : Fld := ⟨.ARC_FILL_CTRL, 31, 1, .rw, 0x0⟩
def PWR_BUDGET_BUDGET : Fld := ⟨.PWR_BUDGET, 0, 8, .rws, 0xa0⟩
def PWR_BUDGET_CAP : Fld := ⟨.PWR_BUDGET, 16, 16, .rws, 0x1000⟩
def PWR_THERM_CFG_T_WARN : Fld := ⟨.PWR_THERM_CFG, 0, 8, .rws, 0x5f⟩
def PWR_THERM_CFG_T_EMERG : Fld := ⟨.PWR_THERM_CFG, 8, 8, .rws, 0x64⟩
def PWR_THERM_CFG_T_TRIP : Fld := ⟨.PWR_THERM_CFG, 16, 8, .rws, 0x6e⟩
def PWR_THERM_CFG_P_EMERG : Fld := ⟨.PWR_THERM_CFG, 24, 8, .rws, 0x91⟩
def PWR_STAT_HOT : Fld := ⟨.PWR_STAT, 0, 16, .ro, 0x0⟩
def PWR_STAT_SENSOR : Fld := ⟨.PWR_STAT, 16, 5, .ro, 0x0⟩
def PWR_STAT_EMERG : Fld := ⟨.PWR_STAT, 21, 1, .ro, 0x0⟩
def PWR_STAT_POWER : Fld := ⟨.PWR_STAT, 32, 16, .ro, 0x0⟩
def PWR_STAT_EMERGS : Fld := ⟨.PWR_STAT, 48, 16, .rc, 0x0⟩
def PWR_DOM_CTRL_EN : Fld := ⟨.PWR_DOM_CTRL, 0, 1, .rw, 0x1⟩
def PWR_DOM_CTRL_STATE : Fld := ⟨.PWR_DOM_CTRL, 1, 2, .ro, 0x2⟩
def PWR_DOM_CTRL_PENDING_ON : Fld := ⟨.PWR_DOM_CTRL, 3, 1, .ro, 0x0⟩
def PWR_DOM_CTRL_OWNED : Fld := ⟨.PWR_DOM_CTRL, 4, 1, .ro, 0x1⟩
def ORG_ACL_WEN : Fld := ⟨.ORG_ACL, 0, 17, .rws, 0x1dfff⟩
def ORG_HART_CTRL_RELEASE : Fld := ⟨.ORG_HART_CTRL, 0, 1, .rws, 0x0⟩
def ORG_HART_CTRL_RUNNING : Fld := ⟨.ORG_HART_CTRL, 1, 1, .ro, 0x0⟩
def ORG_HART_VEC_VEC : Fld := ⟨.ORG_HART_VEC, 2, 46, .rws, 0x0⟩
def ORG_IRQ_ROUTE_HART : Fld := ⟨.ORG_IRQ_ROUTE, 0, 4, .rw, 0x0⟩
def ORG_IRQ_ROUTE_FILE : Fld := ⟨.ORG_IRQ_ROUTE, 4, 3, .rw, 0x0⟩
def ORG_IRQ_ROUTE_ID : Fld := ⟨.ORG_IRQ_ROUTE, 7, 8, .rw, 0x0⟩
def ORG_IRQ_ROUTE_EN : Fld := ⟨.ORG_IRQ_ROUTE, 15, 1, .rw, 0x0⟩
def GTH_STAT_LC : Fld := ⟨.GTH_STAT, 0, 3, .ro, 0x0⟩
def GTH_STAT_BOOTSRC : Fld := ⟨.GTH_STAT, 3, 2, .ro, 0x0⟩
def GTH_STAT_RECOVERY : Fld := ⟨.GTH_STAT, 5, 1, .ro, 0x0⟩
def GTH_STAT_IDENT : Fld := ⟨.GTH_STAT, 6, 1, .ro, 0x0⟩
def GTH_STAT_DEBUG : Fld := ⟨.GTH_STAT, 7, 1, .ro, 0x0⟩
def GTH_STAT_RESULT : Fld := ⟨.GTH_STAT, 8, 8, .ro, 0x0⟩
def GTH_STAT_COUNTER : Fld := ⟨.GTH_STAT, 16, 7, .ro, 0x0⟩
def GTH_STAT_SEALED : Fld := ⟨.GTH_STAT, 23, 7, .ro, 0x0⟩
def GTH_MR_DIGEST : Fld := ⟨.GTH_MR, 0, 64, .ro, 0x0⟩
def GTH_MBOX_CMD_CMD : Fld := ⟨.GTH_MBOX_CMD, 0, 8, .rw, 0x0⟩
def GTH_MBOX_CMD_GO : Fld := ⟨.GTH_MBOX_CMD, 8, 1, .w1s, 0x0⟩
def GTH_MBOX_STAT_BUSY : Fld := ⟨.GTH_MBOX_STAT, 0, 1, .ro, 0x0⟩
def GTH_MBOX_STAT_DONE : Fld := ⟨.GTH_MBOX_STAT, 1, 1, .w1c, 0x0⟩
def GTH_MBOX_STAT_PHASE : Fld := ⟨.GTH_MBOX_STAT, 2, 2, .ro, 0x0⟩
def GTH_MBOX_STAT_RESULT : Fld := ⟨.GTH_MBOX_STAT, 16, 16, .ro, 0x0⟩
def GZB_ALM_STICKY_STICKY : Fld := ⟨.GZB_ALM_STICKY, 0, 32, .w1c, 0x0⟩
def GZB_ALM_ENTRY_FIRST : Fld := ⟨.GZB_ALM_ENTRY, 0, 64, .ro, 0x0⟩
def GZB_ALM_ENTRY_HI_COUNT : Fld := ⟨.GZB_ALM_ENTRY_HI, 0, 32, .ro, 0x0⟩
def GZB_ALM_ENTRY_HI_CODE : Fld := ⟨.GZB_ALM_ENTRY_HI, 32, 16, .ro, 0x0⟩
def GZB_ALM_RAISE_SRC : Fld := ⟨.GZB_ALM_RAISE, 0, 8, .wo, 0x0⟩
def GZB_LOG_RING_BASE : Fld := ⟨.GZB_LOG_RING, 6, 42, .rws, 0x0⟩
def GZB_LOG_RING_SIZE : Fld := ⟨.GZB_LOG_RING, 48, 5, .rws, 0x0⟩
def GZB_TRC_RING_BASE : Fld := ⟨.GZB_TRC_RING, 6, 42, .rws, 0x0⟩
def GZB_TRC_RING_SIZE : Fld := ⟨.GZB_TRC_RING, 48, 5, .rws, 0x0⟩
def GZB_LOG_WIDX_IDX : Fld := ⟨.GZB_LOG_WIDX, 0, 64, .ro, 0x0⟩
def GZB_LOG_RIDX_IDX : Fld := ⟨.GZB_LOG_RIDX, 0, 64, .rws, 0x0⟩
def GZB_TRC_WIDX_IDX : Fld := ⟨.GZB_TRC_WIDX, 0, 64, .ro, 0x0⟩
def GZB_TRC_RIDX_IDX : Fld := ⟨.GZB_TRC_RIDX, 0, 64, .rws, 0x0⟩
def GZB_LOG_CFG_LOG_WM : Fld := ⟨.GZB_LOG_CFG, 0, 24, .rws, 0x40⟩
def GZB_LOG_PUT_DATA : Fld := ⟨.GZB_LOG_PUT, 0, 64, .wo, 0x0⟩
def GZB_LOG_PCODE_CODE : Fld := ⟨.GZB_LOG_PCODE, 0, 16, .wo, 0x0⟩
def GZB_TRC_CFG_LEVEL : Fld := ⟨.GZB_TRC_CFG, 0, 2, .rws, 0x0⟩
def GZB_TRC_CFG_K : Fld := ⟨.GZB_TRC_CFG, 4, 4, .ro, 0x0⟩
def GZB_DROP_LOG : Fld := ⟨.GZB_DROP, 0, 32, .rc, 0x0⟩
def GZB_DROP_TRACE : Fld := ⟨.GZB_DROP, 32, 32, .rc, 0x0⟩
def GZB_EGR_DST_ADDR : Fld := ⟨.GZB_EGR_DST, 0, 32, .rws, 0x0⟩
def GZB_EGR_DST_UDP : Fld := ⟨.GZB_EGR_DST, 32, 16, .rws, 0x0⟩
def GZB_EGR_DST_PORT : Fld := ⟨.GZB_EGR_DST, 48, 2, .rws, 0x0⟩
def GZB_TCNT_COUNT : Fld := ⟨.GZB_TCNT, 0, 64, .ro, 0x0⟩
/-- The fields of each register; bits of no field are reserved (R8). -/
def Reg.flds : Reg → List Fld
  | .GLB_DEVID => [GLB_DEVID_PART, GLB_DEVID_FAMILY, GLB_DEVID_STEP_MAJOR, GLB_DEVID_STEP_MINOR]
  | .SDL_CAPT => [SDL_CAPT_CAPT, SDL_CAPT_PAIR]
  | .SDL_PAIR_SEQ => [SDL_PAIR_SEQ_SEQ]
  | .SDL_LC_APPLY => [SDL_LC_APPLY_APPLY]
  | .SDL_TB_CTRL => [SDL_TB_CTRL_OVR, SDL_TB_CTRL_LOAD, SDL_TB_CTRL_UNSET]
  | .SDL_TB_STAT => [SDL_TB_STAT_HOLDOVER, SDL_TB_STAT_JUMP_REFUSED, SDL_TB_STAT_DISCARDS]
  | .SDL_TB_INC => [SDL_TB_INC_INC]
  | .SDL_TB_STEP => [SDL_TB_STEP_STEP]
  | .SDL_TB_LOAD_SEC => [SDL_TB_LOAD_SEC_SEC]
  | .SDL_TB_SNAP_SEC => [SDL_TB_SNAP_SEC_SEC]
  | .SDL_TB_LOAD_NSS => [SDL_TB_LOAD_NSS_SUB, SDL_TB_LOAD_NSS_NS]
  | .SDL_TB_SNAP_NSS => [SDL_TB_SNAP_NSS_SUB, SDL_TB_SNAP_NSS_NS]
  | .SDL_TB_JLIM => [SDL_TB_JLIM_JLIM]
  | .SDL_TB_LAST_REF => [SDL_TB_LAST_REF_JUMP]
  | .SDL_LC_CFG => [SDL_LC_CFG_MODE, SDL_LC_CFG_BASE, SDL_LC_CFG_SLEW, SDL_LC_CFG_TOL, SDL_LC_CFG_DIV]
  | .SDL_LC_RATE => [SDL_LC_RATE_DEN, SDL_LC_RATE_NUM]
  | .SDL_LC_OFFSET => [SDL_LC_OFFSET_OFFSET]
  | .SDL_LC_POS => [SDL_LC_POS_P, SDL_LC_POS_L, SDL_LC_POS_F]
  | .SDL_LC_STAT => [SDL_LC_STAT_GENLOCK_LOST, SDL_LC_STAT_ALIGNED, SDL_LC_STAT_OUTLIERS]
  | .PTR_ARITH_CFG => [PTR_ARITH_CFG_SAT_SHIFT, PTR_ARITH_CFG_LOW_SHIFT]
  | .PAV_ARITH_CNT => [PAV_ARITH_CNT_A96SAT, PAV_ARITH_CNT_SKEW, PAV_ARITH_CNT_MISS, PAV_ARITH_CNT_NONFIN]
  | .PAV_ARITH_LOSS => [PAV_ARITH_LOSS_WLOSS, PAV_ARITH_LOSS_ALOSS]
  | .PLT_CTRL => [PLT_CTRL_EN, PLT_CTRL_LC]
  | .PLT_STAT => [PLT_STAT_STATE, PLT_STAT_PENDING_ON, PLT_STAT_LOADFAULT]
  | .PLT_IMAGE => [PLT_IMAGE_ADDR]
  | .PLT_GEN => [PLT_GEN_GEN]
  | .PLT_QPTR => [PLT_QPTR_PC, PLT_QPTR_L1, PLT_QPTR_L2, PLT_QPTR_L3]
  | .PAV_QPTR => [PAV_QPTR_PC, PAV_QPTR_L1, PAV_QPTR_L2, PAV_QPTR_L3]
  | .PLT_STEP => [PLT_STEP_STEP]
  | .PAV_STEP => [PAV_STEP_STEP]
  | .PTR_PLOT_MAP => [PTR_PLOT_MAP_PLOT0, PTR_PLOT_MAP_VALID0, PTR_PLOT_MAP_PLOT1, PTR_PLOT_MAP_VALID1, PTR_PLOT_MAP_PLOT2, PTR_PLOT_MAP_VALID2, PTR_PLOT_MAP_PLOT3, PTR_PLOT_MAP_VALID3]
  | .PTR_WKT => [PTR_WKT_OWNER, PTR_WKT_V, PTR_WKT_BMODE, PTR_WKT_WKIND, PTR_WKT_WID]
  | .PLT_REC => [PLT_REC_BASE, PLT_REC_SIZE]
  | .PLT_RECIDX => [PLT_RECIDX_COUNT]
  | .PAV_LBUF => [PAV_LBUF_BANKS, PAV_LBUF_PEAK]
  | .PAV_WIN_CNT => [PAV_WIN_CNT_EMPTY, PAV_WIN_CNT_LBSHORT, PAV_WIN_CNT_HOSTDROP]
  | .BEL_PWR_CTRL => [BEL_PWR_CTRL_EN, BEL_PWR_CTRL_STATE, BEL_PWR_CTRL_PENDING_ON]
  | .BEL_ENG_STAT => [BEL_ENG_STAT_QDEPTH, BEL_ENG_STAT_BUSY, BEL_ENG_STAT_DONE]
  | .BEL_SEG_FULL => [BEL_SEG_FULL_SEG]
  | .BEL_SEG_RSV => [BEL_SEG_RSV_SEG]
  | .BEL_CNT => [BEL_CNT_FLOWINV, BEL_CNT_OCC, BEL_CNT_LOWTEX, BEL_CNT_BADVEC]
  | .BEL_IMG_W0 => [BEL_IMG_W0_KIND, BEL_IMG_W0_FORMAT, BEL_IMG_W0_CONSUME, BEL_IMG_W0_BLVL, BEL_IMG_W0_PLV, BEL_IMG_W0_OWNER, BEL_IMG_W0_RPTR, BEL_IMG_W0_WIDTH, BEL_IMG_W0_HEIGHT]
  | .BEL_IMG_W1 => [BEL_IMG_W1_BASE]
  | .BEL_IMG_W2 => [BEL_IMG_W2_RING, BEL_IMG_W2_STEP_OFS, BEL_IMG_W2_STRIDE]
  | .BEL_IMG_W3 => [BEL_IMG_W3_PITCH, BEL_IMG_W3_BROWS, BEL_IMG_W3_COFS]
  | .BEL_FPSET => [BEL_FPSET_LEVELS, BEL_FPSET_SR, BEL_FPSET_CW, BEL_FPSET_CLIP, BEL_FPSET_CONF_MIN, BEL_FPSET_COST_MAX]
  | .BEL_DPSET => [BEL_DPSET_DMAX, BEL_DPSET_LRC, BEL_DPSET_CW, BEL_DPSET_CLIP, BEL_DPSET_THR, BEL_DPSET_P1, BEL_DPSET_P2]
  | .BEL_DVTH => [BEL_DVTH_VTH]
  | .BEL_WPSET => [BEL_WPSET_FILTER, BEL_WPSET_OP, BEL_WPSET_VG, BEL_WPSET_VSCALE]
  | .PLT_STRM_CFG => [PLT_STRM_CFG_EN, PLT_STRM_CFG_STATE, PLT_STRM_CFG_PENDING_ON, PLT_STRM_CFG_MODE, PLT_STRM_CFG_FACTOR, PLT_STRM_CFG_HEADS, PLT_STRM_CFG_LC, PLT_STRM_CFG_FB, PLT_STRM_CFG_FBNEG, PLT_STRM_CFG_FBLAG, PLT_STRM_CFG_ALVL]
  | .PLT_STRM_BIND => [PLT_STRM_BIND_PLOTA, PLT_STRM_BIND_AV, PLT_STRM_BIND_PLOTB, PLT_STRM_BIND_BV, PLT_STRM_BIND_OWNER]
  | .PLT_STRM_BAND => [PLT_STRM_BAND_BH, PLT_STRM_BAND_LATCH, PLT_STRM_BAND_FBIMG, PLT_STRM_BAND_FBPSET]
  | .PLT_STRM_IN => [PLT_STRM_IN_IBASE, PLT_STRM_IN_ISLOTS]
  | .PLT_STRM_ISTR => [PLT_STRM_ISTR_ISTRIDE]
  | .PLT_STRM_XLIM => [PLT_STRM_XLIM_XLIMIT]
  | .PLT_STRM_IDLY => [PLT_STRM_IDLY_IDELAY]
  | .PLT_STRM_POST => [PLT_STRM_POST_SLOT]
  | .PLT_STRM_STAT => [PLT_STRM_STAT_FREE, PLT_STRM_STAT_FAULT, PLT_STRM_STAT_SEQ]
  | .PLT_STRM_LOG => [PLT_STRM_LOG_BASE, PLT_STRM_LOG_SIZE]
  | .PLT_STRM_CNT => [PLT_STRM_CNT_STALE, PLT_STRM_CNT_SKIP, PLT_STRM_CNT_BUSY, PLT_STRM_CNT_OVERLIM]
  | .PLT_STRM_CNT2 => [PLT_STRM_CNT2_FUTURE, PLT_STRM_CNT2_XFALL, PLT_STRM_CNT2_HOLDGUARD, PLT_STRM_CNT2_ALIASMISS]
  | .PLT_POST => [PLT_POST_SV, PLT_POST_STREAM, PLT_POST_LAYER, PLT_POST_BASE]
  | .PLT_POST_RING => [PLT_POST_RING_RING, PLT_POST_RING_STEP_OFS, PLT_POST_RING_STRIDE]
  | .PLT_POST_CNT => [PLT_POST_CNT_LATE, PLT_POST_CNT_DUP, PLT_POST_CNT_VOID, PLT_POST_CNT_HOLD]
  | .BST_LEAD => [BST_LEAD_LEAD, BST_LEAD_FETCH]
  | .BST_COMMIT => [BST_COMMIT_COMMIT]
  | .BST_HCTRL => [BST_HCTRL_EN, BST_HCTRL_STATE, BST_HCTRL_PENDING_ON, BST_HCTRL_OUTPUT, BST_HCTRL_VRR, BST_HCTRL_DUSK_EN]
  | .BST_HSTAT => [BST_HSTAT_LINKUP, BST_HSTAT_DUSK, BST_HSTAT_SETTLE, BST_HSTAT_HOLDMODE, BST_HSTAT_COMMIT_REFUSED, BST_HSTAT_PINCHECK, BST_HSTAT_TRAIN_FAIL, BST_HSTAT_PCRUN, BST_HSTAT_REASON]
  | .BST_HTIM => [BST_HTIM_HACTIVE, BST_HTIM_HTOTAL]
  | .BST_VTIM => [BST_VTIM_VACTIVE, BST_VTIM_VTOTAL]
  | .BST_HSYNC => [BST_HSYNC_HSS, BST_HSYNC_HSW, BST_HSYNC_HPOL]
  | .BST_VSYNC => [BST_VSYNC_VSS, BST_VSYNC_VSW, BST_VSYNC_VPOL]
  | .BST_VRR => [BST_VRR_VT_MIN, BST_VRR_VT_MAX]
  | .BST_LINK => [BST_LINK_RATE, BST_LINK_LANES, BST_LINK_BPC10, BST_LINK_COLORIMETRY]
  | .BST_FMT => [BST_FMT_BASEFMT, BST_FMT_OVFMT]
  | .BST_BG => [BST_BG_B, BST_BG_G, BST_BG_R]
  | .BST_WMARK => [BST_WMARK_LOW, BST_WMARK_CRIT]
  | .BST_DUSK => [BST_DUSK_DUSK_FRAMES, BST_DUSK_DUSK_VT]
  | .BST_PC_CFG => [BST_PC_CFG_PC_LIMIT, BST_PC_CFG_PC_EN]
  | .BST_PC_MISS => [BST_PC_MISS_FRAME]
  | .BST_PC_LAST => [BST_PC_LAST_EXPECTED, BST_PC_LAST_MEASURED]
  | .BST_HCNT => [BST_HCNT_UNDERRUN, BST_HCNT_SKIPFR, BST_HCNT_PCMISS, BST_HCNT_FOREIGN]
  | .BST_HCNT2 => [BST_HCNT2_SHORTFR, BST_HCNT2_PUSHDEFER]
  | .BST_PUSH_CFG => [BST_PUSH_CFG_PORT, BST_PUSH_CFG_PUSHFMT, BST_PUSH_CFG_PKTROWS, BST_PUSH_CFG_PBASE, BST_PUSH_CFG_CANVAS]
  | .BST_PUSH_ORG => [BST_PUSH_ORG_RXBASE, BST_PUSH_ORG_RYBASE]
  | .BST_PUSH_DST => [BST_PUSH_DST_ADDR]
  | .BST_PUSH_UDP => [BST_PUSH_UDP_DPORT, BST_PUSH_UDP_SPORT]
  | .BST_PUSH_REFR => [BST_PUSH_REFR_REFRESH, BST_PUSH_REFR_DSCP]
  | .BST_PUSH_STAGE => [BST_PUSH_STAGE_BASE]
  | .BST_LYR_CFG => [BST_LYR_CFG_EN, BST_LYR_CFG_STATIC]
  | .BST_LYR_FETCH => [BST_LYR_FETCH_OFFSET, BST_LYR_FETCH_PITCH]
  | .BST_LYR_ADDR => [BST_LYR_ADDR_ADDR]
  | .BST_LYR_STAT => [BST_LYR_STAT_OFFLINE, BST_LYR_STAT_ON, BST_LYR_STAT_CAUSE]
  | .PLT_SEED_LO => [PLT_SEED_LO_SEED]
  | .PLT_SEED_HI => [PLT_SEED_HI_SEED]
  | .PLT_SAVE => [PLT_SAVE_SV, PLT_SAVE_ADDR]
  | .PLT_RESUME => [PLT_RESUME_RV, PLT_RESUME_ADDR]
  | .PTR_GBAR_CFG => [PTR_GBAR_CFG_SYNC_EN, PTR_GBAR_CFG_RLEAD]
  | .PTR_GBAR_DLY => [PTR_GBAR_DLY_SYNC_DLY]
  | .PTR_GBAR_STAT => [PTR_GBAR_STAT_LATE, PTR_GBAR_STAT_NOSYNC]
  | .PLT_SHARE => [PLT_SHARE_GRACE, PLT_SHARE_ADMIT, PLT_SHARE_QUANTUM]
  | .PLT_ADMIT => [PLT_ADMIT_LOAD, PLT_ADMIT_LIMIT]
  | .PLT_RUN => [PLT_RUN_SLOT, PLT_RUN_VALID]
  | .PLT_PRE_CNT => [PLT_PRE_CNT_SWITCHES, PLT_PRE_CNT_ABORTS, PLT_PRE_CNT_OVERRUN]
  | .PLT_SLOT_CFG => [PLT_SLOT_CFG_CTX, PLT_SLOT_CFG_CLASS, PLT_SLOT_CFG_RESUME, PLT_SLOT_CFG_WEIGHT, PLT_SLOT_CFG_RTSTEPS, PLT_SLOT_CFG_BIND, PLT_SLOT_CFG_REIMAGE]
  | .PLT_SLOT_STAT => [PLT_SLOT_STAT_STATE, PLT_SLOT_STAT_REFUSED, PLT_SLOT_STAT_LOADFAULT]
  | .PLT_SLOT_IMAGE => [PLT_SLOT_IMAGE_ADDR]
  | .PLT_SLOT_SAVE => [PLT_SLOT_SAVE_ADDR]
  | .PTR_CTX_CTRL => [PTR_CTX_CTRL_ALLOC, PTR_CTX_CTRL_TEAR, PTR_CTX_CTRL_STATE, PTR_CTX_CTRL_CGEN, PTR_CTX_CTRL_FAULT]
  | .PTR_CTX_FREC => [PTR_CTX_FREC_PLOT, PTR_CTX_FREC_STAGE, PTR_CTX_FREC_PC, PTR_CTX_FREC_STEP]
  | .PTR_CTX_PCYC => [PTR_CTX_PCYC_COUNT]
  | .PTR_CTX_BCYC => [PTR_CTX_BCYC_COUNT]
  | .PLT_BAT_CFG => [PLT_BAT_CFG_EN, PLT_BAT_CFG_STATE, PLT_BAT_CFG_PENDING_ON, PLT_BAT_CFG_PLOT, PLT_BAT_CFG_LANES, PLT_BAT_CFG_OWNER]
  | .PLT_BAT_LIM => [PLT_BAT_LIM_JOIN_LIMIT]
  | .PLT_BAT_POOL => [PLT_BAT_POOL_BASE]
  | .PLT_BAT_GRAN => [PLT_BAT_GRAN_POOL]
  | .PLT_BAT_WKT => [PLT_BAT_WKT_MAPWKT]
  | .PLT_BAT_CLS01 => [PLT_BAT_CLS01_R_EVEN, PLT_BAT_CLS01_R_ODD]
  | .PLT_BAT_CLS23 => [PLT_BAT_CLS23_R_EVEN, PLT_BAT_CLS23_R_ODD]
  | .PLT_BAT_REQ => [PLT_BAT_REQ_SID, PLT_BAT_REQ_OP, PLT_BAT_REQ_PRIO, PLT_BAT_REQ_CLASS]
  | .PLT_BAT_MAP => [PLT_BAT_MAP_BASE]
  | .PLT_BAT_RSP => [PLT_BAT_RSP_BASE, PLT_BAT_RSP_SIZE]
  | .PLT_BAT_RIDX => [PLT_BAT_RIDX_COUNT]
  | .PLT_BAT_STAT => [PLT_BAT_STAT_ACTIVE, PLT_BAT_STAT_QUEUED, PLT_BAT_STAT_FREEGRAN, PLT_BAT_STAT_FAULT]
  | .PLT_BAT_CNT => [PLT_BAT_CNT_JOINED, PLT_BAT_CNT_DEFERRED, PLT_BAT_CNT_REFUSED, PLT_BAT_CNT_LEFT]
  | .ZHL_GRP_CFG => [ZHL_GRP_CFG_GROUP_ID, ZHL_GRP_CFG_CHIP, ZHL_GRP_CFG_ANCHOR, ZHL_GRP_CFG_AAUTO, ZHL_GRP_CFG_LC, ZHL_GRP_CFG_AUTO_REJOIN]
  | .ZHL_GRP_MEMBERS => [ZHL_GRP_MEMBERS_MEMBERS]
  | .ZHL_GRP_TIMING => [ZHL_GRP_TIMING_RTT_MAX, ZHL_GRP_TIMING_LANE_THR]
  | .ZHL_GCMD => [ZHL_GCMD_REJOIN]
  | .ZHL_GRP_STAT => [ZHL_GRP_STAT_GSTATE, ZHL_GRP_STAT_ACTING, ZHL_GRP_STAT_TSYNC_LOCK, ZHL_GRP_STAT_RJCAUSE, ZHL_GRP_STAT_REACH]
  | .ZHL_RJFRAME => [ZHL_RJFRAME_FR]
  | .ZHL_TB6_OFS => [ZHL_TB6_OFS_OFS]
  | .ZHL_GRP_CNT => [ZHL_GRP_CNT_LOST, ZHL_GRP_CNT_REJOINS, ZHL_GRP_CNT_ABANDON, ZHL_GRP_CNT_IREFUSED]
  | .ZHL_ROUTE => [ZHL_ROUTE_PRI, ZHL_ROUTE_PV, ZHL_ROUTE_ALT, ZHL_ROUTE_AV, ZHL_ROUTE_HPRI, ZHL_ROUTE_HALT, ZHL_ROUTE_USING, ZHL_ROUTE_UNREACH]
  | .ZHL_PROXY => [ZHL_PROXY_LOCAL, ZHL_PROXY_V, ZHL_PROXY_RCHIP, ZHL_PROXY_RWKT]
  | .ZHL_XCUT => [ZHL_XCUT_XCUT]
  | .ZHL_LNK_CTRL => [ZHL_LNK_CTRL_EN, ZHL_LNK_CTRL_STATE, ZHL_LNK_CTRL_PENDING_ON, ZHL_LNK_CTRL_LSTATE, ZHL_LNK_CTRL_SPARE, ZHL_LNK_CTRL_SPARE_USED, ZHL_LNK_CTRL_NBR_CHIP, ZHL_LNK_CTRL_NBR_LINK, ZHL_LNK_CTRL_TRAIN_REASON]
  | .ZHL_LNK_RTT => [ZHL_LNK_RTT_RTT]
  | .ZHL_LNK_CNT => [ZHL_LNK_CNT_RETRY, ZHL_LNK_CNT_CRCERR, ZHL_LNK_CNT_SWAP, ZHL_LNK_CNT_DOWN]
  | .LDG_HANG_CFG => [LDG_HANG_CFG_HANG_WIN, LDG_HANG_CFG_PLOT_WIN]
  | .LDG_RESET => [LDG_RESET_LEVEL, LDG_RESET_TARGET]
  | .LDG_STAT => [LDG_STAT_LEVEL, LDG_STAT_REPLAY, LDG_STAT_HOLD, LDG_STAT_ENGINE, LDG_STAT_SEGFAIL]
  | .LDG_KEEP => [LDG_KEEP_K0, LDG_KEEP_K1, LDG_KEEP_SCHED, LDG_KEEP_SCHED_WIN]
  | .LDG_FW_ADDR => [LDG_FW_ADDR_ADDR]
  | .LDG_FW_CTRL => [LDG_FW_CTRL_GO, LDG_FW_CTRL_FLASH, LDG_FW_CTRL_LC, LDG_FW_CTRL_STATE, LDG_FW_CTRL_HEALTH, LDG_FW_CTRL_GO_IGNORED]
  | .LDG_DUMP_BASE => [LDG_DUMP_BASE_ADDR, LDG_DUMP_BASE_SIZE]
  | .LDG_DUMP_HOST => [LDG_DUMP_HOST_ADDR]
  | .LDG_DUMP_CFG => [LDG_DUMP_CFG_TRIG, LDG_DUMP_CFG_SCOPE, LDG_DUMP_CFG_REQ, LDG_DUMP_CFG_UNIT_WORDS]
  | .LDG_DUMP_STAT => [LDG_DUMP_STAT_BUSY, LDG_DUMP_STAT_DONE, LDG_DUMP_STAT_MISSED]
  | .PTR_SPARE_ROW => [PTR_SPARE_ROW_SPARE, PTR_SPARE_ROW_FAILED, PTR_SPARE_ROW_UNHOMED]
  | .PTR_SPARE_CMD => [PTR_SPARE_CMD_PAV]
  | .ARC_SCRUB_CFG => [ARC_SCRUB_CFG_SCRUB_HOURS]
  | .PCI_LINK => [PCI_LINK_SPEED, PCI_LINK_WIDTH, PCI_LINK_DOWNS]
  | .PCI_ACL => [PCI_ACL_WEN]
  | .PCI_BAR4_OFS => [PCI_BAR4_OFS_OFS]
  | .PCI_MSIX_SRC => [PCI_MSIX_SRC_VEC, PCI_MSIX_SRC_EN]
  | .PCI_DMA_CTRL => [PCI_DMA_CTRL_EN, PCI_DMA_CTRL_STATE, PCI_DMA_CTRL_PENDING_ON, PCI_DMA_CTRL_RLOC, PCI_DMA_CTRL_RSIZE, PCI_DMA_CTRL_WEIGHT, PCI_DMA_CTRL_CTX]
  | .PCI_DMA_RING => [PCI_DMA_RING_BASE]
  | .PCI_DMA_PTR => [PCI_DMA_PTR_HEAD, PCI_DMA_PTR_TAIL]
  | .PCI_DMA_WLO => [PCI_DMA_WLO_ADDR]
  | .PCI_DMA_WHI => [PCI_DMA_WHI_ADDR]
  | .PCI_DMA_CNT => [PCI_DMA_CNT_DONE, PCI_DMA_CNT_ERRORS, PCI_DMA_CNT_DENIED]
  | .SPT_ADDR => [SPT_ADDR_ADDR]
  | .SPT_STRIDE => [SPT_STRIDE_STRIDE]
  | .SPT_LINE => [SPT_LINE_LINE]
  | .SPT_COUNT => [SPT_COUNT_COUNT]
  | .SPT_POS => [SPT_POS_POS]
  | .SPT_CFG => [SPT_CFG_CTX, SPT_CFG_DBACT, SPT_CFG_WKT]
  | .SPT_CNT => [SPT_CNT_OVER, SPT_CNT_RANGE, SPT_CNT_DBDROP, SPT_CNT_DBELLS]
  | .ETH_RING_CFG => [ETH_RING_CFG_RING_E, ETH_RING_CFG_RING_W, ETH_RING_CFG_TC, ETH_RING_CFG_GUARD, ETH_RING_CFG_OWNER, ETH_RING_CFG_OPEN]
  | .ETH_QOS => [ETH_QOS_MGMT_VID, ETH_QOS_RX_PCP, ETH_QOS_PUSH_VID, ETH_QOS_PUSH_PCP, ETH_QOS_TX_VID, ETH_QOS_TX_PCP]
  | .ETH_PORT_CFG => [ETH_PORT_CFG_EN, ETH_PORT_CFG_STATE, ETH_PORT_CFG_PENDING_ON, ETH_PORT_CFG_MODE, ETH_PORT_CFG_FEC, ETH_PORT_CFG_BYP_OFF, ETH_PORT_CFG_BYP, ETH_PORT_CFG_LINK, ETH_PORT_CFG_MTU]
  | .ETH_PORT_ASYM => [ETH_PORT_ASYM_ASYM]
  | .ETH_PTP_CFG => [ETH_PTP_CFG_EN, ETH_PTP_CFG_ROLE, ETH_PTP_CFG_TWOSTEP, ETH_PTP_CFG_PORT, ETH_PTP_CFG_DOMAIN, ETH_PTP_CFG_SYNC, ETH_PTP_CFG_DREQ, ETH_PTP_CFG_ANN_TMO]
  | .ETH_RX_CFG => [ETH_RX_CFG_EN, ETH_RX_CFG_STATE, ETH_RX_CFG_PENDING_ON, ETH_RX_CFG_PORT_A, ETH_RX_CFG_PORT_B, ETH_RX_CFG_DUAL, ETH_RX_CFG_FMT, ETH_RX_CFG_INC, ETH_RX_CFG_STREAM, ETH_RX_CFG_PTPI, ETH_RX_CFG_CTX]
  | .ETH_RX_GEO => [ETH_RX_GEO_WIDTH, ETH_RX_GEO_HEIGHT]
  | .ETH_TX_GEO => [ETH_TX_GEO_WIDTH, ETH_TX_GEO_HEIGHT]
  | .ETH_RX_DST_A => [ETH_RX_DST_A_ADDR, ETH_RX_DST_A_UDP]
  | .ETH_RX_DST_B => [ETH_RX_DST_B_ADDR, ETH_RX_DST_B_UDP]
  | .ETH_TX_DST => [ETH_TX_DST_ADDR, ETH_TX_DST_UDP]
  | .ETH_TX_CFG => [ETH_TX_CFG_EN, ETH_TX_CFG_STATE, ETH_TX_CFG_PENDING_ON, ETH_TX_CFG_PORT, ETH_TX_CFG_FMT, ETH_TX_CFG_TYPEW, ETH_TX_CFG_LC, ETH_TX_CFG_WKV, ETH_TX_CFG_WKT]
  | .ETH_TX_BUF => [ETH_TX_BUF_BASE, ETH_TX_BUF_CTX]
  | .ETH_TX_RING => [ETH_TX_RING_RING, ETH_TX_RING_OFS, ETH_TX_RING_STRIDE]
  | .ETH_VLAN => [ETH_VLAN_MEMBER, ETH_VLAN_UNTAG]
  | .ETH_CNT => [ETH_CNT_STOMP, ETH_CNT_RXERR, ETH_CNT_DOWN, ETH_CNT_CPUDROP]
  | .ARC_CFG => [ARC_CFG_DENSITY, ARC_CFG_TRAINED, ARC_CFG_HOT]
  | .ARC_ADMIT => [ARC_ADMIT_CAP, ARC_ADMIT_TOTAL, ARC_ADMIT_OVER]
  | .ARC_CNT => [ARC_CNT_ECC_CE, ARC_CNT_RANGE, ARC_CNT_STGREF, ARC_CNT_CRITPRE]
  | .ARC_RESV => [ARC_RESV_RATE, ARC_RESV_DEPTH, ARC_RESV_WAIT]
  | .ARC_STG => [ARC_STG_EN, ARC_STG_VALID, ARC_STG_BASE, ARC_STG_SIZE]
  | .ARC_FILL_ADDR => [ARC_FILL_ADDR_BASE]
  | .ARC_FILL_LEN => [ARC_FILL_LEN_LEN]
  | .ARC_FILL_PAT => [ARC_FILL_PAT_PATTERN]
  | .ARC_FILL_CTRL => [ARC_FILL_CTRL_GO, ARC_FILL_CTRL_BUSY, ARC_FILL_CTRL_CLASS, ARC_FILL_CTRL_CTX, ARC_FILL_CTRL_WKT, ARC_FILL_CTRL_WKV]
  | .PWR_BUDGET => [PWR_BUDGET_BUDGET, PWR_BUDGET_CAP]
  | .PWR_THERM_CFG => [PWR_THERM_CFG_T_WARN, PWR_THERM_CFG_T_EMERG, PWR_THERM_CFG_T_TRIP, PWR_THERM_CFG_P_EMERG]
  | .PWR_STAT => [PWR_STAT_HOT, PWR_STAT_SENSOR, PWR_STAT_EMERG, PWR_STAT_POWER, PWR_STAT_EMERGS]
  | .PWR_DOM_CTRL => [PWR_DOM_CTRL_EN, PWR_DOM_CTRL_STATE, PWR_DOM_CTRL_PENDING_ON, PWR_DOM_CTRL_OWNED]
  | .ORG_ACL => [ORG_ACL_WEN]
  | .ORG_HART_CTRL => [ORG_HART_CTRL_RELEASE, ORG_HART_CTRL_RUNNING]
  | .ORG_HART_VEC => [ORG_HART_VEC_VEC]
  | .ORG_IRQ_ROUTE => [ORG_IRQ_ROUTE_HART, ORG_IRQ_ROUTE_FILE, ORG_IRQ_ROUTE_ID, ORG_IRQ_ROUTE_EN]
  | .GTH_STAT => [GTH_STAT_LC, GTH_STAT_BOOTSRC, GTH_STAT_RECOVERY, GTH_STAT_IDENT, GTH_STAT_DEBUG, GTH_STAT_RESULT, GTH_STAT_COUNTER, GTH_STAT_SEALED]
  | .GTH_MR => [GTH_MR_DIGEST]
  | .GTH_MBOX_CMD => [GTH_MBOX_CMD_CMD, GTH_MBOX_CMD_GO]
  | .GTH_MBOX_STAT => [GTH_MBOX_STAT_BUSY, GTH_MBOX_STAT_DONE, GTH_MBOX_STAT_PHASE, GTH_MBOX_STAT_RESULT]
  | .GZB_ALM_STICKY => [GZB_ALM_STICKY_STICKY]
  | .GZB_ALM_ENTRY => [GZB_ALM_ENTRY_FIRST]
  | .GZB_ALM_ENTRY_HI => [GZB_ALM_ENTRY_HI_COUNT, GZB_ALM_ENTRY_HI_CODE]
  | .GZB_ALM_RAISE => [GZB_ALM_RAISE_SRC]
  | .GZB_LOG_RING => [GZB_LOG_RING_BASE, GZB_LOG_RING_SIZE]
  | .GZB_TRC_RING => [GZB_TRC_RING_BASE, GZB_TRC_RING_SIZE]
  | .GZB_LOG_WIDX => [GZB_LOG_WIDX_IDX]
  | .GZB_LOG_RIDX => [GZB_LOG_RIDX_IDX]
  | .GZB_TRC_WIDX => [GZB_TRC_WIDX_IDX]
  | .GZB_TRC_RIDX => [GZB_TRC_RIDX_IDX]
  | .GZB_LOG_CFG => [GZB_LOG_CFG_LOG_WM]
  | .GZB_LOG_PUT => [GZB_LOG_PUT_DATA]
  | .GZB_LOG_PCODE => [GZB_LOG_PCODE_CODE]
  | .GZB_TRC_CFG => [GZB_TRC_CFG_LEVEL, GZB_TRC_CFG_K]
  | .GZB_DROP => [GZB_DROP_LOG, GZB_DROP_TRACE]
  | .GZB_EGR_DST => [GZB_EGR_DST_ADDR, GZB_EGR_DST_UDP, GZB_EGR_DST_PORT]
  | .GZB_TCNT => [GZB_TCNT_COUNT]
/-- All registers, page by page. -/
def regList0 : List Reg := [.GLB_DEVID, .PTR_ARITH_CFG, .PTR_PLOT_MAP, .PTR_WKT, .PTR_GBAR_CFG, .PTR_GBAR_DLY, .PTR_GBAR_STAT, .PTR_CTX_CTRL, .PTR_CTX_FREC, .PTR_CTX_PCYC, .PTR_CTX_BCYC, .PTR_SPARE_ROW, .PTR_SPARE_CMD, .PAV_ARITH_CNT, .PAV_ARITH_LOSS, .PAV_QPTR, .PAV_STEP, .PAV_LBUF, .PAV_WIN_CNT, .PLT_CTRL, .PLT_STAT, .PLT_IMAGE, .PLT_GEN, .PLT_QPTR, .PLT_STEP, .PLT_REC, .PLT_RECIDX, .PLT_STRM_CFG, .PLT_STRM_BIND, .PLT_STRM_BAND, .PLT_STRM_IN, .PLT_STRM_ISTR, .PLT_STRM_XLIM, .PLT_STRM_IDLY, .PLT_STRM_POST, .PLT_STRM_STAT, .PLT_STRM_LOG, .PLT_STRM_CNT, .PLT_STRM_CNT2, .PLT_POST, .PLT_POST_RING, .PLT_POST_CNT, .PLT_SEED_LO, .PLT_SEED_HI, .PLT_SAVE, .PLT_RESUME, .PLT_SHARE, .PLT_ADMIT, .PLT_RUN, .PLT_PRE_CNT, .PLT_SLOT_CFG, .PLT_SLOT_STAT, .PLT_SLOT_IMAGE, .PLT_SLOT_SAVE, .PLT_BAT_CFG, .PLT_BAT_LIM, .PLT_BAT_POOL, .PLT_BAT_GRAN, .PLT_BAT_WKT, .PLT_BAT_CLS01]
def regList1 : List Reg := [.PLT_BAT_CLS23, .PLT_BAT_REQ, .PLT_BAT_MAP, .PLT_BAT_RSP, .PLT_BAT_RIDX, .PLT_BAT_STAT, .PLT_BAT_CNT, .ARC_SCRUB_CFG, .ARC_CFG, .ARC_ADMIT, .ARC_CNT, .ARC_RESV, .ARC_STG, .ARC_FILL_ADDR, .ARC_FILL_LEN, .ARC_FILL_PAT, .ARC_FILL_CTRL, .BEL_PWR_CTRL, .BEL_ENG_STAT, .BEL_SEG_FULL, .BEL_SEG_RSV, .BEL_CNT, .BEL_IMG_W0, .BEL_IMG_W1, .BEL_IMG_W2, .BEL_IMG_W3, .BEL_FPSET, .BEL_DPSET, .BEL_DVTH, .BEL_WPSET, .BST_LEAD, .BST_COMMIT, .BST_HCTRL, .BST_HSTAT, .BST_HTIM, .BST_VTIM, .BST_HSYNC, .BST_VSYNC, .BST_VRR, .BST_LINK, .BST_FMT, .BST_BG, .BST_WMARK, .BST_DUSK, .BST_PC_CFG, .BST_PC_MISS, .BST_PC_LAST, .BST_HCNT, .BST_HCNT2, .BST_PUSH_CFG, .BST_PUSH_ORG, .BST_PUSH_DST, .BST_PUSH_UDP, .BST_PUSH_REFR, .BST_PUSH_STAGE, .BST_LYR_CFG, .BST_LYR_FETCH, .BST_LYR_ADDR, .BST_LYR_STAT, .SDL_CAPT]
def regList2 : List Reg := [.SDL_PAIR_SEQ, .SDL_LC_APPLY, .SDL_TB_CTRL, .SDL_TB_STAT, .SDL_TB_INC, .SDL_TB_STEP, .SDL_TB_LOAD_SEC, .SDL_TB_SNAP_SEC, .SDL_TB_LOAD_NSS, .SDL_TB_SNAP_NSS, .SDL_TB_JLIM, .SDL_TB_LAST_REF, .SDL_LC_CFG, .SDL_LC_RATE, .SDL_LC_OFFSET, .SDL_LC_POS, .SDL_LC_STAT, .ZHL_GRP_CFG, .ZHL_GRP_MEMBERS, .ZHL_GRP_TIMING, .ZHL_GCMD, .ZHL_GRP_STAT, .ZHL_RJFRAME, .ZHL_TB6_OFS, .ZHL_GRP_CNT, .ZHL_ROUTE, .ZHL_PROXY, .ZHL_XCUT, .ZHL_LNK_CTRL, .ZHL_LNK_RTT, .ZHL_LNK_CNT, .ETH_RING_CFG, .ETH_QOS, .ETH_PORT_CFG, .ETH_PORT_ASYM, .ETH_PTP_CFG, .ETH_RX_CFG, .ETH_RX_GEO, .ETH_TX_GEO, .ETH_RX_DST_A, .ETH_RX_DST_B, .ETH_TX_DST, .ETH_TX_CFG, .ETH_TX_BUF, .ETH_TX_RING, .ETH_VLAN, .ETH_CNT, .PCI_LINK, .PCI_ACL, .PCI_BAR4_OFS, .PCI_MSIX_SRC, .PCI_DMA_CTRL, .PCI_DMA_RING, .PCI_DMA_PTR, .PCI_DMA_WLO, .PCI_DMA_WHI, .PCI_DMA_CNT, .SPT_ADDR, .SPT_STRIDE, .SPT_LINE]
def regList3 : List Reg := [.SPT_COUNT, .SPT_POS, .SPT_CFG, .SPT_CNT, .LDG_HANG_CFG, .LDG_RESET, .LDG_STAT, .LDG_KEEP, .LDG_FW_ADDR, .LDG_FW_CTRL, .LDG_DUMP_BASE, .LDG_DUMP_HOST, .LDG_DUMP_CFG, .LDG_DUMP_STAT, .GTH_STAT, .GTH_MR, .GTH_MBOX_CMD, .GTH_MBOX_STAT, .ORG_ACL, .ORG_HART_CTRL, .ORG_HART_VEC, .ORG_IRQ_ROUTE, .GZB_ALM_STICKY, .GZB_ALM_ENTRY, .GZB_ALM_ENTRY_HI, .GZB_ALM_RAISE, .GZB_LOG_RING, .GZB_TRC_RING, .GZB_LOG_WIDX, .GZB_LOG_RIDX, .GZB_TRC_WIDX, .GZB_TRC_RIDX, .GZB_LOG_CFG, .GZB_LOG_PUT, .GZB_LOG_PCODE, .GZB_TRC_CFG, .GZB_DROP, .GZB_EGR_DST, .GZB_TCNT, .PWR_BUDGET, .PWR_THERM_CFG, .PWR_STAT, .PWR_DOM_CTRL]
def Reg.all : List Reg := regList0 ++ regList1 ++ regList2 ++ regList3
end Sys2Proof.Machine
end

