-- ==== Sys2Proof/Machine/Tbl.lean ====
section
/-! DEFINITION. Sparse tables: the one form in which memory, registers and every numbered piece of state are held.
A table lists (key, value) pairs with keys strictly rising; an unlisted key reads as the table's default. -/
namespace Sys2Proof.Machine
/-- A sparse table, keys strictly rising. -/
abbrev Tbl (α : Type) := List (Nat × α)
/-- The value at key `i`; `d` where the key is not listed. -/
def Tbl.get {α : Type} (d : α) (t : Tbl α) (i : Nat) : α :=
  match t.find? (fun p => p.1 == i) with
  | some p => p.2
  | none => d
/-- The table without key `i`. -/
def Tbl.erase {α : Type} (t : Tbl α) (i : Nat) : Tbl α := t.filter (fun p => p.1 != i)
/-- Key `i` becomes `v`; a value equal to the default `d` is not listed. -/
def Tbl.set {α : Type} [DecidableEq α] (d : α) (t : Tbl α) (i : Nat) (v : α) : Tbl α :=
  t.filter (fun p => decide (p.1 < i)) ++ (if v = d then [] else [(i, v)]) ++ t.filter (fun p => decide (i < p.1))
/-- Change the value at key `i` by `f`. -/
def Tbl.upd {α : Type} [DecidableEq α] (d : α) (t : Tbl α) (i : Nat) (f : α → α) : Tbl α :=
  t.set d i (f (t.get d i))
/-- Keys strictly rising. -/
def Tbl.sorted {α : Type} : Tbl α → Bool
  | [] => true
  | [_] => true
  | p :: q :: t => decide (p.1 < q.1) && Tbl.sorted (q :: t)
/-- The canonical form: keys strictly rising, and no entry equal to what an unlisted key reads as. -/
def Tbl.wf {α : Type} [DecidableEq α] (d : α) (t : Tbl α) : Bool :=
  t.sorted && t.all (fun p => decide (p.2 ≠ d))
end Sys2Proof.Machine
end

