-- ==== Sys2Proof/Machine/State.lean ====
section
/-! DEFINITION. The state of the VX9600: every register (`regs`, placed by RegMap), every memory, and the state that the
spec gives its blocks beside their registers, as plain data; the machine right after reset; the reasons a step can stop.
Fields marked MODEL are the model's own. -/
namespace Sys2Proof.Machine
/-- Faults of the machine. The spec gives every command an effect or says that it is ignored, dropped, counted, refused
or handled as a command fault, which is a next state; so no command stops the machine and this type has no constructor. -/
inductive Fault
  deriving DecidableEq, Repr
/-- Refusals of the model. -/
inductive Refusal
  /-- Raised by an arm of exec that has no meaning yet; safe: the run stops. -/
  | notModelled (mnemonic : String)
  deriving DecidableEq, Repr
/-- Kinds of Zhevlink frames (R295-R314). -/
inductive ZKind
  | hello | ack | nak | lstate | haloReq | haloData | haloBusy | haloRefused | haloAck | wsig | waitReq | waitDone
  | waitCancel | fence | fenceAck | tsync | arrive | release | rejoinReq | rejoinGrant | rejoinFrame | other
  deriving DecidableEq, Repr
/-- A Zhevlink frame (Table 12.1): kind, origin and destination chip, hops left, generation tag, end-to-end sequence number,
and its content as numbers and payload bytes. -/
structure ZFrame where
  kind : ZKind
  src : Nat
  dst : Nat
  ttl : Nat
  tag : Nat
  eseq : Nat
  args : List Nat
  payload : List Byte
  deriving DecidableEq, Repr
/-- MODEL. What the device emits: data answered to a read; an MSI-X message of a function (0 PF0, 1 + v for VF v) and
vector; a UDP datagram on an Ethernet port (egress queue, destination address and ports, VLAN, payload); a raw frame on a switch port,
with its egress queue (Table 15.2);
a Zhevlink frame on a link, with its 536 bytes; the MSA and the VSC SDP of a head; bytes written to the host; an SMBus answer, or a NAK; the level of a pin; an MSI to the IMSIC of a
hart (file, identity); an image in LPDDR written to the SPI flash. [log entry 4 DESIGN CHOICE] -/
inductive Out
  | read (v : Nat)
  | data (bs : List Byte)
  | poisoned
  | msix (fn vec : Nat)
  | udp (port queue ip dport sport vid pcp dscp : Nat) (sum : Option (BitVec 16)) (payload : List Byte)
  | msa (head : Nat) (vals : List Nat)
  | vsc (head color : Nat)
  | frame (port queue : Nat) (bytes : List Byte)
  | zhl (link lseq : Nat) (f : ZFrame) (wire : List Byte)
  | host (addr : Nat) (bytes : List Byte)
  | smbus (bytes : List Byte)
  | nak
  | pin (name : String) (level : Bool)
  | imsic (hart file id : Nat)
  | flash (addr len : Nat)
  deriving DecidableEq, Repr
/-- What is armed for the next tick of a time base (R30, R32): a signed step in 1/16 ns, or an absolute value in
2^-32 ns. -/
inductive TbArm | none | step (d : Int) | load (v : Nat)
  deriving DecidableEq, Repr
/-- The part of a time base that no register shows (R27): its value in units of 2^-32 ns, hidden fraction included;
the armed step or load with the tick of its write; the tick of the newest accepted write of INC, STEP or LOAD, how many that tick has
brought, and what was armed and what INC was before the first of them (R32: HOLDOVER in the same tick comes first); the tick in which a
step or load last took effect (R381), the tick of the last capture (R46), and whether the last step or load was refused (R313). -/
structure TBase where
  val : Nat := 0
  arm : TbArm := .none
  armTick : Nat := 0
  wTick : Nat := 0
  wN : Nat := 0
  incOld : Nat := 0x200000000
  armOld : TbArm := .none
  armOldTick : Nat := 0
  stepAt : Option Nat := none
  capAt : Option Nat := none
  refused : Bool := false
  deriving DecidableEq, Repr
/-- A pair (R34): its number, the values of all eight bases in 1/16 ns, and the INC of each base then in force. -/
structure Pair where
  seq : Nat
  vals : List Nat
  incs : List Nat
  deriving DecidableEq, Repr
/-- The active side of a line clock (R37-R42). Times are base values in 1/16 ns, exact. `start` is the start of the
current frame, `next` the instant at which it ends, `pend` the realignment not yet absorbed at `start` (R39), `adj`
what the current frame absorbs of it in whole lines, `armed` that `next` is the first frame start after turning on, `nextRate` the NUM, DEN,
HTOTAL and VTOTAL that a commit has given the frames to come. -/
structure LClock where
  mode : Nat := 0
  base : Nat := 0
  slew : Nat := 1
  tol : Nat := 4
  div : Nat := 0
  num : Nat := 60
  den : Nat := 1
  offset : Int := 0
  htotal : Nat := 4000
  vtotal : Nat := 2222
  live : Bool := false
  armed : Bool := false
  frame : Nat := 0
  start : Rat := 0
  next : Rat := 0
  pend : Rat := 0
  adjLines : Int := 0
  outRun : Nat := 0
  lastPulse : Rat := 0
  nextRate : Option (Nat × Nat × Nat × Nat) := none
  deriving DecidableEq, Repr
/-- Sundial's state beside its registers (R27-R42). -/
structure Sundial where
  tb : Tbl TBase := []
  pairs : List Pair := []
  firstPair : Option Nat := none
  pairTick : Nat := 0
  pairDue : Bool := false
  convLogged : List (Nat × Nat × Nat) := []
  lc : Tbl LClock := []
  deriving DecidableEq, Repr
/-- A log record (Table 18.3). `ctx` is 0xFFFF where no context is concerned. -/
structure LogRec where
  time : Nat
  code : Nat
  page : Nat
  inst : Nat
  ctx : Nat
  data : List Byte
  deriving DecidableEq, Repr
/-- Gazebo's state beside its registers: the SMBus unread bits (R367), the record drops since the last gap record and
the time of the last dropped one (R442), the records of the current tick in ring order (R441), the records that wait
for LPDDR to be served or for a level 4 to complete (R392, R448; `heldTrc` those of the trace ring), the WO data of GZB_LOG_PUT, the per-source trace
counts and the time of the last change of k (R444), and per class of the VLAN path the sequence number, the records
waiting and since when (R445, R446); `almSent` holds per alarm source its COUNT and the time at its last packet, and `raised` the tick of its last raise with the number
of its raises in that tick (R440). -/
structure Gazebo where
  unread : Tbl Bool := []
  dropped : Nat := 0
  lastDrop : Nat := 0
  tickOf : Nat := 0
  tickRecs : List LogRec := []
  held : List LogRec := []
  heldTrc : List (List Byte) := []
  put0 : Nat := 0
  put1 : Nat := 0
  trcCnt : Tbl Nat := []
  kAt : Nat := 0
  seqA : Nat := 0
  seqL : Nat := 0
  seqT : Nat := 0
  logQ : List (List Byte) := []
  logQAt : Nat := 0
  trcQ : List (List Byte) := []
  trcQAt : Nat := 0
  almSent : Tbl (Nat × Nat) := []
  raised : Tbl (Nat × Nat) := []
  deriving DecidableEq, Repr
/-- An access that waits for LPDDR to be served (R392): a write, under a context's generation or none; a read by the host, a core or a Spout
port (address and bytes of each run); a post, whose record lies there. -/
inductive LpWait
  | put (own : Option (Nat × Nat)) (a : Nat) (bs : List Byte)
  | host (a n : Nat)
  | core (c a n : Nat)
  | spout (runs : List (Nat × Nat))
  | post (i slot : Nat)
  deriving DecidableEq, Repr
/-- A fill command as its GO took it (R404): context with its generation, first burst and number of bursts, pattern, completion wicket.
[log entry 291 DEDUCED] -/
structure FillCmd where
  ctx : Nat := 0
  gen : Nat := 0
  base : Nat := 0
  len : Nat := 0
  pat : Nat := 0
  wkt : Option Nat := none
  deriving DecidableEq, Repr
/-- The Arcade's and the power control's state beside their registers: whether DENSITY has been written and what waits for LPDDR to be served (R392); T_I polled, the
last slot's start and the tick of the last poll (R396); the bursts of 64 B that await write-back (R395); whether a head is below
CRIT (R402); the fill commands taken, by channel (R404); the tick of the last temperature
reading, the time since which the package power has been above P_EMERG, the droop detector, and when the three conditions of
R410 cleared; the tick at which the throttle in force began and the CLK_TIME ticks that earlier ones lasted; the staging SRAM, by the
LPDDR address whose copy a byte is (staging windows never overlap), the bursts of it that were poisoned when copied, and per enabled window the base and size it was
enabled with, in 64 KiB (R16, R403). -/
structure Arcade where
  dens : Bool := false
  waits : List LpWait := []
  stg : Tbl Byte := []
  stgPoison : Tbl Bool := []
  stgAt : Tbl (Nat × Nat) := []
  hotPolled : Bool := false
  pollAt : Nat := 0
  lastSlot : Nat := 0
  writeBack : Tbl Bool := []
  crit : Bool := false
  fills : Tbl FillCmd := []
  tempAt : Nat := 0
  powerHighAt : Option Nat := none
  droop : Bool := false
  clearAt : Option Nat := none
  thrAt : Option Nat := none
  thrTicks : Nat := 0
  deriving DecidableEq, Repr
/-- What a DMA channel sampled in STARTING (R354), the descriptor in progress as its 64 bytes
and its result, and TAIL as the link was lost (R359). -/
structure DmaChan where
  rloc : Nat := 0
  rsize : Nat := 0
  weight : Nat := 0
  ctx : Nat := 0
  ring : Nat := 0
  wlo : Nat := 0
  whi : Nat := 0
  cgen : Nat := 0
  cur : Option (List Byte) := none
  result : Nat := 0
  lostTail : Option Nat := none
  deriving DecidableEq, Repr
/-- A Spout port beside its registers: its prefetched bytes, each with whether its burst was poisoned, and the doorbells waiting
(R335, R362, R363). -/
structure SpoutPort where
  prefetch : List (Byte × Bool) := []
  bells : List Nat := []
  deriving DecidableEq, Repr
/-- The endpoint beside its registers: link up, endpoint released (R370), PERST_N low (R369), enabled VFs, the words of the MSI-X tables
(key 4096 * function + 4 * vector + word, function 0 for PF0 and 1 + v for VF v) and the pending bits (R364). -/
structure Endpoint where
  up : Bool := false
  released : Bool := false
  perst : Bool := true
  vfOn : Tbl Bool := []
  msix : Tbl Nat := []
  pba : Tbl Bool := []
  ch : Tbl DmaChan := []
  spt : Tbl SpoutPort := []
  deriving DecidableEq, Repr
/-- The tray controller's side (R366-R368): the source named by ALARM_SEL and the open-drain outputs driven low, the
heartbeat of the Lodge, the ADDR_SEL straps. -/
structure Tray where
  almSel : Nat := 0
  faultLow : Bool := false
  pwrReqLow : Bool := false
  heartbeat : Nat := 0
  addrSel : Nat := 0
  deriving DecidableEq, Repr
/-- An open LOOP of a program (R137): the word after the LOOP, the word of its ENDLOOP, its COUNT and its index. -/
structure LoopFrame where
  start : Nat
  endPc : Nat
  count : Nat
  idx : Nat
  outer : Bool
  deriving DecidableEq, Repr
/-- What a front end waits for: nothing; a wicket (WWAIT with the fc at which its timeout expires); a barrier; a line
position or base value (AT: KIND, IDX and the two target words); a fence; the outermost ENDLOOP; the answer to a wait on
a wicket of another chip. -/
inductive Wait
  | none
  | wwait (w n : Nat) (deadline : Option Nat)
  | remote (proxy n : Nat) (deadline : Option Nat)
  | barrier (w k : Nat) (group : Bool)
  | at (kind idx f l p : Nat)
  | fence (bel : Bool)
  | drain
  deriving DecidableEq, Repr
/-- Where a command is in its life (R89-R92). -/
inductive CmdPhase | dispatched | fired | finished
  deriving DecidableEq, Repr
/-- The scale header of a half or slot (R118): code, zero point, extents D0 to D3, rank, block axis (4 for the flattened
index), BEXP_MAX or TOPX, S2 table address plus 1 (0 for none). [log entry 261 DESIGN CHOICE] -/
structure Hdr where
  code : Nat
  zp : Int
  rank : Nat
  dims : List Nat
  axis : Nat
  bmax : Int
  s2tab : Nat
  deriving DecidableEq, Repr
/-- What a finished command will publish at its commit: bytes by device address (banks, segments and LPDDR records),
the scale headers by bank index, and the counts for PAV_ARITH_CNT and PAV_ARITH_LOSS (A96SAT, MISS, NONFIN, WLOSS,
ALOSS, OUT_SAT). [log entry 124 DEDUCED] -/
structure CmdResult where
  writes : List (Nat × List Byte) := []
  hdrs : List (Nat × Hdr) := []
  stats : List Nat := []
  deriving DecidableEq, Repr
/-- A command (R89): the word at which its instruction stands, its words, the step it belongs to, its phase, the fc at
which it fired and before which it does not commit, the generation tags it sampled at fire (bank or segment index, tag)
with the context generation, its results, whether it waits for an answer from another chip, its place in dispatch order;
the channel slots it reads and consumes (channel key, slot), the channel slot it writes (key, slot, first bank index,
banks), the PAIR half it writes (descriptor slot, half), the segments that turn EMPTY or FULL at its commit, and the
indices of the open loops, innermost first (R174, R206), the fc of dispatch, the armed DIGEST it serves (TD, TID: R141), the
thresholds of R78 as sampled at issue, and the fc in which its pavilion stalled it (R249). -/
structure Cmd where
  pc : Nat
  words : List Nat
  step : Nat
  phase : CmdPhase := .dispatched
  firedAt : Nat := 0
  due : Nat := 0
  tags : List (Nat × Nat) := []
  cgen : Nat := 0
  res : CmdResult := {}
  remote : Bool := false
  seq : Nat := 0
  ins : List (Nat × Nat) := []
  outc : Option (Nat × Nat × Nat × Nat) := none
  outp : Option (Nat × Nat) := none
  segIn : List Nat := []
  segOut : List Nat := []
  idx : List Nat := []
  atFc : Nat := 0
  dig : Option (Nat × Nat) := none
  thr : Nat × Nat := (0, 0)
  stall : Nat := 0
  deriving DecidableEq, Repr
/-- A signal of a WSIG that takes effect once every command dispatched before it (below `seq`) has committed (R98):
wicket, amount, the word at which the WSIG stands. -/
structure Sig where
  w : Nat
  n : Nat
  seq : Nat
  pc : Nat
  deriving DecidableEq, Repr
/-- The deadline span of a conductor (R44, R105): line clock, due position F:L:P, S and W in fc, the wicket of
LATE_WARN, the fc of issue, whether LATE_WARN and DUE_MISS have been raised, the band a posting span posts. -/
structure Span where
  lc : Nat
  f : Nat
  l : Nat
  p : Nat
  stat : Nat
  wcet : Nat
  warn : Option Nat
  issued : Nat
  done : Nat
  warned : Bool
  missed : Bool
  band : Option (Nat × Nat) := none
  deriving DecidableEq, Repr
/-- A program: a stage program or a conductor (R85-R105). `running` is false before its load and after its plot stops
it; `halted` after HALT or past its last word; `mask` its bank mask; `loops` innermost first, the outermost loop indexed
by `step`; `qpc`, `qstep` its committed queue pointer (R104); `tds`, `sds`, `kds` its descriptor slots as words, with the
word at which the descriptor stands last; `active` the active half of each private pair, by its banks, and `pairAt` the fc + 1 of
the last commit to it (R116); `arms` the armed DIGESTs (TT, TD,
TID); `skipTo` the outermost LOOP to which a resume goes after the descriptor section (R260); `belPend` its Belvedere
requests not yet complete; `halos` the HALO requests not yet acknowledged (chip, plot, channel, step). -/
structure Prog where
  running : Bool := false
  halted : Bool := false
  code : List Nat := []
  mask : Nat := 0
  pc : Nat := 0
  loops : List LoopFrame := []
  outerDone : Bool := false
  step : Nat := 0
  qpc : Nat := 0
  qstep : Nat := 0
  timeout : Bool := false
  wait : Wait := .none
  cmds : List Cmd := []
  tds : Tbl (List Nat) := []
  sds : Tbl (List Nat) := []
  kds : Tbl (List Nat) := []
  active : Tbl Nat := []
  pairAt : Tbl Nat := []
  arms : List (Nat × Nat × Nat) := []
  span : Option Span := none
  warns : Nat := 0
  misses : Nat := 0
  tokWait : Nat := 0
  credWait : Nat := 0
  descDone : Bool := false
  lastWait : Option (Nat × Nat) := none
  seqNext : Nat := 0
  sigs : List Sig := []
  skipTo : Option Nat := none
  belPend : Nat := 0
  halos : List (Nat × Nat × Nat × Nat) := []
  stalls : Nat := 0
  waitAt : Nat := 0
  deriving DecidableEq, Repr
/-- What follows a pause of a plot's running slot: a selection; its unbinding; the plot's stop; its re-image; a
membership change; the suspension for sparing (R332); the suspension of a suspect replay (R326). -/
inductive AfterPause | select | unbind | stop | reimage | member | spare | rewind
  deriving DecidableEq, Repr
/-- What the controller of a plot is doing with its running slot (R273-R279): nothing; loading `slot`; pausing since a
pre-emption request whose grace ends at a tick, with what follows the pause; waiting for a tag fence before a
switch-in. -/
inductive PlotAct
  | idle
  | load (slot : Nat)
  | pause (deadline : Nat) (next : AfterPause)
  | fenceWait (slot : Nat)
  deriving DecidableEq, Repr
/-- A plot controller beside its registers (R80-R109, R258-R282): `want` is what a pre-emption asked for during a switch-in and
follows it; `boundAt` the tick of its last frame boundary with a change of membership held; `rtHeld` that an RT slot was bound while the
line clock was OFF and no frame has started since (R83); `held` lists the contexts that have left it, with the tick at which each did
(R325). -/
structure Plot where
  act : PlotAct := .idle
  want : Option AfterPause := none
  img : Nat := 0
  stages : Nat := 0
  icrc : Nat := 0
  nmark : Bool := false
  onAt : Nat := 0
  quantumAt : Nat := 0
  periodAt : Nat := 0
  chargedAt : Nat := 0
  island : Bool := false
  memberHeld : Bool := false
  boundAt : Nat := 0
  memberDue : Bool := false
  periodDue : Bool := false
  reimgDue : Bool := false
  suspended : Bool := false
  advances : List Nat := []
  lateLog : Nat := 0
  lcWasOff : Bool := false
  rtHeld : Bool := false
  belOpen : Nat := 0
  beats : Nat := 0
  stallAt : Nat := 0
  chanOk : Bool := false
  lastDrain : Nat := 0
  held : List (Nat × Nat) := []
  deriving DecidableEq, Repr
/-- A slot of a plot beside its registers (R272-R278): the fields sampled at the bind, its virtual time, its completed
iterations in the period, whether its next switch-in resumes and whether it re-images; the word of a bind whose check waits for LPDDR
(R278, R392). -/
structure Slot where
  ctx : Nat := 0
  rt : Bool := false
  weight : Nat := 1
  rtsteps : Nat := 1
  v : Nat := 0
  quota : Nat := 0
  resume : Bool := false
  reimage : Bool := false
  unbindAfter : Bool := false
  first : Bool := true
  island : Bool := false
  waits : Option Nat := none
  deriving DecidableEq, Repr
/-- A channel of a plot (R94, R95, R469): its write pointer, its readers' read pointers and, per slot, which readers
have consumed the token and the fc at which token and credit landed. -/
structure Chan where
  wptr : Nat := 0
  rptr : Tbl Nat := []
  consumed : Tbl (List Nat) := []
  tokAt : Tbl Nat := []
  credAt : Tbl Nat := []
  steps : Tbl Nat := []
  deriving DecidableEq, Repr
/-- A token or credit on its way to a slot's banks (R95): channel key, slot, the bank index of the slot's first bank,
how many banks, their tag at the commit, and the fc at which it lands. -/
structure Flight where
  chan : Nat
  slot : Nat
  bank : Nat
  n : Nat
  tag : Nat
  due : Nat
  deriving DecidableEq, Repr
/-- The charge of a fired command to the bucket of its pavilion (R249): its program, its number there and the fc at which it fired, its
weight in 1/16 units, and the body fc it has still to run. -/
structure Draw where
  prog : Nat
  seq : Nat
  fired : Nat
  weight : Nat
  left : Nat
  deriving DecidableEq, Repr
/-- A wicket beside its PTR_WKT entry (R97-R100): COUNT, generation tag, and in barrier mode the fixed k, the
participants that have arrived, the k of those beyond the k-th, who belong to the next release, whether the release is under way, and
remote waits pending. -/
structure Wicket where
  count : Nat := 0
  gen : Nat := 0
  k : Nat := 0
  arrived : List Nat := []
  nextK : Nat := 0
  group : Bool := false
  released : Bool := false
  rwait : Option (Nat × Nat × Nat) := none
  deriving DecidableEq, Repr
/-- A context beside its registers (R268-R284): the step of its teardown (0 none, 2 draining, 6 fencing), the tick at
which step 2 ended, whether DRAIN_TIMEOUT has been raised, and the fc + 1 of a TEAR, whose code a fault of that fc replaces (R283). -/
structure Ctx where
  tearStep : Nat := 0
  drainAt : Nat := 0
  timedOut : Bool := false
  tearFc : Nat := 0
  deriving DecidableEq, Repr
/-- A lane of a batch group: SID, class, first granule, granules, step joined, NEW, and the fc + 1 in which its LEAVE was written, 0 for
none. -/
structure Lane where
  sid : Nat
  cls : Nat
  first : Nat
  size : Nat
  since : Nat
  fresh : Bool
  leaveAt : Nat
  deriving DecidableEq, Repr
/-- A queued join: SID, priority, class, how many boundaries have deferred it, the fc in which it was written. -/
structure Join where
  sid : Nat
  prio : Nat
  cls : Nat
  deferred : Nat
  wrote : Nat
  deriving DecidableEq, Repr
/-- A batch group beside its registers (R286-R290): the settings sampled at STARTING, its lanes, its queue, and the lane maps written
that await their acknowledgement, each as the wicket and the context of its signal, oldest first. -/
structure Batch where
  plot : Nat := 0
  nlanes : Nat := 0
  owner : Nat := 0
  poolBase : Nat := 0
  pool : Nat := 0
  map : Nat := 0
  rsp : Nat := 0
  rspSize : Nat := 0
  mapWkt : Nat := 0
  lanes : Tbl (Option Lane) := []
  queue : List Join := []
  maps : List (Nat × Nat) := []
  deriving DecidableEq, Repr
/-- The fabric beside its registers: plots, slots (key 16 * plot + slot), programs (key 256 * plot + stage, stage 255
the conductor), effective membership (logical pavilion to plot + 1), channels (key 256 * plot + CHID), the control state
of banks (key 24 * physical pavilion + bank) and of frame-store segments (key 100000 + segment): FULL, tag, written
mark, scale header; which free value the banks hold that line buffers were carved from (R148); the two images of each physical
pavilion's window register (R145: 15 × 15 taps of 32 channels, the codes of input elements, none where no element stands); flights;
wickets; contexts; batch groups; the activity buckets of logical pavilions with the fc up to which each is settled and the commands
that draw on it (R249); the tick at which a logical pavilion last left a plot (R82). -/
structure Parterre where
  plot : Tbl Plot := []
  slot : Tbl Slot := []
  prog : Tbl Prog := []
  member : Tbl Nat := []
  chan : Tbl Chan := []
  full : Tbl Bool := []
  tag : Tbl Nat := []
  mark : Tbl Bool := []
  hdr : Tbl (Option Hdr) := []
  lbuf : Tbl (Option Nat) := []
  win : Tbl (List (Option Nat) × List (Option Nat)) := []
  tokens : List Flight := []
  credits : List Flight := []
  wkt : Tbl Wicket := []
  ctx : Tbl Ctx := []
  bat : Tbl Batch := []
  bucket : Tbl Nat := []
  bucketAt : Tbl Nat := []
  budget : Tbl (Nat × Nat) := []
  stalls : Tbl Nat := []
  draws : Tbl (List Draw) := []
  leftAt : Tbl Nat := []
  deriving DecidableEq, Repr
/-- An image as a request sampled it at fire (R173, R178): the four words of its descriptor, its index, its device
address (KIND 1 and 2), and its pavilion, for KIND 3. -/
structure BelImg where
  idx : Nat := 0
  w0 : Nat := 0
  w1 : Nat := 0
  w2 : Nat := 0
  w3 : Nat := 0
  addr : Nat := 0
  pav : Nat := 0
  deriving DecidableEq, Repr
/-- A Belvedere request (R128, R129, R173-R179): engine, operation (0 flow, 1 disparity, 2 warp, 3 pyramid, 4 resize),
images, parameter set (and texture threshold), the issuing program, plot, context with its generation, plot generation,
step, indices of its open loops, innermost first, WDONE, first row and rows written, the tags of its output segments and
banks, and from its start those of its inputs (R20, R22); for a pacer's request its stream, frame and band. -/
structure BelReq where
  eng : Nat
  op : Nat
  a : BelImg
  b : BelImg
  o : BelImg
  pset : Nat
  vth : Nat
  prog : Nat
  plot : Nat
  ctx : Nat
  cgen : Nat
  gen : Nat
  step : Nat
  idx : List Nat
  wdone : Nat
  row0 : Nat
  rows : Nat
  tags : List (Nat × Nat)
  inTags : List (Nat × Nat) := []
  pacer : Option (Nat × Nat × Nat)
  deriving DecidableEq, Repr
/-- A fired request that its engine has not accepted yet: the sequence number of its command and the fc at which it is
accepted (R129). -/
structure BelWait where
  seq : Nat
  due : Nat
  req : BelReq
  deriving DecidableEq, Repr
/-- An engine (R176-R180): its queue, the request in progress with the fc at which it completes and its start. -/
structure BelEng where
  queue : List BelReq := []
  cur : Option BelReq := none
  due : Nat := 0
  began : Nat := 0
  deriving DecidableEq, Repr
/-- A write held until the reservation of a segment ends (R176): address, bytes, and the generation tags that the stores it
reaches had when it came (R20). -/
structure HeldWrite where
  addr : Nat
  bytes : List Byte
  tags : List (Nat × Nat)
  deriving DecidableEq, Repr
/-- Belvedere beside its registers: requests on their way, engines, the engine + 1 that has reserved a segment or bank
(by its control key), inputs whose EMPTY waits for another reader, writes held until a reservation ends; per SLOT descriptor the plot + 1
whose channel its RPTR stands in (R178). -/
structure Belvedere where
  wait : List BelWait := []
  eng : Tbl BelEng := []
  rsv : Tbl Nat := []
  deferred : List Nat := []
  held : List HeldWrite := []
  stepped : Tbl Nat := []
  deriving DecidableEq, Repr
/-- An accepted input of a stream (R200-R202): slot, SEQ, stamp in the base of LC in 1/16 ns, acceptance tick, whether it
has been the band-0 selection of a frame, whether any band has selected it as SLOT0, whether it still holds its slot. -/
structure Input where
  slot : Nat
  seq : Nat
  stamp : Int
  accepted : Nat
  used0 : Bool
  usedAny : Bool
  held : Bool
  deriving DecidableEq, Repr
/-- A selection (R204, R205, Table 8.5), with the plot that serves its frame, whether it has retired (R202) and the stamp of SLOT0's
input. A slot of 0xFFFF is none. -/
structure Sel where
  frame : Nat
  band : Nat
  flags : Nat
  slot0 : Nat
  slot1 : Nat
  seq0 : Nat
  phase : Int
  span : Int
  hold : Nat
  holdLen : Nat
  tau : Int
  step : Nat
  plot : Nat
  retired : Bool
  stamp : Int
  deriving DecidableEq, Repr
/-- A recorded post (R207-R209): layer (0 generated, 1 overlay, 2 and up the fallback of a head), frame, band, buffer address, tick, the
bytes of the buffer, and the plot that posted it (32 for the pacer). -/
structure Post where
  layer : Nat
  frame : Nat
  band : Nat
  buf : Nat
  tick : Nat
  size : Nat
  plot : Nat
  deriving DecidableEq, Repr
/-- What the posts of a stream change in its ring of slots (R201): busy slots, claims, inputs, the last accepted stamp and SEQ. -/
structure Ring where
  busy : Tbl Bool := []
  claim : Tbl Nat := []
  inputs : List Input := []
  lastStamp : Option Int := none
  lastSeq : Option Nat := none
  deriving DecidableEq, Repr
/-- The posts of one tick (R201): the tick, the ring and the registers PLT_STRM_CNT, CNT2 and STAT before them, the ring after them, and
the posts handled, by rising slot: each a slot with the receiver that claimed it. -/
structure PostTick where
  tick : Nat
  was : Ring
  now : Ring
  cnt : Nat
  cnt2 : Nat
  stat : Nat
  posts : List (Nat × Option Nat)
  deriving DecidableEq, Repr
/-- A stream pacer (R198-R214): the fields sampled at STARTING, the shadowed settings in force, busy slots with the
receiver + 1 that claimed one (0 for none), accepted inputs newest first, the last accepted stamp and SEQ, selections
newest first, the next band to latch (frame, band), whether a first band has been latched, the current frame's kind and
plot (true for plot A), the frames sent to plots A and B and their PLT_STEP at ON, the posts taken, whether the newest band was OVERLIMIT, the
hold buffer (address, bytes, τ of its frame's band 0), selections logged, the last frame whose promotion has been judged,
the bands signalled to each plot and not yet waited for, and those its conductor's last wait consumed, the frame whose later bands are not
signalled (R261), the posts of the newest tick that had any, and the reads of its window that wait for a band: who, offset, bytes (R206). -/
structure Strm where
  owner : Nat := 0
  plotA : Nat := 0
  plotB : Nat := 0
  bv : Bool := false
  ibase : Nat := 0
  nslots : Nat := 0
  istride : Nat := 0
  heads : Nat := 0
  lc : Nat := 0
  alvl : Nat := 0
  bh : Nat := 64
  fb : Bool := false
  latch : Nat := 0
  fbimg : Nat := 0
  fbpset : Nat := 0
  mode : Nat := 0
  factor : Nat := 0
  fbneg : Bool := false
  fblag : Nat := 0
  xlimit : Nat := 0
  idelay : Nat := 0
  busy : Tbl Bool := []
  claim : Tbl Nat := []
  inputs : List Input := []
  lastStamp : Option Int := none
  lastSeq : Option Nat := none
  sels : List Sel := []
  nextF : Nat := 0
  nextB : Nat := 0
  live : Bool := false
  fresh : Bool := false
  onA : Bool := true
  sentA : Nat := 0
  sentB : Nat := 0
  baseA : Nat := 0
  baseB : Nat := 0
  posts : List Post := []
  ovr : Bool := false
  hold : Option (Nat × Nat × Int) := none
  logIdx : Nat := 0
  stopFrame : Option Nat := none
  promF : Option Nat := none
  sigsA : List (Nat × Nat) := []
  sigsB : List (Nat × Nat) := []
  gotA : Option (Nat × Nat) := none
  gotB : Option (Nat × Nat) := none
  mute : Option Nat := none
  posted : Option PostTick := none
  reads : List (Reader × Nat × Nat) := []
  deriving DecidableEq, Repr
/-- A layer's settings (R227, R229). -/
structure LayerSet where
  en : Bool := false
  stat : Bool := false
  offset : Nat := 0
  pitch : Nat := 0
  addr : Nat := 0
  deriving DecidableEq, Repr
/-- A head's shadowed settings as one set (R220): the active side of BST_HCTRL, the timing registers, BST_LINK, BST_FMT,
BST_BG, the push registers, the layers and BST_LEAD. -/
structure HeadSet where
  output : Nat := 0
  vrr : Bool := false
  hactive : Nat := 3840
  htotal : Nat := 4000
  vactive : Nat := 2160
  vtotal : Nat := 2222
  hss : Nat := 3888
  hsw : Nat := 32
  hpol : Nat := 1
  vss : Nat := 2163
  vsw : Nat := 8
  vpol : Nat := 0
  vtmin : Nat := 2222
  vtmax : Nat := 4444
  rate : Nat := 2
  lanes : Nat := 2
  bpc10 : Bool := true
  color : Nat := 0
  basefmt : Nat := 3
  ovfmt : Nat := 2
  bg : Nat := 0
  port : Nat := 0
  pushfmt : Nat := 0
  pktrows : Nat := 2
  pbase : Nat := 1
  canvas : Nat := 0
  rxbase : Nat := 0
  rybase : Nat := 0
  dst : Nat := 0
  dport : Nat := 0xE5D0
  sport : Nat := 0xE5D0
  refresh : Nat := 0
  dscp : Nat := 0
  stage : Nat := 0
  layers : List LayerSet := [{}, {}, {}, {}]
  lead : Nat := 4
  fetch : Nat := 8
  deriving DecidableEq, Repr
/-- A line in a head's line buffer (R230): frame, layer, line, its format (Table 9.5), its bytes. -/
structure Fetched where
  frame : Nat
  layer : Nat
  line : Nat
  fmt : Nat
  bytes : List Byte
  deriving DecidableEq, Repr
/-- Where a layer went off in a frame (R208, R231): frame, layer, line, pixel, whether it went short. -/
structure LayerOff where
  frame : Nat
  layer : Nat
  line : Nat
  pix : Nat
  short : Bool
  deriving DecidableEq, Repr
/-- A region waiting for its port (R234): frame, region row and column, digest, number of its region row since ON; the settings it was
composed under, the start of its frame on the line clock's base, and its rows of pushed bytes as composed (R236, R239). -/
structure RegionQ where
  frame : Nat
  row : Nat
  col : Nat
  digest : Nat
  n : Nat
  set : HeadSet
  stamp : Nat
  base : Nat
  rows : List (List Byte)
  deriving DecidableEq, Repr
/-- A head beside its registers (R217-R240): active settings; the frame in whose vertical blanking an armed commit is taken;
HPD present, training in progress, the tick of the last failed attempt, whether the outage has raised DP_TRAIN_FAIL; a commit's relock or retraining not complete; whether
the next frame transmitted is a settle frame, whether the current one is, or is skipped; whether the raster runs and its
frame; where layers went off; posts taken (layer, frame, band, buffer); the next band due and the next line to fetch; the
lines fetched; the frame whose generated layer last took its band-0 post; whether the frame's DisplayPort pins have
been checked, and whether the link was down in it; Dusk's expected CRCs of the last frame, equal frames in a row, and an
event that ends Dusk; the region-push state: sent digests by region, the queue, region rows composed in the frame and since
ON, the row that is sent whole, the frame, regions, packets and CRC register of the packets sent, the frame and CRC that
await their pin check, packet count, TB0 at the last packet, frames since the last rolling row and the next such row; hold
mode: 0 none, 1 for the first frame, 2 that frame has begun, 3 until a stream of the head is ON, and the latched source;
STOPPING: the frame has completed, the idle period is over; the settings that the current frame is composed and sent with (R223), the
newest short frames (R225), settings and frame start of the packets being sent; head faults reported and not handled, resets after such faults
and the frame of the last. [log entry 146 DESIGN CHOICE] -/
structure Head where
  cfg : HeadSet := {}
  commitF : Nat := 0
  hpd : Bool := false
  training : Bool := false
  failAt : Option Nat := none
  outage : Bool := false
  relock : Bool := false
  settleDue : Bool := false
  settle : Bool := false
  skip : Bool := false
  running : Bool := false
  frame : Nat := 0
  off : List LayerOff := []
  taken : List (Nat × Nat × Nat × Nat) := []
  dueF : Nat := 0
  dueB : Nat := 0
  fetF : Nat := 0
  fetY : Nat := 0
  buf : List Fetched := []
  ready : Option Nat := none
  checked : Bool := false
  linkDrop : Bool := false
  prev : Option (Nat × Nat) := none
  same : Nat := 0
  wake : Bool := false
  sent : Tbl (Option Nat) := []
  queue : List RegionQ := []
  rowsDone : Nat := 0
  rowsAll : Nat := 0
  whole : Option Nat := none
  pushF : Nat := 0
  nReg : Nat := 0
  nPkt : Nat := 0
  pushCrc : Nat := 0xFFFFFFFF
  pushDone : Option (Nat × Nat) := none
  seq : Nat := 0
  lastPkt : Nat := 0
  refrN : Nat := 0
  refrRow : Nat := 0
  hold : Nat := 0
  holdSrc : Option Nat := none
  idle : Bool := false
  ovr : Bool := false
  faulted : Bool := false
  resets : Nat := 0
  resetF : Nat := 0
  scan : HeadSet := {}
  shorts : List Nat := []
  pushSet : HeadSet := {}
  pushStamp : Nat := 0
  pushBase : Nat := 0
  deriving DecidableEq, Repr
/-- A link beside its registers (R294-R298): next LSEQ to send and to receive, frames not acknowledged, NAKs of one frame in
a row with its LSEQ, the neighbour's reachability set, ticks of the last frame received and the last HELLO sent, whether
LINK_TRAIN_FAIL has been raised since training last succeeded, the tick of the last failed attempt, the lane being swapped, and the frames
that wait for room in the retry buffer, in the order in which they leave. -/
structure ZLink where
  lseq : Nat := 0
  rx : Nat := 0
  retry : List (Nat × ZFrame) := []
  nakRun : Nat := 0
  nakAt : Nat := 0
  reach : Nat := 0
  lastRx : Nat := 0
  helloAt : Nat := 0
  failed : Bool := false
  failAt : Option Nat := none
  swap : Option Nat := none
  wait : List ZFrame := []
  deriving DecidableEq, Repr
/-- A HALO request at its producer (R305): consumer chip, its program, step, plot, channel, first row, rows, and the tag of its first
destination bank. -/
structure ZHalo where
  chip : Nat
  prog : Nat
  step : Nat
  plot : Nat
  chid : Nat
  row0 : Nat
  rows : Nat
  tag : Nat
  deriving DecidableEq, Repr
/-- A fence (R309): origin, its number, the link it came by + 1 (0 for an own fence), links not yet answered; what it
confirms, each a context + 1, a plot + 1 and its generation; the tick of its start, and how many frames had gone by each link then
(R330). -/
structure ZFence where
  origin : Nat
  id : Nat
  up : Nat
  waiting : List Nat
  conf : List (Nat × Nat × Nat) := []
  began : Nat := 0
  sent : List Nat := []
  deriving DecidableEq, Repr
/-- Zhevlink beside its registers: whether the chip has been in GROUP since power-on or cold reset (R453); the group
configuration in effect, whether a written one waits for its frame start, and whether that frame start and one for a
formation have come (R300, R314); links; end-to-end numbers sent (32 × class + destination) and last delivered + 1 (by
source); frames without a route; the chips known to be in GROUP; per chip the tick + 1 since which it is unreachable; the
lost chips; since when a member in GROUP has been reachable over links that stayed up (R313); a rejoin request's tick, the
grants given (frame + 1), the chips that rejoin at ZHL_RJFRAME; group barriers at the anchor (arrived chips by wicket),
releases (T_rel, t_s) and the stamp of the last SYNC_IN edge (R262, R263); HALO requests, acknowledgements of steps not yet committed (channel key, step, reader), remote readers of channels (channel
key, chip), HALO retries (program key to tick + 1); the links by which an origin's traffic was forwarded (origin, link);
fences and the next fence's number; the last TSYNC and offsets in tolerance in a row (R308). [log entry 189 DEDUCED] -/
structure Zhevlink where
  reached : Bool := false
  gid : Nat := 0
  chip : Nat := 0
  anchor : Nat := 0
  aauto : Bool := true
  lc : Nat := 0
  autoRj : Bool := false
  members : Nat := 0
  cfgPending : Bool := false
  cfgDue : Bool := false
  formDue : Bool := false
  link : Tbl ZLink := []
  eseq : Tbl Nat := []
  seen : Tbl Nat := []
  held : List ZFrame := []
  group : Nat := 0
  unreachAt : Tbl Nat := []
  lost : Nat := 0
  stableAt : Option Nat := none
  rjAt : Option Nat := none
  grants : Tbl Nat := []
  rjMask : Nat := 0
  arrivals : Tbl (List Nat) := []
  rels : Tbl (Option (Nat × Nat)) := []
  syncAt : Option Nat := none
  halos : List ZHalo := []
  early : List (Nat × Nat × Nat) := []
  readers : List (Nat × Nat) := []
  haloRetry : Tbl Nat := []
  fwd : List (Nat × Nat) := []
  fences : List ZFence := []
  fenceId : Nat := 0
  tsAt : Nat := 0
  lockN : Nat := 0
  deriving DecidableEq, Repr
/-- A frame that a receiver is taking (R386): RTP timestamp, slot, bytes written, its stamp (seconds, NSS). -/
structure RxFrame where
  rts : Nat
  slot : Nat
  bytes : Nat
  sec : Nat
  nss : Nat
  claimAt : Nat
  wrote : List (Nat × List Byte × List Byte)
  deriving DecidableEq, Repr
/-- A receiver beside its registers: the frame in progress, the RTP timestamp whose frame is discarded, its frame count, the
newest RTP sequence numbers taken, its context's generation at STARTING. -/
structure RxChan where
  cur : Option RxFrame := none
  drop : Option Nat := none
  count : Nat := 0
  seen : List Nat := []
  cgen : Nat := 0
  deriving DecidableEq, Repr
/-- A sender beside its registers: the frame it last started, and its RTP sequence number and frame's buffer. -/
structure TxChan where
  frame : Option Nat := none
  seq : Nat := 0
  buf : Nat := 0
  deriving DecidableEq, Repr
/-- A port beside its registers: the tick since which its link has been up. -/
structure EthPort where
  upAt : Option Nat := none
  deriving DecidableEq, Repr
/-- A learned address (R376): VID, MAC address, switch port, tick of the last frame from it. -/
structure Learned where
  vid : Nat
  mac : Nat
  port : Nat
  at_ : Nat
  deriving DecidableEq, Repr
/-- A PTP instance beside its registers (R380-R384): the exchange in progress (Sync's sequenceId, T1 and T2 in ns, the
correction so far in 2^-16 ns, whether it is two-step and its Follow_Up has come, T3, T4 and the Delay_Resp's correction), a
STEPPED mark, the last completed set and the latched copy, the tick of the latch with the place of its answer among the outputs and the
answer's bytes, the grandmaster, the tick and interval of the last Announce, the
ticks of the last Sync and Delay_Req sent, the next sequenceId of Syncs and of delay requests, and the ticks in which T2 and T3 were
stamped. -/
structure PtpInst where
  seq : Nat := 0
  t1 : Option Nat := none
  t2 : Option Nat := none
  t3 : Option Nat := none
  t4 : Option Nat := none
  corr : Int := 0
  corrSm : Int := 0
  two : Bool := false
  stepped : Bool := false
  set : List Byte := []
  shown : List Byte := []
  latched : Option (Nat × Nat × Nat) := none
  gm : Option Nat := none
  annAt : Option Nat := none
  annLog : Int := 0
  syncAt : Nat := 0
  dreqAt : Nat := 0
  txSeq : Nat := 0
  dqSeq : Nat := 0
  t2At : Nat := 0
  t3At : Nat := 0
  deriving DecidableEq, Repr
/-- The Ethernet ring beside its registers. PVIDs, the CPU port's MAC address and multicast set (ETH_MCAST_CPU), and the eight
CPU rings (0 to 3 receive, 4 to 7 transmit: base, entries) of ETH_CPU_RING are named by R375, R377 and R389, which give them
no register layout. `guardAt` is the tick of the last guard frame sent, `backAt` of the last that returned, `runAt` since
when they return without a gap, `guardSeq` the next sequence number; `mld` the measured meanLinkDelay by switch port.
[log entry 230 DEDUCED] -/
structure Ethernet where
  port : Tbl EthPort := []
  rx : Tbl RxChan := []
  tx : Tbl TxChan := []
  ptp : Tbl PtpInst := []
  learned : List Learned := []
  pvid : Tbl Nat := []
  mac : Nat := 0
  mcast : List Nat := []
  cpuRing : Tbl (Nat × Nat) := []
  cpuIdx : Tbl Nat := []
  guardAt : Nat := 0
  guardSeq : Nat := 0
  backAt : Nat := 0
  runAt : Option Nat := none
  mld : Tbl Nat := []
  deriving DecidableEq, Repr
/-- A hang being handled (R326-R328): the engine, numbered as LDG_RESET.TARGET (1024 + p for the controller of plot p), its
plot (32 for none), the suspects still to replay, the one in replay and the programs that have passed a drain point, whether a
suspect has been found other than innocent. -/
structure Recov where
  engine : Nat
  plot : Nat
  suspects : List Nat
  cur : Option Nat
  passed : List Nat
  guilty : Bool
  deriving DecidableEq, Repr
/-- A dump in progress (R337-R340): trigger, hung engine, stamp at start, whether the Arcade is implicated, the reads that
timed out (unit, word), and the units it reads, in order. -/
structure Dump where
  trigger : Nat
  engine : Nat
  time : Nat
  arcBad : Bool
  voids : List (Nat × Nat)
  units : List Nat
  deriving DecidableEq, Repr
/-- The Lodge beside its registers (R317-R346): the fc of each engine's last beat; hangs being handled, and those that wait for a
keeper (R341); per pavilion the tick + 1 of its last hang with every suspect innocent (R331); resets asked for (level,
target) and in progress (level, target, tick); engines whose last self-test failed; the tick + 1 of the last level 3 reset
by plot, and of the last level 4; the ticks of the keepers' last heartbeats, none for a keeper in reset, whether each has beaten
in this frame, the ticks of the scheduler's last and of the last restart of both keepers; whether a hand-over's frame start
has come, how many have been taken, and where the verified image stands; the dump and the Lodge's dump buffer; bad rows of banks and segments by their control key,
and rows repaired (R334); the pavilions being retired and the plots suspended for it (R332). -/
structure Lodge where
  beat : Tbl Nat := []
  recs : List Recov := []
  waiting : List Nat := []
  innocent : Tbl Nat := []
  want : List (Nat × Nat) := []
  lvl : List (Nat × Nat × Nat) := []
  fails : List Nat := []
  l3At : Tbl Nat := []
  l4At : Nat := 0
  k0At : Option Nat := none
  k1At : Option Nat := none
  k0Beat : Bool := false
  k1Beat : Bool := false
  schedAt : Nat := 0
  silentAt : Option Nat := none
  fwDue : Bool := false
  fwStep : Nat := 0
  fwAddr : Nat := 0
  dump : Option Dump := none
  buf : List Byte := []
  bad : Tbl Nat := []
  repaired : Tbl Nat := []
  retiring : List Nat := []
  affected : List Nat := []
  deriving DecidableEq, Repr
/-- A sealed range (R431): base, bytes, context and key slot, whether its tag has been checked. -/
structure Sealed where
  base : Nat
  len : Nat
  ctx : Nat
  slot : Nat
  opened : Bool
  deriving DecidableEq, Repr
/-- What the Gatehouse keeps of a checked image (Table 17.3). -/
structure Img where
  len : Nat
  rollback : Nat
  initOff : Nat
  initLen : Nat
  initEntry : Nat
  base : Nat
  mainEntry : Nat
  digest : List Byte
  deriving DecidableEq, Repr
/-- A model-key slot (R430): its context and its key. -/
structure KeySlot where
  ctx : Nat
  key : List Byte
  deriving DecidableEq, Repr
/-- A mailbox command with its arguments (Table 17.7). -/
inductive MCmd
  | quote (nonce : List Byte) (mask : Nat)
  | identity
  | extend (i : Nat) (d : List Byte)
  | modelKey (ctx : Nat) (blob : List Byte)
  | decrypt (slot src dst len : Nat) (iv aad tag : List Byte)
  | unseal (ctx : Nat)
  | lcAdvance (target : Nat) (token : List Byte)
  | challenge
  | unlock (scope : Nat) (sig : List Byte)
  | rollback (level : Nat)
  | verify
  | copy (flash : List Byte)
  | bad (code : Nat)
  deriving DecidableEq, Repr
/-- A decryption in progress (R431): its mailbox, the index of its sealed range, and the plaintext where the tag matched. -/
structure Decr where
  mbox : Nat
  range : Nat
  base : Nat
  plain : Option (List Byte)
  len : Nat
  deriving DecidableEq, Repr
/-- The Gatehouse beside its registers (R414-R436). Reset: whether the device is held in reset, the level of PORST_N, and
whether a rail is below its threshold (R461). Boot: `phase` 0 not begun, 1 pass 1, 2 keepers in INIT, 3 pass 2, 4 running, 5 none
runs; the source by its straps, the source that owns a recovery + 1; the bytes of the pass so far, from flash or PCIe and over SMBus; the image checked, the
staged one, and the one kept for a roll-back; whether this boot was a recovery. OTP: root key hash, and the secret identity and agreement
keys, 0 for none. The debug challenge, the scope opened; model-key slots and sealed ranges; the decryption in progress, an
unlock that waits for its teardowns (mailbox, scope), and the commands that wait for the Gatehouse (mailbox, core). -/
structure Gatehouse where
  held : Bool := false
  porst : Bool := true
  lowRail : Bool := false
  phase : Nat := 0
  src : Nat := 0
  owner : Nat := 0
  buf : List Byte := []
  bufS : List Byte := []
  img : Option Img := none
  staged : Option Img := none
  old : Option Img := none
  recov : Bool := false
  rootKey : List Byte := []
  identKey : Nat := 0
  agreeKey : Nat := 0
  challenge : Option (List Byte) := none
  scope : Nat := 0
  slots : Tbl (Option KeySlot) := []
  sealed : Tbl (Option Sealed) := []
  decr : Option Decr := none
  unlock : Option (Nat × Nat) := none
  waiting : List (Nat × Nat × MCmd) := []
  deriving DecidableEq, Repr
/-- A store of a core that the Arcade has not acknowledged (R416): core, LPDDR address, bytes. -/
structure CoreStore where
  core : Nat
  addr : Nat
  bytes : List Byte
  deriving DecidableEq, Repr
/-- The Orangery beside its registers (R414-R418): the cores' stores on their way to the Arcade, oldest first; the 64-byte lines that
the L2 of each core (key core * 2 ^ 40 + line) and the L3 (key line) hold; per running core the address in M-mode at which it started,
plus 1 (R418), 0 for a core in reset. -/
structure Orangery where
  stores : List CoreStore := []
  l2 : Tbl (List Byte) := []
  l3 : Tbl (List Byte) := []
  pc : Tbl Nat := []
  deriving DecidableEq, Repr
/-- The machine. Memory is keyed by device address (R14, R169, R393, R436); an unlisted byte reads 0, as the wipe of
power-on and cold reset leaves it (R319, Table 1.4). `poison` lists 64-byte bursts of LPDDR by address / 64 (R335);
`regs` is keyed by register-space
offset. -/
structure State where
  /-- MODEL: the commands waiting, first in, first out. -/
  pending : List Instr := []
  /-- MODEL: outputs not otherwise held: read data, messages, frames, pin pulses, newest last. -/
  out : List Out := []
  /-- CLK_TIME ticks since reset release (R28). -/
  tick : Nat := 0
  /-- MODEL: how many free values have been used. -/
  freeN : Nat := 0
  /-- Registers; an unlisted one holds its reset value. -/
  regs : Tbl (BitVec 64) := []
  /-- R9: per requester path and register, the latched high half of a 64-bit register. -/
  latch : Tbl (Option Nat) := []
  /-- R9: per requester path and register, the held low word of a write. -/
  heldLow : Tbl (Option Nat) := []
  /-- Table 0.3: what hardware did in this tick to the W1C and RC fields, by field place: the value before, and what stands after a
  clear. -/
  hw : Tbl (Option (Nat × Nat)) := []
  /-- Table 0.3: the RW fields that software wrote in this tick, by register offset, as bits. -/
  sw : Tbl Nat := []
  mem : Tbl Byte := []
  poison : Tbl Bool := []
  /-- Counts and status codes that no register shows, by code * 65536 + instance. -/
  cnt : Tbl Nat := []

  /-- R266: the functions that hold ON for one cycle before the stop latched in STARTING. -/
  brief : List FnId := []
  /-- R266: the functions in OFF that PENDING_ON starts again, with the tick at which each entered OFF. -/
  restart : List (FnId × Nat) := []
  /-- Sundial: time bases, pairs, line clocks. -/
  sdl : Sundial := {}
  /-- Gazebo: unread bits, log and trace bookkeeping, VLAN egress. -/
  gzb : Gazebo := {}
  /-- Arcade and power control. -/
  arc : Arcade := {}
  /-- The PCIe endpoint, its DMA channels and Spout ports. -/
  pci : Endpoint := {}
  /-- The SMBus interface and the tray lines. -/
  tray : Tray := {}
  /-- The Parterre: plots, programs, channels, banks, wickets, contexts, batch groups. -/
  par : Parterre := {}
  /-- Belvedere: requests, engines, reservations. -/
  bel : Belvedere := {}
  /-- Stream pacers (R198-R214). -/
  str : Tbl Strm := []
  /-- The Bandstand's heads (R217-R240). -/
  bst : Tbl Head := []
  /-- Zhevlink and the group. -/
  zhl : Zhevlink := {}
  /-- The Ethernet ports, switch, PTP and media endpoints. -/
  eth : Ethernet := {}
  /-- The Lodge: hangs, reset levels, keepers, dumps, sparing. -/
  ldg : Lodge := {}
  /-- The Gatehouse: boot, keys, sealed ranges. -/
  gth : Gatehouse := {}
  /-- The Orangery: stores on their way, caches, running cores. -/
  org : Orangery := {}
  deriving DecidableEq, Repr
/-- The machine right after reset release at power-on: every register at its reset value, memory wiped, nothing
pending (R28, R319). [log entries 6 DESIGN CHOICE, 7 DESIGN CHOICE, 9 DESIGN CHOICE] -/
def State.reset : State := {}
end Sys2Proof.Machine
end

