-- ==== Sys2Proof/Machine/Ops.lean ====
section
/-! DEFINITION. The named operations every meaning is built from: registers and their fields (R7-R9), counts, outputs,
free values, bytes of memory, time, and the regions of the device address space. -/
namespace Sys2Proof.Machine
open Sys2Proof
/-- A bit field of a number: `w` bits from bit `lo`. -/
def bits (v lo w : Nat) : Nat := (v >>> lo) % 2 ^ w
/-- One bit of a number. -/
def bit (v i : Nat) : Bool := bits v i 1 == 1
/-- A number with `w` bits from bit `lo` replaced by `x`. -/
def setBits (v lo w x : Nat) : Nat := v - (bits v lo w) <<< lo + (x % 2 ^ w) <<< lo
/-- Two's-complement reading of a `w`-bit number. -/
def toSigned (w v : Nat) : Int := if v % 2 ^ w < 2 ^ (w - 1) then (v % 2 ^ w : Nat) else ((v % 2 ^ w : Nat) : Int) - 2 ^ w
/-- Two's-complement `w`-bit form of an integer. -/
def ofSigned (w : Nat) (x : Int) : Nat := (x % (2 ^ w : Nat)).toNat
/-- Little-endian bytes of a number (R85). -/
def leBytes : Nat → Nat → List Byte
  | 0, _ => []
  | n + 1, v => BitVec.ofNat 8 v :: leBytes n (v / 256)
/-- Big-endian bytes of a number. -/
def beBytes (n v : Nat) : List Byte := (leBytes n v).reverse
/-- The number that little-endian bytes hold. -/
def leNat : List Byte → Nat
  | [] => 0
  | b :: t => b.toNat + 256 * leNat t
/-- The number that big-endian bytes hold. -/
def beNat (bs : List Byte) : Nat := leNat bs.reverse
def b2n (b : Bool) : Nat := if b then 1 else 0
/-- Ceiling division. -/
def cdiv (a b : Nat) : Nat := (a + b - 1) / b
/-- Keep a value in a range (R10). -/
def sat (x lo hi : Int) : Int := if x < lo then lo else if x > hi then hi else x
/-- Serial arithmetic: `a` is at or past `b` on a counter of `2 ^ w` values. -/
def serialGe (w a b : Nat) : Bool := (a + 2 ^ w - b % 2 ^ w) % 2 ^ w < 2 ^ (w - 1)

/-! CRC-64 of ECMA-182 (R85, R256): polynomial 0x42F0_E1EB_A9EA_3693, initial value 0, no reflection, no final XOR. -/

def crcShift : Nat → Nat → Nat
  | 0, c => c
  | n + 1, c => crcShift n (if bit c 63 then ((c * 2) % 2 ^ 64) ^^^ 0x42F0E1EBA9EA3693 else c * 2)
def crcByte (c : Nat) (b : Byte) : Nat := crcShift 8 (c ^^^ (b.toNat * 2 ^ 56))
def crc64 (bs : List Byte) : Nat := bs.foldl crcByte 0

/-- The outcome type of the machine. -/
abbrev Outc := Host.Outcome State Fault Refusal
/-- A command's next state: `t`, with the queue that `s` has (a command never touches the queue). -/
def doneAny (s t : State) : Outc := .next { t with pending := s.pending }
/-- What a command that is not a reset leaves: `t`, with the queue, PORST_N and the rails as `s` has them, and out of reset: only
POWER_LOSS, COLD_RESET, SUPPLY_DETECTOR and PORST_RELEASE move these (R319, R460-R463). -/
def State.after (s t : State) : State :=
  { t with pending := s.pending, gth := { t.gth with held := false, porst := s.gth.porst, lowRail := s.gth.lowRail } }
/-- The outcome of a command that acts only on a device out of reset: one held in reset does nothing (R319, R461, R463).
[log entries 13 DESIGN CHOICE, 14 DESIGN CHOICE] -/
def done (s t : State) : Outc := .next (if s.gth.held then s else s.after t)

/-! Registers. -/

/-- Register-space offset of an instance of a register (R11). -/
def Reg.addr (r : Reg) (i j : Nat) : Nat :=
  r.desc.page * 0x100000 + r.desc.base + i * r.desc.s1 + j * r.desc.s2
/-- The reset value that the fields' table gives, before the per-instance exceptions. -/
def Reg.rst0 (r : Reg) : Nat := r.flds.foldl (fun a f => a + f.rst <<< f.lo) 0
/-- PWR_DOM_CTRL at reset, by domain (R405, Table 16.3): always on, owned by a function, or off. -/
def pwrReset (d : Nat) : Nat :=
  if d = 156 ∨ d = 157 ∨ (199 ≤ d ∧ d ≤ 220) then 0x15
  else if (172 ≤ d ∧ d ≤ 198) then 0x10 else 0
/-- Reset value of an instance of a register, with the exceptions the tables name (R46, R292, R391, R413). -/
def Reg.reset (r : Reg) (i : Nat) : Nat :=
  match r with
  | .SDL_TB_CTRL => if i = 0 then 0 else 4
  | .SDL_TB_JLIM => if i = 0 then 0 else if i ≤ 5 then 0x3E8 else 0xF4240
  | .PTR_CTX_CTRL => if i = 0 then 4 else 0
  | .ETH_VLAN => if i = 1 then 0xFFFFF else 0
  | .PWR_DOM_CTRL => pwrReset i
  | r => r.rst0
/-- Access code of a field at an instance: INC is read-only in TB0 (R29), RATE for ids 68-71 (R399). -/
def Fld.accAt (f : Fld) (i : Nat) : Acc :=
  match f.reg with
  | .SDL_TB_INC => if i = 0 then .ro else f.acc
  | .ARC_RESV => if 68 ≤ i ∧ f.lo = 0 then .ro else f.acc
  | _ => f.acc
/-- The place of a field of a register's instance: the register's offset and the field's lowest bit. -/
def Fld.place (f : Fld) (i j : Nat) : Nat := f.reg.addr i j * 64 + f.lo
namespace State
/-- The stored value of a register. -/
def rd (s : State) (r : Reg) (i : Nat := 0) (j : Nat := 0) : Nat :=
  (s.regs.get (BitVec.ofNat 64 (r.reset i)) (r.addr i j)).toNat
/-- Store the value of a register. -/
def wr (s : State) (r : Reg) (v : Nat) (i : Nat := 0) (j : Nat := 0) : State :=
  { s with regs := s.regs.set (BitVec.ofNat 64 (r.reset i)) (r.addr i j) (BitVec.ofNat 64 v) }
/-- The value of a field. -/
def fld (s : State) (f : Fld) (i : Nat := 0) (j : Nat := 0) : Nat := bits (s.rd f.reg i j) f.lo f.w
/-- Set a field, the rest of its register unchanged. -/
def setFld (s : State) (f : Fld) (v : Nat) (i : Nat := 0) (j : Nat := 0) : State :=
  s.wr f.reg (setBits (s.rd f.reg i j) f.lo f.w v) i j
/-- A one-bit field as a Bool. -/
def on (s : State) (f : Fld) (i : Nat := 0) (j : Nat := 0) : Bool := s.fld f i j == 1
/-- Hardware gives a field a value of its own in this tick: `land` is what the field holds after a clear by software in the same
tick (Table 0.3). [log entry 245 DEDUCED] -/
def setHw (s : State) (f : Fld) (v land : Nat) (i : Nat := 0) (j : Nat := 0) : State :=
  let old := match s.hw.get none (f.place i j) with | some x => x.1 | none => s.fld f i j
  { s.setFld f v i j with hw := s.hw.set none (f.place i j) (some (old, land)) }
/-- Hardware sets a W1C bit: a clear in the same tick leaves it 1 (Table 0.3). -/
def raise (s : State) (f : Fld) (i : Nat := 0) (j : Nat := 0) : State := s.setHw f 1 1 i j
/-- What hardware has added in this tick to a field that a read clears. [log entry 245 DEDUCED] -/
def landed (s : State) (f : Fld) (i j : Nat) : Nat := match s.hw.get none (f.place i j) with | some x => x.2 | none => 0
/-- Add to a field, saturating at its largest value; what is added to a read-clear field in the tick of a read lands after its clear
(Table 0.3). [log entry 245 DEDUCED] -/
def addSat (s : State) (f : Fld) (n : Nat) (i : Nat := 0) (j : Nat := 0) : State :=
  let t := s.setFld f (min (s.fld f i j + n) (2 ^ f.w - 1)) i j
  let old := match s.hw.get none (f.place i j) with | some x => x.1 | none => s.fld f i j
  { t with hw := if f.acc = .rc then s.hw.set none (f.place i j) (some (old, min (s.landed f i j + n) (2 ^ f.w - 1))) else s.hw }
/-- A hardware update of an RW field: a software write of the field in the same tick wins (Table 0.3). -/
def setRw (s : State) (f : Fld) (v : Nat) (i : Nat := 0) (j : Nat := 0) : State :=
  if bit (s.sw.get 0 (f.reg.addr i j)) f.lo then s else s.setFld f v i j
/-- Add to a field, wrapping. -/
def addWrap (s : State) (f : Fld) (n : Nat) (i : Nat := 0) (j : Nat := 0) : State :=
  s.setFld f ((s.fld f i j + n) % 2 ^ f.w) i j
/-- Count a status code that no register shows, per instance. [log entry 53 DEDUCED] -/
def bump (s : State) (code : Nat) (inst : Nat := 0) (n : Nat := 1) : State :=
  { s with cnt := s.cnt.set 0 (code * 65536 + inst) (s.cnt.get 0 (code * 65536 + inst) + n) }
/-- The count of a status code. -/
def count (s : State) (code : Nat) (inst : Nat := 0) : Nat := s.cnt.get 0 (code * 65536 + inst)
/-- Emit an output. -/
def emit (s : State) (o : Out) : State := { s with out := s.out ++ [o] }
/-- A free value below `2 ^ w` and the state that has used it. -/
def freeBits (s : State) (w : Nat) : Nat × State :=
  (Config.free s.freeN % 2 ^ w, { s with freeN := s.freeN + 1 })
/-- `n` free bytes and the state that has used them. -/
def freeBytes (s : State) (n : Nat) : List Byte × State :=
  ((List.range n).map (Config.freeByte s.freeN), { s with freeN := s.freeN + 1 })
/-- CLK_TIME ticks for which the emergency throttle has run (R410). [log entry 76 DEDUCED] -/
def throttled (s : State) : Nat := s.arc.thrTicks + (match s.arc.thrAt with | some t => s.tick - t | none => 0)
/-- Fabric cycles since reset release: 1.1 GHz against the 500 MHz of CLK_TIME (R44, R408); while the emergency throttle runs every
edge is stretched to two periods (R410). [log entry 16 DEDUCED] -/
def fc (s : State) : Nat := (2 * s.tick - s.throttled) * 11 / 10
/-- A progress beat of an engine (R323), numbered as LDG_RESET.TARGET; 1024 + p is the controller of plot p. -/
def beat (s : State) (e : Nat) : State := { s with ldg := { s.ldg with beat := s.ldg.beat.set 0 e s.fc } }
end State
/-- CLK_TIME ticks in a microsecond. -/
def usTicks : Nat := 500

/-! Memory. -/

/-- What an unlisted byte of memory reads as: the zero that the wipe of power-on and cold reset leaves (R319, Table 1.4).
[log entry 8 DEDUCED] -/
def Memory.blank : Byte := 0
/-- The canonical form of memory: addresses strictly rising, and no listed byte equal to what an unlisted one reads as. -/
def Memory.wf (m : List Host.Cell) : Bool := Tbl.wf Memory.blank m
/-- The bytes at `n` places from `a`, of a table of cells whose keys are `a` or above. -/
def spread (a : Nat) : Nat → Tbl Byte → List Byte
  | 0, _ => []
  | n + 1, [] => Memory.blank :: spread (a + 1) n []
  | n + 1, (k, v) :: t => if k = a then v :: spread (a + 1) n t else Memory.blank :: spread (a + 1) n ((k, v) :: t)
/-- `n` bytes of memory from device address `a`. -/
def readRun (m : Tbl Byte) (a n : Nat) : List Byte := spread a n (m.filter (fun p => decide (a ≤ p.1)))
/-- The cells of a run of bytes; a blank byte is not listed. -/
def cells (a : Nat) : List Byte → Tbl Byte
  | [] => []
  | b :: bs => if b = Memory.blank then cells (a + 1) bs else (a, b) :: cells (a + 1) bs
/-- Memory with a run of bytes written from device address `a`. -/
def writeRun (m : Tbl Byte) (a : Nat) (bs : List Byte) : Tbl Byte :=
  m.filter (fun p => decide (p.1 < a)) ++ cells a bs ++ m.filter (fun p => decide (a + bs.length ≤ p.1))
/-- Memory with `n` bytes from `a` wiped to zero. -/
def wipeRun (m : Tbl Byte) (a n : Nat) : Tbl Byte :=
  m.filter (fun p => decide (p.1 < a ∨ a + n ≤ p.1))
namespace State
/-- Bytes of memory from a device address. -/
def bytes (s : State) (a n : Nat) : List Byte := readRun s.mem a n
/-- Write bytes of memory from a device address. -/
def putBytes (s : State) (a : Nat) (bs : List Byte) : State := { s with mem := writeRun s.mem a bs }
/-- A little-endian number in memory. -/
def leAt (s : State) (a n : Nat) : Nat := leNat (s.bytes a n)
end State

/-! The device address space. -/

def pavBase : Nat := 0x4000000000
def fsBase : Nat := 0x5000000000
def aliasBase : Nat := 0x1000000000
def regBase : Nat := 0x6000000000
def gthBase : Nat := 0x7000000000
/-- What a device address names (R14, R169, R206, R352, R393, R11). -/
inductive Region
  | lpddr (a : Nat)
  | lpHole
  | window (stream off : Nat)
  | pav (p off : Nat)
  | pavHole
  | fs (off : Nat)
  | fsHole
  | regs (off : Nat)
  | gth
  | unmapped
  deriving DecidableEq, Repr
/-- Fitted capacity in bytes (R392). -/
def State.fitted (s : State) : Nat :=
  match s.fld ARC_CFG_DENSITY with
  | 0 => 16 * 2 ^ 30
  | 1 => 32 * 2 ^ 30
  | _ => 64 * 2 ^ 30
/-- U, the usable capacity (R393): 62 GiB of 64 (R24). -/
def State.usable (s : State) : Nat := s.fitted / 32 * 31
/-- LPDDR accesses are served only once trained (R392). -/
def State.trained (s : State) : Bool := s.on ARC_CFG_TRAINED
/-- An access waits for LPDDR to be served, behind those that came before it (R392). [log entry 288 DEDUCED] -/
def State.lpWait (s : State) (w : LpWait) : State := { s with arc := { s.arc with waits := s.arc.waits ++ [w] } }
/-- The region of a device address, on a device with `u` bytes of usable LPDDR; the capacities are those of Table 1.5 (R24): 156 pavilions of
24 banks of 64 KiB, a frame store of 96 MiB. -/
def regionOf (u a : Nat) : Region :=
  if a < u then .lpddr a
  else if a < 64 * 2 ^ 30 then .lpHole
  else if aliasBase ≤ a ∧ a < aliasBase + 16 * 2 ^ 32 then .window ((a - aliasBase) / 2 ^ 32) ((a - aliasBase) % 2 ^ 32)
  else if pavBase ≤ a ∧ a < pavBase + 156 * 0x200000 then
    if (a - pavBase) % 0x200000 < 0x180000 then .pav ((a - pavBase) / 0x200000) ((a - pavBase) % 0x200000) else .pavHole
  else if fsBase ≤ a ∧ a < fsBase + 0x6000000 then .fs (a - fsBase)
  else if fsBase ≤ a ∧ a < regBase then .fsHole
  else if regBase ≤ a ∧ a < regBase + 0x10000000 then .regs (a - regBase)
  else if gthBase ≤ a ∧ a < gthBase + 0x1000000000 then .gth
  else .unmapped
/-- The region of a device address. -/
def State.region (s : State) (a : Nat) : Region := regionOf s.usable a
/-- Device address of a bank of a physical pavilion (R14). -/
def bankAddr (p b : Nat) : Nat := pavBase + p * 0x200000 + b * 0x10000
/-- Key of a bank's control state. -/
def bankKey (p b : Nat) : Nat := 24 * p + b
/-- Key of a frame-store segment's control state. -/
def segKey (n : Nat) : Nat := 100000 + n
/-- Device address of a frame-store segment (R169). -/
def segAddr (n : Nat) : Nat := fsBase + n * 0x40000
/-- ARC_RANGE: one count per access that reaches [U, 64 GiB) (R393). -/
def State.arcRange (s : State) : State := s.addSat ARC_CNT_RANGE 1
/-- Whether a run of `m` bytes at `a` touches [lo, lo + n). -/
def hits (lo n a m : Nat) : Bool := decide (a < lo + n ∧ lo < a + m)
/-- The range of a staging window (R403), base and bytes: that which it was enabled with, or what its register names.
[log entry 277 DEDUCED] -/
def State.stgRange (s : State) (i : Nat) : Nat × Nat :=
  let x := if s.on ARC_STG_EN i then s.arc.stgAt.get (0, 0) i else (s.fld ARC_STG_BASE i, s.fld ARC_STG_SIZE i)
  (x.1 * 0x10000, max 1 x.2 * 0x10000)
/-- The ranges of the staging windows that serve their LPDDR range: enabled and valid (R16). -/
def State.stgOn (s : State) : List (Nat × Nat) :=
  ((List.range 32).filter (fun i => s.on ARC_STG_EN i && s.on ARC_STG_VALID i)).map s.stgRange
/-- Bytes of usable LPDDR, as any requester is served them: from the staging SRAM where a window covers them (R16, R403). -/
def State.lpBytes (s : State) (a n : Nat) : List Byte :=
  let ws := s.stgOn.filter (fun w => hits w.1 w.2 a n)
  if ws.isEmpty then s.bytes a n
  else ((s.bytes a n).zip (readRun s.arc.stg a n)).zip (List.range n) |>.map (fun x =>
    if ws.any (fun w => decide (w.1 ≤ a + x.2 ∧ a + x.2 < w.1 + w.2)) then x.1.2 else x.1.1)
/-- A little-endian number in LPDDR. -/
def State.lpLe (s : State) (a n : Nat) : Nat := leNat (s.lpBytes a n)
/-- Bytes of LPDDR (R393): those at or above U read 0, and the access then counts ARC_RANGE. -/
def State.lpRead (s : State) (a n : Nat) : List Byte × State :=
  if a + n ≤ s.usable then (s.lpBytes a n, s)
  else
    let k := s.usable - a
    (s.lpBytes a (min k n) ++ List.replicate (n - min k n) 0, s.arcRange)
/-- A number in usable LPDDR; 0 beyond it (R393). -/
def State.lpNat (s : State) (a n : Nat) : Nat := if a + n ≤ s.usable then s.lpLe a n else 0
/-- The parts of a write (address, bytes) that lie outside [lo, lo + n). -/
def cutOut (lo n : Nat) (w : Nat × List Byte) : List (Nat × List Byte) :=
  [(w.1, w.2.take (lo - w.1)), (max w.1 (lo + n), w.2.drop (lo + n - w.1))].filter (fun x => !x.2.isEmpty)
/-- The hold buffers that a write of `n` bytes at `a` touches: stream, address, bytes (R210). -/
def State.holdsHit (s : State) (a n : Nat) : List (Nat × Nat × Nat) :=
  s.str.filterMap (fun x => match x.2.hold with
    | some h => if hits h.1 h.2.1 a n then some (x.1, h.1, h.2.1) else none
    | none => none)
/-- The sealed ranges that a write touches (R431). -/
def State.sealsHit (s : State) (a n : Nat) : List (Nat × Nat) :=
  s.gth.sealed.filterMap (fun x => match x.2 with
    | some r => if hits r.base r.len a n then some (r.base, r.len) else none
    | none => none)
/-- A write of LPDDR reaches the staging SRAM as well where a window serves its range (R16). -/
def State.stgPut (s : State) (a : Nat) (bs : List Byte) : State :=
  let ws := s.stgOn.filter (fun w => hits w.1 w.2 a bs.length)
  if ws.isEmpty then s
  else
    let part := fun (w : Nat × Nat) => (max a w.1, (bs.drop (w.1 - a)).take (min (a + bs.length) (w.1 + w.2) - max a w.1))
    { s with arc := { s.arc with
        stg := ws.foldl (fun m w => writeRun m (part w).1 (part w).2) s.arc.stg
        stgPoison := s.arc.stgPoison.filter (fun p => !(decide (a ≤ p.1 * 64 ∧ p.1 * 64 + 64 ≤ a + bs.length))) } }
/-- Lines of 64 bytes that a write reaches leave the L2 of every core and the L3 (R416). -/
def State.invalidate (s : State) (a n : Nat) : State :=
  if s.org.l2.isEmpty ∧ s.org.l3.isEmpty then s
  else
    { s with org := { s.org with l2 := s.org.l2.filter (fun x => !hits (x.1 % 2 ^ 40 * 64) 64 a n),
                                 l3 := s.org.l3.filter (fun x => !hits (x.1 * 64) 64 a n) } }
/-- Write usable LPDDR with no guard. A write makes the bursts it covers whole readable again (R335), cancels the
write-back of the bursts it reaches (R395), goes to the staging SRAM alike (R16), and takes its lines from the caches of the cores
(R416). -/
def State.lpRaw (s : State) (a : Nat) (bs : List Byte) : State :=
  let t := if a + bs.length ≤ s.usable then s.putBytes a bs
    else (s.putBytes a (bs.take (s.usable - a))).arcRange
  let t := (t.stgPut a bs).invalidate a bs.length
  let t := if t.arc.writeBack.isEmpty then t
    else { t with arc := { t.arc with writeBack := t.arc.writeBack.filter (fun p => !hits (p.1 * 64) 64 a bs.length) } }
  if t.poison.isEmpty then t
  else { t with poison := t.poison.filter (fun p => !(decide (a ≤ p.1 * 64 ∧ p.1 * 64 + 64 ≤ a + bs.length))) }
/-- Wipe a range of LPDDR to zero (R431, R432): a write of zeros with no guard. -/
def State.lpWipe (s : State) (a n : Nat) : State :=
  let whole := fun (p : Nat × Bool) => decide (a ≤ p.1 * 64 ∧ p.1 * 64 + 64 ≤ a + n)
  { s with
    mem := wipeRun s.mem a n
    poison := s.poison.filter (fun p => !whole p)
    arc := { s.arc with stg := wipeRun s.arc.stg a n, stgPoison := s.arc.stgPoison.filter (fun p => !whole p),
                        writeBack := s.arc.writeBack.filter (fun p => !hits (p.1 * 64) 64 a n) } }.invalidate a n
/-- Write LPDDR (R393, R210, R431): bytes at or above U are dropped, and the access then counts ARC_RANGE; bytes within a
hold buffer are dropped, and the write then counts HOLD_GUARD once for the buffer's stream; bytes within a sealed range
are dropped. -/
def State.lpPut (s : State) (a : Nat) (bs : List Byte) : State :=
  let hs := s.holdsHit a bs.length
  let zs := hs.map (fun h => (h.2.1, h.2.2)) ++ s.sealsHit a bs.length
  let ws := zs.foldl (fun ws z => ws.flatMap (cutOut z.1 z.2)) [(a, bs)]
  let s := hs.foldl (fun s h => s.addSat PLT_STRM_CNT2_HOLDGUARD 1 h.1) s
  ws.foldl (fun s w => s.lpRaw w.1 w.2) s
/-- Whether a read of a range meets a poisoned burst (R335): of LPDDR, or of the staging SRAM where it serves the burst (R16). -/
def State.poisoned (s : State) (a n : Nat) : Bool :=
  let staged := fun (p : Nat) => s.stgOn.any (fun w => hits w.1 w.2 (p * 64) 64)
  s.poison.any (fun p => decide (a < p.1 * 64 + 64 ∧ p.1 * 64 < a + n) && !staged p.1)
    || s.arc.stgPoison.any (fun p => decide (a < p.1 * 64 + 64 ∧ p.1 * 64 < a + n) && staged p.1)
end Sys2Proof.Machine
end

