-- ==== Sys2Proof/Machine/Report.lean ====
section
/-! DEFINITION. Reporting, shared by every block: time bases' readings, interrupt messages (R364), the alarm table
(R438-R440), the log ring (R441, R442), traces (R443, R444) and the management-VLAN packets (R445, R446). -/
namespace Sys2Proof.Machine
open Sys2Proof
/-- Modulus of a time base value in units of 2^-32 ns: SEC is 48 bits (R27). -/
def tbMod : Nat := 2 ^ 48 * 1000000000 * 2 ^ 32
namespace State
/-- A time base (R27). -/
def tbase (s : State) (n : Nat) : TBase := s.sdl.tb.get {} n
def setTbase (s : State) (n : Nat) (t : TBase) : State := { s with sdl := { s.sdl with tb := s.sdl.tb.set {} n t } }
/-- The value of a base in 1/16 ns. -/
def tb16 (s : State) (n : Nat) : Nat := (s.tbase n).val / 2 ^ 28
/-- A Gazebo stamp: TB0 in 1/16 ns, low 64 bits (R437). -/
def stamp (s : State) : Nat := s.tb16 0 % 2 ^ 64
/-- The value of a base in whole nanoseconds. -/
def tbNs (s : State) (n : Nat) : Nat := (s.tbase n).val / 2 ^ 32

/-! Reservations (R399). -/

/-- The 64-byte bursts that `n` bytes from `a` touch. -/
def bursts (a n : Nat) : Nat := if n = 0 then 0 else (a + n - 1) / 64 - a / 64 + 1
/-- `n` bursts of requester `id`: with RATE = 0 each counts RESV_WAIT; else those that find no tokens do, how many being a matter
of their instants, which are open. [log entry 71 DESIGN CHOICE] -/
def resvWait (s : State) (id n : Nat) : State :=
  if n = 0 then s
  else if s.fld ARC_RESV_RATE id = 0 then s.addSat ARC_RESV_WAIT n id
  else
    let (f, s) := s.freeBits 16
    s.addSat ARC_RESV_WAIT (f % (n + 1)) id

/-! Interrupts (R364). -/

/-- Word `w` of MSI-X table entry `v` of a function; a vector's control word resets to masked (bit 0 = 1). [log entry 54 PRESUMED] -/
def msixKey (fn v w : Nat) : Nat := 4096 * fn + 4 * v + w
def msixMasked (s : State) (fn v : Nat) : Bool := bit (s.pci.msix.get 1 (msixKey fn v 3)) 0
/-- Send the message of a vector, or set its pending bit while it is masked. -/
def msixFire (s : State) (fn v : Nat) : State :=
  if s.msixMasked fn v then { s with pci := { s.pci with pba := s.pci.pba.set false (1024 * fn + v) true } }
  else s.emit (.msix fn v)
/-- Whether VF `v` is enabled. -/
def vfOn (s : State) (v : Nat) : Bool := s.pci.vfOn.get false v
/-- The MSI that a source sends to the hart of its route (R415): FILE 6 and 7 are taken as S. -/
def hartMsi (s : State) (src : Nat) : State :=
  if s.on ORG_IRQ_ROUTE_EN src ∧ s.fld ORG_IRQ_ROUTE_ID src ≠ 0 then
    let f := s.fld ORG_IRQ_ROUTE_FILE src
    s.emit (.imsic (s.fld ORG_IRQ_ROUTE_HART src) (if 6 ≤ f then 1 else f) (s.fld ORG_IRQ_ROUTE_ID src))
  else s
/-- Raise interrupt source `src` (R364, R415): sources of an enabled VF's channel and port go to that VF's vectors 0 and 1,
every other source by PCI_MSIX_SRC; sources 38 to 63 are never raised. -/
def raiseMsi (s : State) (src : Nat) : State :=
  let s := if src < 38 then s.hartMsi src else s
  if src < 16 ∧ s.vfOn src then s.msixFire (1 + src) 0
  else if 16 ≤ src ∧ src < 32 ∧ s.vfOn (src - 16) then s.msixFire (1 + (src - 16)) 1
  else if src < 38 ∧ s.on PCI_MSIX_SRC_EN src then s.msixFire 0 (s.fld PCI_MSIX_SRC_VEC src)
  else s

/-! Management VLAN (R445, R446). -/

/-- PCP and egress queue of Gazebo packets by class (Table 15.2): alarms 6, logs 3, traces 1. [log entries 51 DEDUCED, 295 DEDUCED] -/
def gzbPcp (cls : Nat) : Nat := if cls = 1 then 6 else if cls = 2 then 3 else 1
/-- A switch port 0 to 15 carries frames (R373): its port is ON, the subport is linked, and the mode has that subport. -/
def ethUp (s : State) (p : Nat) : Bool :=
  let n := p / 4; let j := p % 4
  p < 16 && s.fld ETH_PORT_CFG_STATE n == 2 && bit (s.fld ETH_PORT_CFG_LINK n) j && (j == 0 || s.fld ETH_PORT_CFG_MODE n == 1)
/-- PCP of region-push frames (Table 15.2, R391). -/
def pushPcp (s : State) : Nat := if s.fld ETH_QOS_PUSH_PCP = 0 then 4 else s.fld ETH_QOS_PUSH_PCP
/-- The egress queue of a frame that the switch forwards (Table 15.2): PTP in 7; PCP 6 and 7 in 5, as media; then region-push; the others by
PCP. [log entry 295 DEDUCED] -/
def egressQueue (s : State) (ptp : Bool) (pcp : Nat) : Nat :=
  if ptp then 7
  else if 6 ≤ pcp ∨ pcp = s.fld ETH_QOS_RX_PCP ∨ pcp = s.fld ETH_QOS_TX_PCP then 5
  else if pcp = s.pushPcp then 4
  else min pcp 3
/-- The switch port that the ring's owner blocks (R378). -/
def ringW (s : State) : Nat := s.fld ETH_RING_CFG_RING_W
/-- RING_W is blocked by this owner. [log entry 242 DEDUCED] -/
def ringBlocked (s : State) : Bool := s.on ETH_RING_CFG_OWNER && !s.on ETH_RING_CFG_OPEN
/-- A datagram of this chip's own senders leaves by an external port that carries frames (R373, R377) and is not blocked, PTP apart (R378):
through the egress queue of its class, on VLAN `vid`, or untagged where that is 0 or the port lies in its untagged set. -/
def udpOut (s : State) (p queue ip dport sport vid pcp dscp : Nat) (sum : Option (BitVec 16)) (data : List Byte) : State :=
  if s.ethUp p && !(s.ringBlocked && p == s.ringW && dport != 319 && dport != 320) then
    s.emit (.udp p queue ip dport sport (if bit (s.fld ETH_VLAN_UNTAG vid) p then 0 else vid) pcp dscp sum data)
  else s
/-- A packet of `cls` (1 alarm, 2 log, 3 trace) with its header and records, by the first switch port of Ethernet port GZB_EGR_DST.PORT;
none is sent while GZB_EGR_DST.ADDR is 0. [log entry 279 DEDUCED] -/
def gzbPacket (s : State) (cls seq : Nat) (recs : List (List Byte)) : State :=
  if s.fld GZB_EGR_DST_ADDR = 0 then s
  else
    let hdr := beBytes 2 0xE5D2 ++ [1, BitVec.ofNat 8 cls, BitVec.ofNat 8 (s.zhl.chip), 0]
      ++ beBytes 4 seq ++ beBytes 2 recs.length ++ beBytes 4 0
    s.udpOut (4 * s.fld GZB_EGR_DST_PORT) (gzbPcp cls) (s.fld GZB_EGR_DST_ADDR) (s.fld GZB_EGR_DST_UDP) (s.fld GZB_EGR_DST_UDP)
      (s.fld ETH_QOS_MGMT_VID) (gzbPcp cls) 0 none (hdr ++ recs.flatten)
/-- The 16-byte alarm record: the ALARM_ENTRY layout with the source index in the last 2 bytes, big-endian. -/
def alarmRecord (s : State) (src : Nat) : List Byte :=
  beBytes 8 (s.fld GZB_ALM_ENTRY_FIRST src) ++ beBytes 4 (s.fld GZB_ALM_ENTRY_HI_COUNT src)
    ++ beBytes 2 (s.fld GZB_ALM_ENTRY_HI_CODE src) ++ beBytes 2 src
/-- Send the alarm packet of a source. -/
def alarmPacket (s : State) (src : Nat) : State :=
  if s.fld GZB_EGR_DST_ADDR = 0 then s
  else
    let t := s.gzbPacket 1 s.gzb.seqA [s.alarmRecord src]
    { t with gzb := { t.gzb with seqA := (t.gzb.seqA + 1) % 2 ^ 32,
                                 almSent := t.gzb.almSent.set (0, 0) src (t.fld GZB_ALM_ENTRY_HI_COUNT src, t.tbNs 0) } }

/-! The alarm table (R438-R440). -/

/-- Whether a source's sticky bit is set. -/
def sticky (s : State) (src : Nat) : Bool := bit (s.fld GZB_ALM_STICKY_STICKY (src / 32)) (src % 32)
/-- Raises of a source in the tick that runs (R440). -/
def raisedNow (s : State) (src : Nat) : Nat :=
  let r := s.gzb.raised.get (0, 0) src
  if r.1 = s.tick then r.2 else 0
/-- Raise alarm `code` at source `src` (R439, R367, R445). [log entry 41 DEDUCED] -/
def alarm (s : State) (src code : Nat) : State :=
  let s := { s with gzb := { s.gzb with unread := s.gzb.unread.set false src true,
                                        raised := s.gzb.raised.set (0, 0) src (s.tick, s.raisedNow src + 1) } }
  let s := s.emit (.pin "TRAY_ALERT_N" false)
  if s.sticky src then (s.addSat GZB_ALM_ENTRY_HI_COUNT 1 src).setFld GZB_ALM_ENTRY_HI_CODE code src
  else
    let s := s.setFld GZB_ALM_STICKY_STICKY (setBits (s.fld GZB_ALM_STICKY_STICKY (src / 32)) (src % 32) 1 1) (src / 32)
    let s := (s.setFld GZB_ALM_ENTRY_FIRST s.stamp src).setFld GZB_ALM_ENTRY_HI_COUNT 1 src
    let s := s.setFld GZB_ALM_ENTRY_HI_CODE code src
    (s.raiseMsi 32).alarmPacket src
/-- Clear the entry of a source (R440). -/
def entryClear (s : State) (src : Nat) : State :=
  let s := s.setFld GZB_ALM_STICKY_STICKY (setBits (s.fld GZB_ALM_STICKY_STICKY (src / 32)) (src % 32) 1 0) (src / 32)
  (s.setFld GZB_ALM_ENTRY_FIRST 0 src).setFld GZB_ALM_ENTRY_HI_COUNT 0 src
/-- The raises of the tick of a clear follow it (R440): the bit stays 1, FIRST and COUNT describe them alone; where the first of
them found the bit at 1, it is now a raise that finds it at 0. -/
def entryReraise (s : State) (src n : Nat) (first : Bool) : State :=
  let s := s.setFld GZB_ALM_STICKY_STICKY (setBits (s.fld GZB_ALM_STICKY_STICKY (src / 32)) (src % 32) 1 1) (src / 32)
  let s := (s.setFld GZB_ALM_ENTRY_FIRST s.stamp src).setFld GZB_ALM_ENTRY_HI_COUNT n src
  if first then s else (s.raiseMsi 32).alarmPacket src
/-- Clear the sticky bits of a mask written to GZB_ALM_STICKY `i` (R440). -/
def stickyClear (s : State) (i mask : Nat) : State :=
  (List.range 32).foldl (fun s j =>
    if bit mask j then
      let src := 32 * i + j
      let n := s.raisedNow src
      if n = 0 then s.entryClear src
      else (s.entryClear src).entryReraise src n (decide (s.fld GZB_ALM_ENTRY_HI_COUNT src ≤ n))
    else s) s

/-! The log ring (R441, R442). -/

end State
/-- Bytes of a log record (Table 18.3), little-endian. [log entry 45 DEDUCED] -/
def LogRec.bytes (r : LogRec) : List Byte :=
  leBytes 8 r.time ++ leBytes 2 r.code ++ leBytes 1 r.page ++ leBytes 1 r.inst ++ leBytes 2 r.ctx ++ leBytes 2 0
    ++ (r.data ++ List.replicate (16 - r.data.length) 0).take 16
/-- Ring order within one tick: page, then instance (R441). [log entry 50 DEDUCED] -/
def LogRec.before (a b : LogRec) : Bool := a.page < b.page ∨ (a.page = b.page ∧ a.inst ≤ b.inst)
/-- Insert a record among those of its tick. -/
def insertRec (r : LogRec) : List LogRec → List LogRec
  | [] => [r]
  | q :: t => if q.before r then q :: insertRec r t else r :: q :: t
namespace State
/-- Records of a ring whose SIZE field is a log2 held to a range (R450). -/
def ringSize (v lo hi : Nat) : Nat := 2 ^ (max lo (min hi v))
def logSize (s : State) : Nat := ringSize (s.fld GZB_LOG_RING_SIZE) 7 20
def trcSize (s : State) : Nat := ringSize (s.fld GZB_TRC_RING_SIZE) 8 24
/-- WIDX − RIDX of free-running 64-bit counts (R442). -/
def idxGap (w r : Nat) : Nat := (w + 2 ^ 64 - r) % 2 ^ 64
def logUsed (s : State) : Nat := idxGap (s.fld GZB_LOG_WIDX_IDX) (s.fld GZB_LOG_RIDX_IDX)
def trcUsed (s : State) : Nat := idxGap (s.fld GZB_TRC_WIDX_IDX) (s.fld GZB_TRC_RIDX_IDX)
/-- Write record bytes at a count of the log ring. -/
def logSlot (s : State) (n : Nat) (bs : List Byte) : State :=
  s.lpPut (s.fld GZB_LOG_RING_BASE * 64 + (n % s.logSize) * 32) bs
/-- A log record queued for the VLAN; eight make a packet (R445). -/
def logEgress (s : State) (bs : List Byte) : State :=
  if s.fld GZB_EGR_DST_ADDR = 0 then s
  else
    let q := s.gzb.logQ ++ [bs]
    let at_ := if s.gzb.logQ.isEmpty then s.tick else s.gzb.logQAt
    if q.length < 8 then { s with gzb := { s.gzb with logQ := q, logQAt := at_ } }
    else
      let t := s.gzbPacket 2 s.gzb.seqL q
      { t with gzb := { t.gzb with logQ := [], seqL := (t.gzb.seqL + 1) % 2 ^ 32 } }
/-- One record more in the ring: WIDX advances, and source 33 is raised when the records pending reach LOG_WM. -/
def logAdvance (s : State) (bs : List Byte) : State :=
  let s := s.addWrap GZB_LOG_WIDX_IDX 1
  let s := if s.logUsed = s.fld GZB_LOG_CFG_LOG_WM then s.raiseMsi 33 else s
  s.logEgress bs
/-- Write a record at WIDX, ordered among the records of its tick. -/
def logWrite (s : State) (r : LogRec) : State :=
  let old := if s.gzb.tickOf = s.tick then s.gzb.tickRecs else []
  let recs := insertRec r old
  let base := idxGap (s.fld GZB_LOG_WIDX_IDX) old.length
  let s := (recs.zip (List.range recs.length)).foldl (fun s p => s.logSlot (base + p.2) p.1.bytes) s
  let s := { s with gzb := { s.gzb with tickOf := s.tick, tickRecs := recs } }
  s.logAdvance r.bytes
/-- Write the gap record that follows drops (R442). -/
def logGap (s : State) : State :=
  let r : LogRec := ⟨s.stamp, 0x0E01, 0x0F, 0, 0xFFFF, leBytes 8 s.gzb.dropped ++ leBytes 8 s.gzb.lastDrop⟩
  let s := s.logSlot (s.fld GZB_LOG_WIDX_IDX) r.bytes
  let s := { s with gzb := { s.gzb with dropped := 0, tickOf := s.tick, tickRecs := [] } }
  (s.logAdvance r.bytes).raiseMsi 34
/-- Drop an arriving record, counted (R442). -/
def logDropRec (s : State) (r : LogRec) : State :=
  let s := s.addSat GZB_DROP_LOG 1
  { s with gzb := { s.gzb with dropped := s.gzb.dropped + 1, lastDrop := r.time } }
/-- A record arrives at the log ring (R442). [log entry 52 DEDUCED] -/
def logArrive (s : State) (r : LogRec) : State :=
  if s.gzb.dropped = 0 then
    if s.logUsed < s.logSize then s.logWrite r else s.logDropRec r
  else if s.logUsed + 2 ≤ s.logSize then s.logGap.logWrite r
  else s.logDropRec r
/-- Gazebo's rings take records: LPDDR is served (R392) and no level 4 runs (R448). -/
def ringsOpen (s : State) : Bool := s.trained && s.fld LDG_STAT_LEVEL != 4
/-- A record is raised: it reaches the ring at once, or waits while LPDDR is not served (R392) or a level 4 runs
(R448). -/
def logRaise (s : State) (r : LogRec) : State :=
  if s.ringsOpen then s.logArrive r
  else { s with gzb := { s.gzb with held := s.gzb.held ++ [r] } }
/-- Log `code` from block page `page`, instance `inst`, about context `ctx` (0xFFFF for none), with the DATA the spec
gives. -/
def log (s : State) (code page inst ctx : Nat) (data : List Byte) : State :=
  s.logRaise ⟨s.stamp, code, page, inst % 256, ctx, data⟩
/-- Log a code whose DATA the spec does not state: free bytes. [log entry 46 DESIGN CHOICE] -/
def logFree (s : State) (code page inst ctx : Nat) : State :=
  let (d, s) := s.freeBytes 16
  s.log code page inst ctx d

/-- Log a code of which the spec says what its record names, and not where in DATA it stands: the names first, in the order in which the
rule gives them, little-endian, and free bytes after them. [log entry 246 DESIGN CHOICE] -/
def logNamed (s : State) (code page inst ctx : Nat) (names : List Byte) : State :=
  let (d, s) := s.freeBytes (16 - names.length)
  s.log code page inst ctx (names ++ d)

/-! Traces (R443, R444). -/

/-- A trace record queued for the VLAN; sixteen make a packet (R445). -/
def trcEgress (s : State) (bs : List Byte) : State :=
  if s.fld GZB_EGR_DST_ADDR = 0 then s
  else
    let q := s.gzb.trcQ ++ [bs]
    let at_ := if s.gzb.trcQ.isEmpty then s.tick else s.gzb.trcQAt
    if q.length < 16 then { s with gzb := { s.gzb with trcQ := q, trcQAt := at_ } }
    else
      let t := s.gzbPacket 3 s.gzb.seqT q
      { t with gzb := { t.gzb with trcQ := [], seqT := (t.gzb.seqT + 1) % 2 ^ 32 } }
/-- One 16-byte trace record arrives at its ring; a full ring drops it, counted. [log entry 293 DESIGN CHOICE] -/
def trcArrive (s : State) (bs : List Byte) : State :=
  if s.trcUsed < s.trcSize then
    let s := s.lpPut (s.fld GZB_TRC_RING_BASE * 64 + (s.fld GZB_TRC_WIDX_IDX % s.trcSize) * 16) bs
    let s := s.addWrap GZB_TRC_WIDX_IDX 1
    let s := if s.trcUsed * 4 = s.trcSize * 3 then s.raiseMsi 35 else s
    s.trcEgress bs
  else s.addSat GZB_DROP_TRACE 1
/-- A trace record is raised: it reaches the ring at once, or waits as a log record does (R392, R448). -/
def trcWrite (s : State) (event src fact arg : Nat) : State :=
  let bs := leBytes 8 s.stamp ++ leBytes 2 event ++ leBytes 1 src ++ leBytes 1 fact ++ leBytes 4 arg
  if s.ringsOpen then s.trcArrive bs else { s with gzb := { s.gzb with heldTrc := s.gzb.heldTrc ++ [bs] } }
/-- A trace event of `level`, of kind `kind` and source `src` (R443, R444). The kinds: 0 band latch, 1 post, by stream; 2 fire, 3 commit, by plot;
4 underrun, by head; 5 Belvedere start, 6 completion, by engine; 7 DMA completion, by channel. [log entry 292 DEDUCED] -/
def trace (s : State) (level kind src arg : Nat) : State :=
  if s.fld GZB_TRC_CFG_LEVEL < level then s
  else
    let key := kind * 65536 + src
    let n := s.gzb.trcCnt.get 0 key
    let s := { s with gzb := { s.gzb with trcCnt := s.gzb.trcCnt.set 0 key (n + 1) } }
    let k := s.fld GZB_TRC_CFG_K
    if n % 2 ^ k = 0 then s.trcWrite (Config.traceEvent kind).toNat (src % 256) k arg else s
/-- The next record of the log ring is ordered among none before it. -/
def logFresh (s : State) : State := { s with gzb := { s.gzb with tickRecs := [] } }
/-- Records that waited enter their rings: log records in the order of the ticks in which they were raised, and within one by R441. -/
def logFlush (s : State) : State :=
  if s.ringsOpen then
    let t := { s with gzb := { s.gzb with held := [], heldTrc := [] } }
    let t := (s.gzb.held.foldl (fun (x : State × Nat) r => ((if r.time = x.2 then x.1 else x.1.logFresh).logArrive r, r.time)) (t, 2 ^ 64)).1
    s.gzb.heldTrc.foldl trcArrive (if s.gzb.held.getLast?.any (fun r => r.time == s.stamp) then t else t.logFresh)
  else s
/-- Change the decimation exponent: a marker record, then every per-source count starts again (R444). -/
def setDecimation (s : State) (k : Nat) : State :=
  let s := (s.setFld GZB_TRC_CFG_K k).trcWrite 0 0 k 0
  { s with gzb := { s.gzb with trcCnt := [], kAt := s.tbNs 0 } }
end State
end Sys2Proof.Machine
end

