-- ==== Sys2Proof/Machine/Sundial.lean ====
section
/-! DEFINITION. Sundial (R27-R46): the tick of CLK_TIME, steps and loads of time bases, pairs and cross-base conversion,
line clocks and their realignment, positions and their comparison. -/
namespace Sys2Proof.Machine
open Sys2Proof
/-- Sixteenths of a nanosecond in a second: U of R37. -/
def sixteenths : Nat := 16000000000
namespace State
/-! Pairs (R34). -/

/-- The next pair number: 0 is only before the first (R34). -/
def nextSeq (s : State) : Nat := if s.fld SDL_PAIR_SEQ_SEQ = 0xFFFFFFFF then 1 else s.fld SDL_PAIR_SEQ_SEQ + 1
/-- The readings of all eight bases and their INC, as a pair of number `q`. [log entry 18 DEDUCED] -/
def readPair (s : State) (q : Nat) : Pair :=
  ⟨q, (List.range 8).map s.tb16, (List.range 8).map (fun n => s.fld SDL_TB_INC_INC n)⟩
/-- Take a pair in this tick (R34): causes that fall in one tick take one pair, which holds the values after the last
change; the 16 newest are retained. -/
def takePair (s : State) : State :=
  if s.sdl.firstPair.isSome ∧ s.sdl.pairTick = s.tick then
    { s with sdl := { s.sdl with pairs := s.readPair (s.fld SDL_PAIR_SEQ_SEQ) :: s.sdl.pairs.drop 1, pairDue := false } }
  else
    let q := s.nextSeq
    let p := s.readPair q
    let s := s.setFld SDL_PAIR_SEQ_SEQ q
    { s with sdl := { s.sdl with pairs := (p :: s.sdl.pairs).take 16, pairTick := s.tick, pairDue := false,
                                 firstPair := some (s.sdl.firstPair.getD s.tick) } }
/-- A base adds its INC, in units of 2^-32 ns (R29). -/
def advanceBase (s : State) (n : Nat) : State :=
  let t := s.tbase n
  s.setTbase n { t with val := (t.val + s.fld SDL_TB_INC_INC n) % tbMod }
/-- One tick of CLK_TIME (R27-R29, R34): every base adds its INC; the first tick takes the first pair, and a pair asked
for by SDL_CAPT.PAIR or an INC write is taken with the values after the change. -/
def clkTick (s : State) : State :=
  let s := { s with tick := s.tick + 1 }
  let s := (List.range 8).foldl advanceBase s
  let s := if s.sdl.firstPair.isNone ∨ s.sdl.pairDue then s.takePair else s
  s.setFld SDL_CAPT_PAIR 0

/-! Cross-base conversion (R36). -/

/-- The pair a conversion of stamp `t` of base `e` uses, and whether it extrapolates. -/
def pairFor (s : State) (e : Nat) (t : Nat) : Option (Pair × Bool) :=
  match s.sdl.pairs.find? (fun p => decide (p.vals.getD e 0 ≤ t)) with
  | some p => some (p, false)
  | none => s.sdl.pairs.getLast?.map (fun p => (p, true))
/-- Convert stamp `t` of base `e` into base `w` (R36), in 1/16 ns; an extrapolating conversion is logged once per
(w, e, pair number). With no pair retained, which is only before the first tick, the stamp stands as it is. [log entry 19 DESIGN CHOICE] -/
def convert (s : State) (w e : Nat) (t : Nat) : Int × State :=
  if e = w then (t, s)
  else match s.pairFor e t with
  | none => (t, s)
  | some (p, ex) =>
    let d : Int := (t : Int) - (p.vals.getD e 0 : Nat)
    let r : Int := (p.vals.getD w 0 : Nat) + Int.fdiv (d * (p.incs.getD w 0 : Nat)) (p.incs.getD e 1 : Nat)
    if ex ∧ ¬ s.sdl.convLogged.contains (w, e, p.seq) then
      let s := { s with sdl := { s.sdl with convLogged := (w, e, p.seq) :: s.sdl.convLogged } }
      (r, s.logNamed 0x0609 7 e 0xFFFF (leBytes 1 w ++ leBytes 1 e ++ leBytes 4 p.seq))
    else (r, s)

/-! Line clocks (R37-R42). -/

def lclock (s : State) (n : Nat) : LClock := s.sdl.lc.get {} n
def setLclock (s : State) (n : Nat) (c : LClock) : State := { s with sdl := { s.sdl with lc := s.sdl.lc.set {} n c } }
end State
namespace LClock
/-- Frame period in 1/16 ns: den × U / num. -/
def period (c : LClock) : Rat := (c.den * sixteenths : Nat) / (c.num : Nat)
/-- Line period in 1/16 ns. -/
def line (c : LClock) : Rat := c.period / (max 1 c.vtotal : Nat)
/-- What the current frame absorbs of a pending realignment `e` (R39): its whole lines, and the time. Within one line
period, all of it; else at most SLEW whole lines, and no more than leave one line period; SLEW = 0 applies all at once, as its
whole lines, rounded down, and a last line that takes the rest. [log entry 247 DESIGN CHOICE] -/
def absorb (c : LClock) (e : Rat) : Int × Rat :=
  let a := if e < 0 then -e else e
  if a ≤ c.line then (0, e)
  else if c.slew = 0 then ((e / c.line).floor, e)
  else
    let need := (a / c.line).ceil - 1
    let n : Int := min (c.slew : Int) (max 1 need)
    let k := if e < 0 then -n else n
    (k, (k : Rat) * c.line)
/-- Plan the end of the current frame from its start and the pending realignment. -/
def plan (c : LClock) : LClock :=
  let (k, t) := c.absorb c.pend
  { c with adjLines := k, next := c.start + c.period + t }
/-- The rate and totals that wait for the next frame take effect. [log entry 270 DEDUCED] -/
def takeRate (c : LClock) : LClock :=
  match c.nextRate with
  | some (a, b, h, v) => { c with num := a, den := b, htotal := h, vtotal := v, nextRate := none }
  | none => c
/-- Add `e` to the pending realignment (R39). -/
def realign (c : LClock) (e : Rat) : LClock := if c.live then { c with pend := c.pend + e }.plan else { c with next := c.next + e }
/-- The position at base value `t` (R37), with the realigned last line of R39; `free` while the head supplies the frame
start (variable blanking), when L counts on. -/
def position (c : LClock) (t : Rat) (free : Bool) : Nat × Nat × Nat :=
  if ¬ c.live then (0, 0, 0)
  else
    let d := t - c.start
    let lines := (d * (c.num * c.vtotal : Nat) / (c.den * sixteenths : Nat)).floor.toNat
    let pix := (d * (c.num * c.vtotal * c.htotal : Nat) / (c.den * sixteenths : Nat)).floor.toNat
    let last := ((c.vtotal : Int) - 1 + (if c.pend = 0 then 0 else c.adjLines)).toNat
    let l := if free then min lines 65535 else min lines last
    (c.frame, l, min (pix - l * c.htotal) 0xFFFF)
end LClock
namespace State
/-- The settings of head `n` that time its current frame: those it scans with, or those in force before its first frame (R223). -/
def scanSet (s : State) (n : Nat) : HeadSet := if (s.bst.get {} n).running then (s.bst.get {} n).scan else (s.bst.get {} n).cfg
/-- Whether head `n` supplies the frame starts of its line clock: VRR with the head not OFF (R37, R226). -/
def headPaced (s : State) (n : Nat) : Bool := s.fld BST_HCTRL_STATE n ≠ 0 ∧ (s.scanSet n).vrr
/-- The value of a base, in 1/16 ns: its hidden fraction is no part of it (R27, R37). -/
def baseRat (s : State) (n : Nat) : Rat := (s.tb16 n : Nat)
/-- The position F:L:P of line clock `n`; a clock in OFF reads 0 (R37, R38). -/
def lcPos (s : State) (n : Nat) : Nat × Nat × Nat :=
  let c := s.lclock n
  if c.mode = 0 then (0, 0, 0) else c.position (s.baseRat c.base) (s.headPaced n)
/-- SDL_LC_POS as a 64-bit value (R46). [log entry 20 DEDUCED] -/
def lcPosReg (s : State) (n : Nat) : Nat :=
  let (f, l, p) := s.lcPos n
  f * 2 ^ 32 + l * 2 ^ 16 + p
/-- ALIGNED: 1 when no realignment is pending or in progress (R46). -/
def setAligned (s : State) (n : Nat) : State :=
  let c := s.lclock n
  s.setFld SDL_LC_STAT_ALIGNED (b2n (c.mode ≠ 0 ∧ c.live ∧ c.pend = 0)) n
/-- Replace a line clock and its ALIGNED bit. -/
def putLclock (s : State) (n : Nat) (c : LClock) : State := (s.setLclock n c).setAligned n
/-- The ideal start of PTP mode nearest to `t`, with its frame number (R38). [log entry 21 DEDUCED] -/
def ptpNear (c : LClock) (t : Rat) : Int × Rat :=
  let k := ((t - c.offset) / c.period + 1 / 2).floor
  (k, (c.offset : Rat) + (k : Rat) * c.period)
/-- The last PTP ideal start at or before `t`, with its frame number (R38). -/
def ptpFloor (c : LClock) (t : Rat) : Int × Rat :=
  let k := ((t - c.offset) / c.period).floor
  (k, (c.offset : Rat) + (k : Rat) * c.period)
/-- Turn a line clock on (R38): FREE starts from the base value plus OFFSET, PTP from the frame in progress since the
epoch, GENLOCK waits for its first pulse. -/
def lcTurnOn (s : State) (c : LClock) : LClock :=
  let t := s.baseRat c.base
  match c.mode with
  | 1 =>
    let st := t + c.offset
    if st ≤ t then { c with live := true, armed := false, frame := 0, start := st, pend := 0 }.plan
    else { c with live := false, armed := true, frame := 0, next := st, pend := 0 }
  | 3 =>
    let (k, st) := ptpFloor c t
    { c with live := true, armed := false, frame := (k % 2 ^ 32).toNat, start := st, pend := 0 }.plan
  | _ => { c with live := false, armed := false, frame := 0, pend := 0, outRun := 0, lastPulse := t }
/-- A running PTP clock whose lattice of ideal starts or whose base reading has moved (R38, R39): its frame is the one that starts
nearest, and it realigns by the difference. -/
def ptpMoved (c : LClock) : LClock :=
  let (k, st) := ptpNear c c.start
  { c with frame := (k % 2 ^ 32).toNat, pend := st - c.start }.plan
/-- Apply the shadows of line clock `n` (R41, R42): the written settings with the timing shadows of head `n`. A RATE field
of 0 is taken as 1. A change of MODE, BASE or OFFSET of a running clock realigns it under R39, its position carried over
to the new base; in PTP mode the starts are those of R38 whatever has changed. Unless the clock stands at a frame start (`now`), the frame
in progress completes at its own rate and totals, and the next takes the new ones (R223, Table 9.3). [log entry 270 DEDUCED] -/
def lcApplyShadows (s : State) (n : Nat) (now : Bool) : State :=
  let old := s.lclock n
  let rate := (max 1 (s.fld SDL_LC_RATE_NUM n), max 1 (s.fld SDL_LC_RATE_DEN n), s.fld BST_HTIM_HTOTAL n, s.fld BST_VTIM_VTOTAL n)
  let c : LClock := { old with
    mode := s.fld SDL_LC_CFG_MODE n, base := s.fld SDL_LC_CFG_BASE n, slew := s.fld SDL_LC_CFG_SLEW n,
    tol := s.fld SDL_LC_CFG_TOL n, div := s.fld SDL_LC_CFG_DIV n,
    offset := toSigned 64 (s.fld SDL_LC_OFFSET_OFFSET n), nextRate := some rate }
  let c := if now ∨ ¬ old.live ∨ c.mode = 0 then c.takeRate else c
  if c.mode = 0 then s.putLclock n { c with live := false, armed := false, pend := 0, frame := 0 }
  else if old.mode = 0 ∨ ¬ old.live then s.putLclock n (s.lcTurnOn c)
  else
    let shift := s.baseRat c.base - s.baseRat old.base
    let c := { c with start := c.start + shift, lastPulse := c.lastPulse + shift }
    let c := if c.mode = 2 ∧ old.mode ≠ 2 then { c with lastPulse := s.baseRat c.base, outRun := 0 } else c
    if c.mode = 3 then s.putLclock n (ptpMoved c)
    else s.putLclock n { c with pend := (c.offset - old.offset : Int) + old.pend }.plan
/-- A base has jumped by `d` (in 1/16 ns): every clock on it keeps its position and realigns by the jump (R39), in PTP mode to the
nearest ideal start (R38). -/
def lcBaseJump (s : State) (b : Nat) (d : Rat) : State :=
  (List.range 4).foldl (fun s n =>
    let c := s.lclock n
    if c.mode ≠ 0 ∧ c.base = b ∧ c.live then
      let m := { c with start := c.start + d, lastPulse := c.lastPulse + d, pend := c.pend - d }
      s.putLclock n (if c.mode = 3 then ptpMoved m else m.plan)
    else s) s
/-- Whether line clock `n` has reached its next frame start (R37). -/
def lcDue (s : State) (n : Nat) : Bool :=
  let c := s.lclock n
  c.mode ≠ 0 ∧ (c.live ∨ c.armed) ∧ ¬ s.headPaced n ∧ c.next ≤ s.baseRat c.base
/-- Start the next frame of line clock `n` (R37, R39): F increments, the frame starts at its ideal start, and what the
ended frame absorbed leaves the pending realignment. `at_` is the start: `next`, or the instant the head supplies. -/
def lcAdvance (s : State) (n : Nat) (at_ : Rat) : State :=
  let c := s.lclock n
  if c.live then
    let d := { c with frame := (c.frame + 1) % 2 ^ 32, start := at_, pend := c.pend - (c.absorb c.pend).2 }.takeRate
    s.putLclock n (if c.mode = 3 ∧ c.nextRate.isSome then ptpMoved d else d.plan)
  else s.putLclock n { c with live := true, armed := false, frame := 0, start := at_, pend := 0 }.plan
/-- Position `a` is at or past position `b`, frames by serial arithmetic (R43). -/
def posReached (cur tgt : Nat × Nat × Nat) : Bool :=
  if cur.1 = tgt.1 then decide (tgt.2.1 < cur.2.1 ∨ (tgt.2.1 = cur.2.1 ∧ tgt.2.2 ≤ cur.2.2))
  else decide (2 ^ 31 ≤ (tgt.1 + 2 ^ 32 - cur.1 % 2 ^ 32) % 2 ^ 32)
/-- The instant of a position on line clock `n`, in 1/16 ns of its base, by the formulas of R37; a frame to come on a clock whose head
supplies the frame starts is counted as one that starts after frames of VT_MIN lines (R203). -/
def posTime (s : State) (n : Nat) (p : Nat × Nat × Nat) : Rat :=
  let c := s.lclock n
  let df : Int := toSigned 32 ((p.1 + 2 ^ 32 - c.frame) % 2 ^ 32)
  let per := if 0 < df ∧ s.headPaced n then (((s.scanSet n).vtmin : Nat) : Rat) * c.line else c.period
  c.start + (df : Rat) * per + (p.2.1 : Rat) * c.line + (p.2.2 : Rat) * c.line / (max 1 c.htotal : Nat)

/-! Steps, loads and holdover (R29-R33). -/

/-- Count a discarded INC, STEP or LOAD write. -/
def tbDiscard (s : State) (n : Nat) : State := s.addSat SDL_TB_STAT_DISCARDS 1 n
/-- A base that takes a write of INC, STEP or LOAD in this tick: the first of a tick keeps what stood before it (R32). -/
def tbNoted (s : State) (n : Nat) : TBase :=
  let t := s.tbase n
  if t.wTick = s.tick then { t with wN := t.wN + 1 }
  else { t with wTick := s.tick, wN := 1, incOld := s.fld SDL_TB_INC_INC n, armOld := t.arm, armOldTick := t.armTick }
/-- HOLDOVER becomes 1 on base `n` (R33): it is applied before what was written in the same tick, and every write of that tick is
discarded and counted (R32). -/
def setHoldover (s : State) (n : Nat) : State :=
  let t := s.tbase n
  let s := if t.wTick = s.tick ∧ t.wN ≠ 0 then
      let u := s.setTbase n { t with arm := t.armOld, armTick := t.armOldTick, wN := 0 }
      ((u.setFld SDL_TB_CTRL_LOAD (match t.armOld with | .load _ => 1 | _ => 0) n).setFld SDL_TB_INC_INC t.incOld n).addSat
        SDL_TB_STAT_DISCARDS t.wN n
    else s
  let s := s.raise SDL_TB_STAT_HOLDOVER n
  s.alarm (0x08 + n - 1) 0x0602
/-- A write of INC (R29, R33): discarded and counted out of range or in holdover; read-only in TB0. -/
def tbIncWrite (s : State) (n v : Nat) : State :=
  if n = 0 then s
  else if s.on SDL_TB_STAT_HOLDOVER n ∨ v < 0x100000000 ∨ 0x2FFFFFFFF < v then s.tbDiscard n
  else
    let s := (s.setTbase n (s.tbNoted n)).setFld SDL_TB_INC_INC v n
    { s with sdl := { s.sdl with pairDue := true } }
/-- A write of STEP (R30, R32, R33): armed for the next tick; discarded beside a load of the same tick and in holdover. -/
def tbStepWrite (s : State) (n v : Nat) : State :=
  if s.on SDL_TB_STAT_HOLDOVER n then s.tbDiscard n
  else match (s.tbase n).arm with
  | .load _ => s.tbDiscard n
  | _ => s.setTbase n { s.tbNoted n with arm := .step (toSigned 64 v), armTick := s.tick }
/-- LOAD set (R30, R32, R33): the loaded value is armed for the next tick; NS above 999,999,999 is discarded. -/
def tbLoad (s : State) (n : Nat) : State :=
  let ns := s.fld SDL_TB_LOAD_NSS_NS n
  if s.on SDL_TB_STAT_HOLDOVER n ∨ 999999999 < ns then s.tbDiscard n
  else
    let v := (s.fld SDL_TB_LOAD_SEC_SEC n * 1000000000 + ns) * 2 ^ 32 + s.fld SDL_TB_LOAD_NSS_SUB n * 2 ^ 28
    let t := s.tbNoted n
    let s := match (s.tbase n).arm with
      | .step _ => s.tbDiscard n
      | _ => s
    let own : Nat := match t.arm with | .step _ => (if t.armTick = s.tick then 1 else 0) | _ => 0
    (s.setTbase n { t with arm := .load v, armTick := s.tick, wN := t.wN - own }).setFld SDL_TB_CTRL_LOAD 1 n
/-- The value an armed step or load would give, and its jump, both in 2^-32 ns (R30). -/
def tbTarget (t : TBase) : Int × Nat :=
  match t.arm with
  | .none => (t.val, 0)
  | .step d => ((t.val : Int) + d * 2 ^ 28, d.natAbs * 2 ^ 28)
  | .load v => (v, ((v : Int) - t.val).natAbs)
/-- Copy base `n` into its snapshot registers (R46); a step or load that takes effect later in the tick is captured as well.
[log entry 17 DEDUCED] -/
def tbCapture (s : State) (n : Nat) : State :=
  let v := s.tb16 n
  let s := s.setTbase n { s.tbase n with capAt := some s.tick }
  let s := s.setFld SDL_TB_SNAP_SEC_SEC (v / sixteenths % 2 ^ 48) n
  let s := s.setFld SDL_TB_SNAP_NSS_NS (v % sixteenths / 16) n
  s.setFld SDL_TB_SNAP_NSS_SUB (v % 16) n
/-- A step or load takes effect on base `n` (R381): what its PTP instance has stamped in this tick carries the value after it, and the set
that contains it is STEPPED. [log entry 289 DEDUCED] -/
def ptpRestamp (s : State) (n : Nat) : State :=
  let x := s.eth.ptp.get {} n
  let a := x.t2.isSome && x.t2At == s.tick
  let b := x.t3.isSome && x.t3At == s.tick
  let y := { x with t2 := if a then some (s.tb16 n) else x.t2, t3 := if b then some (s.tb16 n) else x.t3, stepped := true }
  if a || b then { s with eth := { s.eth with ptp := s.eth.ptp.set {} n y } } else s
/-- The armed step or load of base `n` at its tick (R31): accepted or refused. -/
def tbApply (s : State) (n : Nat) : State :=
  let t := s.tbase n
  let (v, jump) := tbTarget t
  let unset := s.on SDL_TB_CTRL_UNSET n
  let ok := n ≠ 0 ∧ (unset ∨ s.on SDL_TB_CTRL_OVR n ∨ jump ≤ s.fld SDL_TB_JLIM_JLIM n * 2 ^ 32)
  let s := (s.setFld SDL_TB_CTRL_OVR 0 n).setFld SDL_TB_CTRL_LOAD 0 n
  if ok then
    let nv := (v % (tbMod : Int)).toNat
    let s := s.setTbase n { t with val := nv, arm := .none, stepAt := some s.tick, refused := false }
    let s := s.setFld SDL_TB_CTRL_UNSET 0 n
    let s := if t.capAt = some s.tick then s.tbCapture n else s
    let s := s.ptpRestamp n
    (s.lcBaseJump n (((nv / 2 ^ 28 : Nat) : Int) - ((t.val / 2 ^ 28 : Nat) : Int) : Int)).takePair
  else
    let s := s.setTbase n { t with arm := .none, refused := true }
    let s := s.raise SDL_TB_STAT_JUMP_REFUSED n
    let s := s.setFld SDL_TB_LAST_REF_JUMP (min (jump / 2 ^ 28) (2 ^ 63 - 1)) n
    s.alarm n 0x0601
/-- A write of CAPT bits: every selected base is captured in one tick (R46). -/
def tbCaptureMask (s : State) (mask : Nat) : State :=
  (List.range 8).foldl (fun s n => if bit mask n then s.tbCapture n else s) s

/-! Genlock (R40). -/

/-- GENLOCK_LOST on line clock `n`: the bit and its alarm. -/
def genlockLost (s : State) (n : Nat) : State :=
  if s.on SDL_LC_STAT_GENLOCK_LOST n then s
  else (s.raise SDL_LC_STAT_GENLOCK_LOST n).alarm (0x0C + n) 0x0603
/-- A GENLOCK_IN rising edge at line clock `n` (R38, R40). The first pulse sets the first ideal start, at which the clock starts its
first frame; a later one whose
phase error exceeds TOL lines is an outlier, and the third in a row loses genlock; one in tolerance realigns the clock. -/
def genlockPulse (s : State) (n : Nat) : State :=
  let c := s.lclock n
  if c.mode ≠ 2 then s
  else
    let t := s.baseRat c.base
    let st := t + c.offset
    if ¬ c.live then s.putLclock n { c with lastPulse := t, outRun := 0, armed := true, next := st, pend := 0 }
    else
      let k := ((st - c.start - c.pend) / c.period + 1 / 2).floor
      let e := st - (c.start + c.pend + (k : Rat) * c.period)
      let a := if e < 0 then -e else e
      if (c.tol : Rat) * c.line < a then
        let s := s.addSat SDL_LC_STAT_OUTLIERS 1 n
        let s := s.setLclock n { c with outRun := c.outRun + 1 }
        if 3 ≤ c.outRun + 1 then s.genlockLost n else s
      else s.putLclock n ({ c with lastPulse := t, outRun := 0 }.realign e)
end State
end Sys2Proof.Machine
end

