-- ==== Sys2Proof/Machine/Par.lean ====
section
/-! DEFINITION. The Parterre's numbering (R13, R80, R81), its programs, banks and contexts: the shared readings and
updates of the fabric. -/
namespace Sys2Proof.Machine
open Sys2Proof
/-- Key of a program: 256 × plot + stage, stage 255 for the conductor. [log entry 15 DEDUCED] -/
def progKey (p st : Nat) : Nat := 256 * p + st
def condKey (p : Nat) : Nat := progKey p 255
/-- The plot of a program key, and its stage (255 for a conductor). -/
def keyPlot (k : Nat) : Nat := k / 256
def keyStage (k : Nat) : Nat := k % 256
def isCond (k : Nat) : Bool := keyStage k == 255
namespace State
/-! Numbering. -/

/-- The columns of a physical row that PTR_SPARE_ROW does not mark FAILED, rising (R13). -/
def workingCols (s : State) (r : Nat) : List Nat :=
  (List.range 13).filter (fun c => !bit (s.fld PTR_SPARE_ROW_FAILED r) c)
/-- The physical pavilion of a logical one (R13); none when unhomed. -/
def phys (s : State) (q : Nat) : Option Nat :=
  (s.workingCols (q / 12))[q % 12]?.map (fun c => 13 * (q / 12) + c)
/-- The plot of a logical pavilion in effect, as plot + 1; 0 for none (R80, R82). -/
def memberOf (s : State) (q : Nat) : Nat := s.par.member.get 0 q
/-- The logical pavilions of a plot, rising: its stages (R81). -/
def members (s : State) (p : Nat) : List Nat := (List.range 144).filter (fun q => s.memberOf q == p + 1)
/-- N_p, the plot's membership count. -/
def nMembers (s : State) (p : Nat) : Nat := (s.members p).length
/-- The logical pavilion of a stage. -/
def stageLog (s : State) (p st : Nat) : Option Nat := (s.members p)[st]?
/-- The physical pavilion of a stage. -/
def stagePhys (s : State) (p st : Nat) : Option Nat := (s.stageLog p st).bind s.phys
/-- The physical pavilions of a plot. -/
def plotPavs (s : State) (p : Nat) : List Nat := (s.members p).filterMap s.phys
end State
/-- Mesh quadrant of a logical pavilion (R115). -/
def quadrant (q : Nat) : Nat := (if q / 12 < 6 then 0 else 2) + (if q % 12 < 6 then 0 else 1)
/-- Mesh time between two pavilions, in fc (R115). -/
def meshPav (a b : Nat) : Nat := if quadrant a = quadrant b then 16 else 24
/-- Mesh time between a pavilion and the frame store or a Belvedere engine; and to a plot controller (R115). [log entry 96 DEDUCED] -/
def meshBel : Nat := 24
def meshPlot : Nat := 20
namespace State
/-! Programs, plots, slots, contexts. -/

def prog (s : State) (k : Nat) : Prog := s.par.prog.get {} k
def setProg (s : State) (k : Nat) (g : Prog) : State := { s with par := { s.par with prog := s.par.prog.set {} k g } }
def plot (s : State) (p : Nat) : Plot := s.par.plot.get {} p
def setPlot (s : State) (p : Nat) (g : Plot) : State := { s with par := { s.par with plot := s.par.plot.set {} p g } }
def slot (s : State) (p j : Nat) : Slot := s.par.slot.get {} (16 * p + j)
def setSlot (s : State) (p j : Nat) (g : Slot) : State :=
  { s with par := { s.par with slot := s.par.slot.set {} (16 * p + j) g } }
def chan (s : State) (k : Nat) : Chan := s.par.chan.get {} k
def setChan (s : State) (k : Nat) (g : Chan) : State := { s with par := { s.par with chan := s.par.chan.set {} k g } }
def wkt (s : State) (w : Nat) : Wicket := s.par.wkt.get {} w
def setWkt (s : State) (w : Nat) (g : Wicket) : State := { s with par := { s.par with wkt := s.par.wkt.set {} w g } }
def ctx (s : State) (c : Nat) : Ctx := s.par.ctx.get {} c
def setCtx (s : State) (c : Nat) (g : Ctx) : State := { s with par := { s.par with ctx := s.par.ctx.set {} c g } }
/-- The slot that holds a plot, if any (R272, PLT_RUN). -/
def running (s : State) (p : Nat) : Option Nat :=
  if s.on PLT_RUN_VALID p then some (s.fld PLT_RUN_SLOT p) else none
/-- Make slot `j` hold the plot, or none. -/
def setRunning (s : State) (p : Nat) (j : Option Nat) : State :=
  match j with
  | some j => (s.setFld PLT_RUN_SLOT j p).setFld PLT_RUN_VALID 1 p
  | none => (s.setFld PLT_RUN_SLOT 0 p).setFld PLT_RUN_VALID 0 p
/-- The context of the slot that holds a plot; 0 when none does. -/
def plotCtx (s : State) (p : Nat) : Nat :=
  match s.running p with
  | some j => (s.slot p j).ctx
  | none => 0
/-- Context states (R268): 0 FREE, 1 ACTIVE, 2 TEARING, 3 FENCING. -/
def ctxState (s : State) (c : Nat) : Nat := s.fld PTR_CTX_CTRL_STATE c
def ctxActive (s : State) (c : Nat) : Bool := s.ctxState c == 1
/-- CGEN of a context (R270). -/
def cgen (s : State) (c : Nat) : Nat := s.fld PTR_CTX_CTRL_CGEN c
/-- The keys of a plot's programs: its stages and its conductor. -/
def progKeys (s : State) (p : Nat) : List Nat :=
  (List.range (s.plot p).stages).map (progKey p) ++ [condKey p]
/-- Plot states (R266): 0 OFF, 1 STARTING, 2 ON, 3 STOPPING. -/
def plotState (s : State) (p : Nat) : Nat := s.fld PLT_STAT_STATE p
/-- Whether a plot's line clock is OFF (R83). -/
def plotLcOff (s : State) (p : Nat) : Bool := (s.lclock (s.fld PLT_CTRL_LC p)).mode == 0

/-- Whether a slot counts as RT: with the line clock OFF, and from then to the next frame start, every RT slot is taken as BE of
WEIGHT 1 (R83). -/
def isRt (s : State) (p j : Nat) : Bool := (s.slot p j).rt && !s.plotLcOff p && !(s.plot p).rtHeld

/-! Banks and segments (R20-R22). -/

def tagOf (s : State) (b : Nat) : Nat := s.par.tag.get 0 b
def fullOf (s : State) (b : Nat) : Bool := s.par.full.get false b
def setFull (s : State) (b : Nat) (v : Bool) : State := { s with par := { s.par with full := s.par.full.set false b v } }
def markOf (s : State) (b : Nat) : Bool := s.par.mark.get false b
def hdrOf (s : State) (b : Nat) : Option Hdr := s.par.hdr.get none b
/-- Memory that a bank or segment key names: address and size. -/
def storeOf (b : Nat) : Nat × Nat :=
  if b < 100000 then (bankAddr (b / 24) (b % 24), 0x10000) else (segAddr (b - 100000), 0x40000)
/-- Wipe a bank or segment (R21): contents zero, EMPTY, no written mark or header, tag advanced by 1 modulo 4096. -/
def wipeStore (s : State) (b : Nat) : State :=
  let (a, n) := storeOf b
  { s with mem := wipeRun s.mem a n,
           par := { s.par with full := s.par.full.set false b false, mark := s.par.mark.set false b false,
                               hdr := s.par.hdr.set none b none, lbuf := s.par.lbuf.set none b none,
                               tag := s.par.tag.set 0 b ((s.tagOf b + 1) % 4096) } }
/-- Wipe the 24 banks of a physical pavilion. -/
def wipePav (s : State) (p : Nat) : State :=
  let s := ((List.range 24).foldl (fun s b => s.wipeStore (bankKey p b)) s).setFld PAV_LBUF_BANKS 0 p
  { s with par := { s.par with win := s.par.win.erase p } }
/-- The banks that are held as line buffer in a pavilion. -/
def lbufHeld (s : State) (p : Nat) : List Nat := (List.range 24).filter (fun b => bit (s.fld PAV_LBUF_BANKS p) b)
/-- The banks hold line-buffer contents of the window engine, which carry no meaning: free bytes (R148). -/
def lbufFill (s : State) (p : Nat) (bs : List Nat) : State :=
  if bs.isEmpty then s
  else
    { s with freeN := s.freeN + 1
             par := { s.par with lbuf := bs.foldl (fun t b => t.set none (bankKey p b) (some s.freeN)) s.par.lbuf } }
/-- Show the line-buffer banks that a program's command holds in its pavilion (R147, R148, R166). [log entry 125 DEDUCED] -/
def showLbuf (s : State) (k : Nat) (bs : List Nat) : State :=
  match s.stagePhys (keyPlot k) (keyStage k) with
  | some p =>
    let s := s.lbufFill p (bs ++ s.lbufHeld p)
    let s := s.setFld PAV_LBUF_BANKS (bs.foldl (fun a b => a + 2 ^ b) 0) p
    s.setHw PAV_LBUF_PEAK (max (s.fld PAV_LBUF_PEAK p) bs.length) (max (s.landed PAV_LBUF_PEAK p 0) bs.length) p
  | none => s
/-- The control-state keys a range of device memory touches, empty outside banks and segments. -/
def storeKeys (a n : Nat) : List Nat :=
  if n = 0 then []
  else if pavBase ≤ a ∧ a < pavBase + 156 * 0x200000 then
    let o := a - pavBase
    let first := (o % 0x200000) / 0x10000
    let last := ((o + n - 1) % 0x200000) / 0x10000
    (List.range (last + 1 - first)).map (fun i => bankKey (o / 0x200000) (first + i))
  else if fsBase ≤ a ∧ a < fsBase + 0x6000000 then
    let o := a - fsBase
    (List.range ((o + n - 1) / 0x40000 + 1 - o / 0x40000)).map (fun i => segKey (o / 0x40000 + i))
  else []
/-- STALE_TAG: a dropped write or a read with an old tag (R20, R22, R270); a status count to which no chapter gives a
code number, kept under key 0. [log entry 90 DESIGN CHOICE] -/
def staleTag (s : State) (n : Nat := 1) : State := s.bump 0 0 n
/-- The part of a run of bytes that lies in the bank or segment of a key: its address and its bytes. -/
def storePart (a : Nat) (bs : List Byte) (k : Nat) : Nat × List Byte :=
  let (b, n) := storeOf k
  (max a b, (bs.drop (b - a)).take (min (a + bs.length) (b + n) - max a b))
/-- The tag that a write carries for a bank or segment is not the one it has now (R20). -/
def tagOld (s : State) (tags : List (Nat × Nat)) (k : Nat) : Bool :=
  match tags.find? (fun t => t.1 == k) with
  | some t => t.2 != s.tagOf k
  | none => false
/-- Write with a generation tag per store (R20): the bytes for a bank or segment whose tag has moved on are dropped, those for any other
are written. -/
def taggedPut (s : State) (tags : List (Nat × Nat)) (a : Nat) (bs : List Byte) : State :=
  let ks := storeKeys a bs.length
  if ks.any (s.tagOld tags) then
    ks.foldl (fun s k => if s.tagOld tags k then s.staleTag else s.putBytes (storePart a bs k).1 (storePart a bs k).2) s
  else s.putBytes a bs
/-- A write to LPDDR on behalf of a context (R270): dropped and counted as STALE_TAG when `gen` is not the context's
CGEN. -/
def ctxPut (s : State) (c gen : Nat) (a : Nat) (bs : List Byte) : State :=
  if gen = s.cgen c then s.lpPut a bs else s.staleTag
/-- The same for a writer that does not wait itself while LPDDR is not served (R392). -/
def ctxWrite (s : State) (c gen : Nat) (a : Nat) (bs : List Byte) : State :=
  if s.trained then s.ctxPut c gen a bs else s.lpWait (.put (some (c, gen)) a bs)
end State

/-! The activity bucket (R249). -/

/-- One fc of a bucket that holds `v`: each draw with body fc left takes its weight, or stalls where the bucket holds less; with the
stalls of each. The compute slot draws first. -/
def drawFc (v : Nat) : List (Draw × Nat) → Nat × List (Draw × Nat)
  | [] => (v, [])
  | (d, n) :: t =>
    if d.left = 0 then let r := drawFc v t; (r.1, (d, n) :: r.2)
    else if d.weight ≤ v then let r := drawFc (v - d.weight) t; (r.1, ({ d with left := d.left - 1 }, n) :: r.2)
    else let r := drawFc v t; (r.1, (d, n + 1) :: r.2)
/-- `n` fc of a bucket: each refills it by `b` up to `cap` and then serves its draws. -/
def bucketRun (b cap : Nat) : Nat → Nat × List (Draw × Nat) → Nat × List (Draw × Nat)
  | 0, x => x
  | n + 1, (v, ds) =>
    if ds.all (fun d => d.1.left == 0) then (min cap (v + (n + 1) * b), ds)
    else bucketRun b cap n (drawFc (min cap (v + b)) ds)
namespace State
/-- Whether the command of a draw is still in its slot. -/
def drawLive (s : State) (d : Draw) : Bool :=
  (s.prog d.prog).cmds.any (fun c => c.seq == d.seq && c.phase != .dispatched && c.firedAt == d.fired)
/-- A command stalls for `n` fc (R249): it commits later by as much, and STAT counter 0x03 of its program counts them. -/
def stallCmd (s : State) (x : Draw × Nat) : State :=
  let g := s.prog x.1.prog
  if x.2 = 0 then s
  else s.setProg x.1.prog { g with
    stalls := g.stalls + x.2,
    cmds := g.cmds.map (fun c => if c.seq = x.1.seq then { c with due := c.due + x.2, stall := c.stall + x.2 } else c) }
/-- Bring the bucket of a logical pavilion, in 1/16 units, to the current fc (R249). [log entry 43 DEDUCED] -/
def settle (s : State) (q : Nat) : State :=
  let (b, cap) := s.par.budget.get (0xA0, 0x1000) q
  let live := (s.par.draws.get [] q).filter s.drawLive
  let (v, ds) := bucketRun b (cap * 16) (s.fc - s.par.bucketAt.get 0 q) (s.par.bucket.get 0 q, live.map (fun d => (d, 0)))
  ds.foldl stallCmd { s with par := { s.par with
    bucket := s.par.bucket.set 0 q v, bucketAt := s.par.bucketAt.set 0 q s.fc,
    draws := s.par.draws.set [] q ((ds.map (fun x => x.1)).filter (fun d => d.left != 0)) } }
/-- Every bucket on which a command draws is settled. -/
def settleAll (s : State) : State := (s.par.draws.map (fun x => x.1)).foldl settle s
/-- The bucket of a logical pavilion is set to CAP (R249). -/
def fillBucket (s : State) (q : Nat) : State :=
  let s := s.settle q
  { s with par := { s.par with bucket := s.par.bucket.set 0 q ((s.par.budget.get (0xA0, 0x1000) q).2 * 16) } }
/-- A logical pavilion samples BUDGET and CAP (R249). -/
def sampleBucket (s : State) (q : Nat) : State :=
  let s := s.settle q
  { s with par := { s.par with budget := s.par.budget.set (0xA0, 0x1000) q (max 1 (s.fld PWR_BUDGET_BUDGET), s.fld PWR_BUDGET_CAP) } }

/-! The plot generation (R84, R330). -/

/-- Charge the running slot's context for the fc since the last charge (R271). [log entry 126 DEDUCED] -/
def charge (s : State) (p : Nat) : State :=
  let g := s.plot p
  let now := s.fc
  let s := s.setPlot p { g with chargedAt := now }
  match s.running p with
  | none => s
  | some j =>
    let d := now - g.chargedAt
    let sl := s.slot p j
    let s := s.addSat PTR_CTX_PCYC_COUNT (d * s.nMembers p) sl.ctx
    if s.isRt p j then s
    else s.setSlot p j { sl with v := sl.v + d * s.nMembers p * (65536 / (if sl.rt then 1 else sl.weight)) }
/-- The committed queue pointer of a program shown in PLT_QPTR and PLT_STEP, or in PAV_QPTR and PAV_STEP (R104, R110). -/
def showPtr (s : State) (k : Nat) : State :=
  let g := s.prog k
  if isCond k then (s.wr .PLT_QPTR g.qpc (keyPlot k)).wr .PLT_STEP g.qstep (keyPlot k)
  else match s.stagePhys (keyPlot k) (keyStage k) with
  | some p => (s.wr .PAV_QPTR g.qpc p).wr .PAV_STEP g.qstep p
  | none => s
end State
end Sys2Proof.Machine
end

