-- ==== Sys2Proof/Machine/Zlink.lean ====
section
/-! DEFINITION. Zhevlink's links and routes (R293-R304): sending by destination, reachability and the acting anchor, tag
fences (R309, R330), and the cross-cut wickets and proxies (R307, R311). -/
namespace Sys2Proof.Machine
open Sys2Proof
/-- Class of a frame (Table 12.2): 0 control, 1 time, 2 sync, 3 bulk. -/
def zclass : ZKind → Nat
  | .hello | .ack | .nak | .lstate => 0
  | .tsync => 1
  | .haloReq | .haloData | .haloBusy | .haloRefused | .haloAck => 3
  | _ => 2
/-- TYPE of a frame (Table 12.2); the BUSY and REFUSED answers to a HALO go as HALO_DATA. [log entry 275 DEDUCED] -/
def ztype : ZKind → Nat
  | .hello => 0x01 | .ack | .nak => 0x02 | .lstate => 0x03
  | .haloReq => 0x10 | .haloData | .haloBusy | .haloRefused => 0x11 | .haloAck => 0x12
  | .wsig => 0x20 | .waitReq => 0x21 | .waitDone => 0x22 | .waitCancel => 0x23
  | .arrive => 0x30 | .release => 0x31 | .fence => 0x40 | .fenceAck => 0x41 | .tsync => 0x50
  | .rejoinReq => 0x60 | .rejoinGrant => 0x61 | .rejoinFrame | .other => 0
/-- The payload of a frame: its numbers, eight bytes each, then its bytes. [log entry 177 DESIGN CHOICE] -/
def zpay (f : ZFrame) : List Byte := f.args.flatMap (leBytes 8) ++ f.payload
/-- The 536 bytes of a frame on the wire (R295, Table 12.1): header, payload padded to 512 bytes, CRC-64 over both.
[log entry 275 DEDUCED] -/
def zwire (lseq : Nat) (f : ZFrame) : List Byte :=
  let p := zpay f
  let b := leBytes 1 (ztype f.kind) ++ leBytes 1 (f.src % 32) ++ leBytes 1 (f.dst % 32) ++ leBytes 1 f.ttl ++ leBytes 2 lseq
    ++ leBytes 2 (f.tag % 4096) ++ leBytes 4 f.eseq ++ leBytes 2 p.length ++ leBytes 2 0 ++ p ++ List.replicate (512 - p.length) 0
  b ++ leBytes 8 (crc64 b)
/-- Frames that a content of numbers and bytes takes (R295): 512 bytes each. -/
def zcount (args : List Nat) (payload : List Byte) : Nat := max 1 (cdiv (8 * args.length + payload.length) 512)
/-- A content as frames of at most 512 bytes of payload, with rising ESEQ (R295). -/
def zsplit (f : ZFrame) : List ZFrame :=
  let a := 512 - 8 * f.args.length
  { f with payload := f.payload.take a } :: (List.range (zcount f.args f.payload - 1)).map (fun i =>
    { f with args := [], payload := (f.payload.drop (a + 512 * i)).take 512, eseq := (f.eseq + i + 1) % 2 ^ 32 })
/-- Frames that carry an LSEQ and are sent again (R296): all but the acknowledgements themselves. -/
def znumbered (k : ZKind) : Bool := k != .ack && k != .nak
/-- Queue a frame for a link (R304): in class order, in arrival order within a class; a FENCE behind every earlier frame. -/
def zqueue (q : List ZFrame) (f : ZFrame) : List ZFrame :=
  if f.kind = .fence then q ++ [f]
  else
    let n := (q.reverse.takeWhile (fun g => decide (zclass f.kind < zclass g.kind))).length
    q.take (q.length - n) ++ [f] ++ q.drop (q.length - n)
/-- Numbers of the bits set in a 32-bit mask. -/
def maskBits (m : Nat) : List Nat := (List.range 32).filter (fun i => bit m i)
namespace State
def zlink (s : State) (l : Nat) : ZLink := s.zhl.link.get {} l
def setZlink (s : State) (l : Nat) (x : ZLink) : State := { s with zhl := { s.zhl with link := s.zhl.link.set {} l x } }
/-- GSTATE: 0 NONE, 1 GROUP, 2 ISLAND, 3 REJOINING; REJOINING counts as ISLAND (Table 19.3). -/
def gstate (s : State) : Nat := s.fld ZHL_GRP_STAT_GSTATE
def islanded (s : State) : Bool := s.gstate == 2 || s.gstate == 3
/-- A link carries frames (R298): ON and UP. [log entry 178 DEDUCED] -/
def linkUp (s : State) (l : Nat) : Bool := s.fld ZHL_LNK_CTRL_STATE l == 2 && s.fld ZHL_LNK_CTRL_LSTATE l == 2
def upLinks (s : State) : List Nat := (List.range 8).filter s.linkUp
/-- Link `l` leads to chip `d` (R301): it is up, and its neighbour is `d` or reports `d` reachable. -/
def leadsTo (s : State) (l d : Nat) : Bool :=
  s.linkUp l && (s.fld ZHL_LNK_CTRL_NBR_CHIP l == d || bit (s.zlink l).reach d)
/-- The link by which frames to chip `d` leave, with whether it is the alternate (R301). -/
def routeTo (s : State) (d : Nat) : Option (Nat × Bool) :=
  if s.on ZHL_ROUTE_PV d ∧ s.leadsTo (s.fld ZHL_ROUTE_PRI d) d then some (s.fld ZHL_ROUTE_PRI d, false)
  else if s.on ZHL_ROUTE_AV d ∧ s.leadsTo (s.fld ZHL_ROUTE_ALT d) d then some (s.fld ZHL_ROUTE_ALT d, true)
  else none
/-- The quad macro of links 2q and 2q + 1 is powered (R293). -/
def quadOn (s : State) (q : Nat) : Bool := s.fld ZHL_LNK_CTRL_STATE (2 * q) != 0 || s.fld ZHL_LNK_CTRL_STATE (2 * q + 1) != 0
/-- A frame leaves on a link under the next LSEQ (R296, R297): it stays in the retry buffer until acknowledged; during a lane swap it is
held there. -/
def putNow (s : State) (l : Nat) (f : ZFrame) : State :=
  let x := s.zlink l
  let s := s.setZlink l { x with lseq := (x.lseq + 1) % 65536, retry := x.retry ++ [(x.lseq, f)] }
  if x.swap.isSome then s else s.emit (.zhl l x.lseq f (zwire x.lseq f))
/-- Put a frame on a link (R296): acknowledgements leave unnumbered; another waits while the retry buffer holds 256 frames. -/
def putFrame (s : State) (l : Nat) (f : ZFrame) : State :=
  let x := s.zlink l
  if ¬ znumbered f.kind then s.emit (.zhl l 0 f (zwire 0 f))
  else if 256 ≤ x.retry.length ∨ x.wait ≠ [] then s.setZlink l { x with wait := zqueue x.wait f }
  else s.putNow l f
/-- Room in the retry buffer lets waiting frames leave. -/
def linkRefill (s : State) (l : Nat) : State :=
  let x := s.zlink l
  let n := 256 - x.retry.length
  (x.wait.take n).foldl (fun s f => s.putNow l f) (s.setZlink l { x with wait := x.wait.drop n })
/-- Route a frame; one whose destination is unreachable waits for a route. -/
def routeFrame (s : State) (f : ZFrame) : State :=
  match s.routeTo f.dst with
  | some (l, _) =>
    let s := if s.zhl.fwd.contains (f.src, l) then s else { s with zhl := { s.zhl with fwd := s.zhl.fwd ++ [(f.src, l)] } }
    s.putFrame l f
  | none => { s with zhl := { s.zhl with held := s.zhl.held ++ [f] } }
/-- Send a frame of this chip (Table 12.1). -/
def zsend (s : State) (dst : Nat) (kind : ZKind) (tag : Nat) (args : List Nat) (payload : List Byte) : State :=
  let key := 32 * zclass kind + dst
  let e := s.zhl.eseq.get 0 key
  let s := { s with zhl := { s.zhl with eseq := s.zhl.eseq.set 0 key ((e + zcount args payload) % 2 ^ 32) } }
  (zsplit ⟨kind, s.zhl.chip, dst, 32, tag, e, args, payload⟩).foldl routeFrame s
/-- A count of ISLAND_REFUSED, XCUT_DROP or ROUTE_LOOP. -/
def zrefused (s : State) (code : Nat) : State := (s.bump code).addSat ZHL_GRP_CNT_IREFUSED 1
/-- Forward a frame for another chip (R301): TTL goes down; at 0 it is dropped as ROUTE_LOOP. [log entry 284 DEDUCED] -/
def zforward (s : State) (f : ZFrame) : State :=
  if f.ttl ≤ 1 then s.zrefused 0x080C else (zsplit { f with ttl := f.ttl - 1 }).foldl routeFrame s
/-- Send the frames that waited for a route, in class order (R304). -/
def sendHeld (s : State) : State :=
  let fs := s.zhl.held.foldl zqueue []
  fs.foldl routeFrame { s with zhl := { s.zhl with held := [] } }
/-- The frame that says hello on a link, and the link-state flood (R301, R303). -/
def helloFrame (s : State) (l : Nat) : ZFrame :=
  ⟨.hello, s.zhl.chip, s.fld ZHL_LNK_CTRL_NBR_CHIP l, 32, 0, 0, [s.zhl.chip, s.zhl.gid, l, s.fld ZHL_GRP_STAT_REACH], []⟩
/-- The chips known to be in GROUP, this one included. -/
def groupKnown (s : State) : Nat := if s.gstate = 1 then setBits s.zhl.group s.zhl.chip 1 1 else setBits s.zhl.group s.zhl.chip 1 0
def floodState (s : State) : State :=
  s.upLinks.foldl (fun s l =>
    s.putFrame l ⟨.lstate, s.zhl.chip, s.fld ZHL_LNK_CTRL_NBR_CHIP l, 32, 0, 0, [s.fld ZHL_GRP_STAT_REACH, s.groupKnown], []⟩) s
/-- The configured anchor: the lowest member with AAUTO, else ANCHOR (R300). -/
def confAnchor (s : State) : Nat := if s.zhl.aauto then (maskBits s.zhl.members).headD 0 else s.zhl.anchor
/-- The reachable members, this chip included. -/
def reachSet (s : State) : List Nat :=
  (maskBits s.zhl.members).filter (fun c => c == s.zhl.chip || bit (s.fld ZHL_GRP_STAT_REACH) c)
/-- Whether this side keeps the canvas (R310, rules 1 and 2). -/
def keepsCanvas (s : State) : Bool :=
  let n := (maskBits s.zhl.members).length
  let r := s.reachSet
  n < 2 * r.length || (2 * r.length == n && r.contains s.confAnchor)
/-- An acting anchor is reachable (R300): the configured one, or that of a side that keeps the canvas. [log entry 283 DEDUCED] -/
def anchorReached (s : State) : Bool := s.keepsCanvas || s.reachSet.contains s.confAnchor
/-- A formation is possible (R314): in ISLAND and never in GROUP, with a side that keeps the canvas and has no chip in GROUP. -/
def mayForm (s : State) : Bool :=
  s.gstate == 2 && !s.zhl.reached && s.keepsCanvas && s.reachSet.all (fun c => !bit s.zhl.group c)
/-- The acting anchor (R300); a side that reaches none shows its lowest chip. [log entry 283 DEDUCED] -/
def actingAnchor (s : State) : Nat :=
  let r := s.reachSet
  if r.contains s.confAnchor then s.confAnchor else r.headD s.zhl.chip
/-- Recompute routes, reachability and the acting anchor (R301, R308, R310, R313); a change is flooded. [log entry 190 DEDUCED] -/
def reachUpdate (s : State) : State :=
  let oldReach := s.fld ZHL_GRP_STAT_REACH
  let oldAct := s.fld ZHL_GRP_STAT_ACTING
  let oldUse := (List.range 32).map (fun d => s.fld ZHL_ROUTE_USING d)
  let s := (List.range 32).foldl (fun s d =>
    if d = s.zhl.chip then s
    else match s.routeTo d with
    | some (_, a) => (s.setFld ZHL_ROUTE_USING (b2n a) d).setFld ZHL_ROUTE_UNREACH 0 d
    | none => if s.on ZHL_ROUTE_PV d ∨ s.on ZHL_ROUTE_AV d then s.setFld ZHL_ROUTE_UNREACH 1 d else s) s
  let reach := (List.range 32).foldl (fun m d => if d = s.zhl.chip ∨ (s.routeTo d).isSome then m + 2 ^ d else m) 0
  let s := s.setFld ZHL_GRP_STAT_REACH reach
  let ua := (List.range 32).foldl (fun t d =>
    if bit reach d ∨ ¬ bit s.zhl.members d then t.set 0 d 0 else if t.get 0 d = 0 then t.set 0 d (s.tick + 1) else t) s.zhl.unreachAt
  let s := { s with zhl := { s.zhl with unreachAt := ua } }
  let s := s.setFld ZHL_GRP_STAT_ACTING s.actingAnchor
  let moved := s.fld ZHL_GRP_STAT_ACTING ≠ oldAct
    ∨ s.fld ZHL_ROUTE_USING s.actingAnchor ≠ oldUse.getD s.actingAnchor 0
  let s := if moved then { s.setFld ZHL_GRP_STAT_TSYNC_LOCK 0 with zhl := { s.zhl with lockN := 0 } } else s
  let near := (maskBits s.zhl.members).any (fun c => c != s.zhl.chip && bit s.zhl.group c && bit reach c)
  let s := { s with zhl := { s.zhl with stableAt := if near then some (s.zhl.stableAt.getD s.tick) else none } }
  let s := if reach ≠ oldReach then s.floodState else s
  s.sendHeld

/-! The tag fence (R309, R330). -/

/-- Release the model-key slots and the sealed ranges of the contexts that `who` selects; the ranges are wiped (R432). -/
def sealRelease (s : State) (who : Nat → Bool) : State :=
  let mine := fun (x : Nat × Option Sealed) => match x.2 with | some r => who r.ctx | none => false
  let t := (s.gth.sealed.filter mine).foldl (fun (t : State) x => match x.2 with
    | some r => t.lpWipe r.base r.len
    | none => t) s
  let keep := s.gth.sealed.filter (fun x => !mine x)
  let slots := s.gth.slots.filter (fun x => match x.2 with | some k => !who k.ctx | none => false)
  { t with gth := { s.gth with sealed := keep, slots := slots } }.setFld GTH_STAT_SEALED keep.length
/-- What a fence confirms: a context's seals are released (R432) and it leaves FENCING for FREE, or a plot's advance counts as
confirmed. -/
def fenceItem (s : State) (c : Nat × Nat × Nat) : State :=
  let s := if c.1 ≠ 0 ∧ s.ctxState (c.1 - 1) = 3 then
      ((s.sealRelease (fun x => x == c.1 - 1)).setFld PTR_CTX_CTRL_STATE 0 (c.1 - 1)).setCtx (c.1 - 1) {} else s
  if c.2.1 ≠ 0 then
    let g := s.plot (c.2.1 - 1)
    s.setPlot (c.2.1 - 1) { g with advances := g.advances.erase c.2.2 }
  else s
/-- A fence of this chip is confirmed. -/
def fenceConfirm (s : State) (f : ZFence) : State := f.conf.foldl fenceItem s
/-- How many numbered frames each link has been given. -/
def sentMarks (s : State) (ls : List Nat) : List Nat := ls.map (fun l => (s.zlink l).lseq + (s.zlink l).wait.length)
/-- Run the tag fence on every UP link (R330); with none it confirms at once. It is merged with one that this chip has started in the
same tick where no frame has gone since and no link has answered. [log entry 276 DEDUCED] -/
def fenceStart (s : State) (c : Nat × Nat × Nat) : State :=
  let ls := s.upLinks
  let same := fun (f : ZFence) => f.up == 0 && f.began == s.tick && f.waiting == ls && f.sent == s.sentMarks ls
  if ls.isEmpty then s.fenceItem c
  else if s.zhl.fences.any same then
    { s with zhl := { s.zhl with fences := s.zhl.fences.map (fun f => if same f then { f with conf := f.conf ++ [c] } else f) } }
  else
    let id := s.zhl.fenceId
    let s := { s with zhl := { s.zhl with fenceId := (id + 1) % 2 ^ 32 } }
    let s := ls.foldl (fun s l => s.putFrame l ⟨.fence, s.zhl.chip, s.fld ZHL_LNK_CTRL_NBR_CHIP l, 32, 0, 0, [id], []⟩) s
    { s with zhl := { s.zhl with fences := s.zhl.fences ++ [⟨s.zhl.chip, id, 0, ls, [c], s.tick, s.sentMarks ls⟩] } }
/-- PLT_GEN advances by 1 modulo 4096, and the advance starts a tag fence (R274, R330). -/
def advanceGen (s : State) (p : Nat) : State :=
  let s := s.addWrap PLT_GEN_GEN 1 p
  let g := s.plot p
  let s := s.setPlot p { g with advances := g.advances ++ [s.fld PLT_GEN_GEN p] }
  s.fenceStart (0, p + 1, s.fld PLT_GEN_GEN p)

/-! Cross-cut wickets (R307, R311). -/

/-- XCUT of a wicket. -/
def xcut (s : State) (w : Nat) : Bool := bit (s.fld ZHL_XCUT_XCUT (w / 32)) (w % 32)
/-- The home chip and wicket for which wicket `w` is a proxy: the lowest valid ZHL_PROXY entry that names it. -/
def proxyOf (s : State) (w : Nat) : Option (Nat × Nat) :=
  let lo := Reg.addr .ZHL_PROXY 0 0
  (s.regs.find? (fun x => decide (lo ≤ x.1 ∧ x.1 < lo + 8 * 4096) && bit x.2.toNat ZHL_PROXY_V.lo
      && bits x.2.toNat ZHL_PROXY_LOCAL.lo ZHL_PROXY_LOCAL.w == w)).map
    (fun x => (bits x.2.toNat ZHL_PROXY_RCHIP.lo ZHL_PROXY_RCHIP.w, bits x.2.toNat ZHL_PROXY_RWKT.lo ZHL_PROXY_RWKT.w))
/-- A cross-cut wicket of a chip in ISLAND is frozen. -/
def frozen (s : State) (w : Nat) : Bool := s.islanded && (s.xcut w || (s.proxyOf w).isSome)
end State
end Sys2Proof.Machine
end

