-- ==== Sys2Proof/Machine/StrmBase.lean ====
section
/-! DEFINITION. Input slots of streams (R200-R202): posting, refusing and freeing them. -/
namespace Sys2Proof.Machine
open Sys2Proof
namespace State
def strm (s : State) (n : Nat) : Strm := s.str.get {} n
def setStrm (s : State) (n : Nat) (x : Strm) : State := { s with str := s.str.set {} n x }
def strmState (s : State) (n : Nat) : Nat := s.fld PLT_STRM_CFG_STATE n
/-- FREE of a stream (R202, R216): every slot of the ring in OFF, else those neither busy nor claimed. [log entry 36 DEDUCED] -/
def showFree (s : State) (i : Nat) : State :=
  let st := s.strm i
  let n := if s.strmState i = 0 then s.fld PLT_STRM_IN_ISLOTS i + 1 else st.nslots
  let m := (List.range n).foldl (fun m j => if s.strmState i ≠ 0 ∧ st.busy.get false j then m else m + 2 ^ j) 0
  s.setFld PLT_STRM_STAT_FREE m i
/-- Free the slot of input `x`. -/
def freeInput (s : State) (i : Nat) (x : Input) : State :=
  let st := s.strm i
  (s.setStrm i { st with busy := st.busy.erase x.slot,
                         inputs := st.inputs.map (fun y => if y = x then { y with held := false } else y) }).showFree i
/-- No step will serve a frame of stream `i` on plot `p`: the plot is OFF, or has no slot bound for the stream's owner.
[log entry 141 DEDUCED] -/
def noConductor (s : State) (i p : Nat) : Bool :=
  s.fld PLT_STAT_STATE p = 0 ∨
    ¬ (List.range 16).any (fun j => s.fld PLT_SLOT_STAT_STATE p j != 0 && (s.slot p j).ctx == (s.strm i).owner)
/-- Selections that no step will serve count as retired (R202). -/
def strmRetireIdle (s : State) (i : Nat) : State :=
  let st := s.strm i
  if st.sels.all (fun y => y.retired || !s.noConductor i y.plot) then s
  else s.setStrm i { st with sels := st.sels.map (fun y => if s.noConductor i y.plot then { y with retired := true } else y) }
/-- Free every slot that R202 frees: an input that is not among the two newest accepted, that no unretired selection
names, and that no fallback request still reads. -/
def strmFree (s : State) (i : Nat) : State :=
  let s := s.strmRetireIdle i
  let st := s.strm i
  let names := fun (x : Sel) (y : Input) => x.slot0 == y.slot || x.slot1 == y.slot
  let busyReq := fun (y : Input) =>
    let reads := fun (r : BelReq) => match r.pacer with
      | some (n, f, b) => n == i && st.sels.any (fun x => x.frame == f && x.band == b && names x y)
      | none => false
    s.bel.wait.any (fun w => reads w.req)
      || s.bel.eng.any (fun e => e.2.queue.any reads || (match e.2.cur with | some r => reads r | none => false))
  (st.inputs.drop 2).foldl (fun s (y : Input) =>
    if y.held = true ∧ ¬ st.sels.any (fun x => !x.retired && names x y) ∧ ¬ busyReq y then s.freeInput i y else s) s
/-- Refuse a post: the slot is freed, and a field counts it. -/
def refuseInput (s : State) (i slot : Nat) (f : Fld) : State :=
  let st := s.strm i
  ((s.setStrm i { st with busy := st.busy.erase slot, claim := st.claim.erase slot }).showFree i).addSat f 1 i
/-- A post of slot `slot` as it is handled (R201), by the receiver that claimed it or by any producer. -/
def postOne (s : State) (i slot : Nat) (rx : Option Nat) : State :=
  let st := s.strm i
  let mine : Bool := match rx with | some r => st.claim.get 0 slot == r + 1 | none => false
  if st.nslots ≤ slot ∨ (st.busy.get false slot = true ∧ ¬ mine = true) then s.addSat PLT_STRM_CNT_BUSY 1 i
  else
    let rec_ := st.ibase + st.nslots * st.istride + slot * 64
    let seq := s.lpNat rec_ 4
    let tb := s.lpNat (rec_ + 4) 1 % 8
    let sec := s.lpNat (rec_ + 8) 8 % 2 ^ 48
    let nss := s.lpNat (rec_ + 16) 8
    let ns := bits nss SDL_TB_LOAD_NSS_NS.lo SDL_TB_LOAD_NSS_NS.w
    let sub := bits nss SDL_TB_LOAD_NSS_SUB.lo SDL_TB_LOAD_NSS_SUB.w
    let w := (s.lclock st.lc).base
    let (t, s) := s.convert w tb ((sec * 1000000000 + ns) * 16 + sub)
    let old : Bool := match st.lastStamp with | some l => decide ((t : Int) ≤ l) | none => false
    if 999999999 < ns ∨ old = true then s.refuseInput i slot PLT_STRM_CNT_STALE
    else if (s.tb16 w : Int) + st.xlimit * 16 < t then s.refuseInput i slot PLT_STRM_CNT2_FUTURE
    else
      let skip := match st.lastSeq with | some q => seq != (q + 1) % 2 ^ 32 | none => false
      let inp : Input := ⟨slot, seq, t, s.tick, false, false, true⟩
      let s := s.setStrm i { st with busy := st.busy.set false slot true, claim := st.claim.erase slot,
                                     inputs := (inp :: st.inputs).take 64, lastStamp := some t, lastSeq := some seq }
      let s := if skip then s.addSat PLT_STRM_CNT_SKIP 1 i else s
      ((s.setFld PLT_STRM_STAT_SEQ (seq % 65536) i).showFree i).strmFree i
/-- The ring of stream `i`. -/
def ring (s : State) (i : Nat) : Ring :=
  let st := s.strm i
  ⟨st.busy, st.claim, st.inputs, st.lastStamp, st.lastSeq⟩
/-- The posts of this tick on stream `i`, where nothing else has changed its ring since; with none, the ring and counts stand as they
were before any. -/
def postsNow (s : State) (i : Nat) : PostTick :=
  let none_ : PostTick := ⟨s.tick, s.ring i, s.ring i, s.rd .PLT_STRM_CNT i, s.rd .PLT_STRM_CNT2 i, s.rd .PLT_STRM_STAT i, []⟩
  match (s.strm i).posted with
  | some b => if b.tick = s.tick ∧ b.now = s.ring i then b else none_
  | none => none_
/-- Put back what the posts of a tick changed. [log entry 269 DEDUCED] -/
def postsUndo (s : State) (i : Nat) (b : PostTick) : State :=
  let s := s.setStrm i { s.strm i with busy := b.was.busy, claim := b.was.claim, inputs := b.was.inputs, lastStamp := b.was.lastStamp,
                                       lastSeq := b.was.lastSeq }
  ((s.wr .PLT_STRM_CNT b.cnt i).wr .PLT_STRM_CNT2 b.cnt2 i).wr .PLT_STRM_STAT b.stat i
/-- A post (R201). Of posts that arrive in one tick the lower slot number is handled first: where this one has a lower slot than one
handled before it, they are handled anew in slot order. [log entries 133 DEDUCED, 269 DEDUCED] -/
def inputPost (s : State) (i slot : Nat) (rx : Option Nat) : State :=
  let b := s.postsNow i
  let posts := b.posts.filter (fun p => p.1 ≤ slot) ++ [(slot, rx)] ++ b.posts.filter (fun p => slot < p.1)
  let s := if b.posts.all (fun p => p.1 ≤ slot) then s.postOne i slot rx
    else posts.foldl (fun s p => s.postOne i p.1 p.2) (s.postsUndo i b)
  s.setStrm i { s.strm i with posted := some { b with now := s.ring i, posts := posts } }
/-- A write of PLT_STRM_POST (R201): ignored while the stream is OFF or STARTING; the slot's record is read once LPDDR is served (R392). -/
def postSlot (s : State) (i slot : Nat) : State :=
  if s.strmState i = 2 ∨ s.strmState i = 3 then (if s.trained then s.inputPost i slot none else s.lpWait (.post i slot)) else s

/-- An ON stream enters STOPPING (R199): the frame being latched is completed, and no other begins. -/
def strmStop (s : State) (i : Nat) : State :=
  let st := s.strm i
  s.setStrm i { st with stopFrame := some st.nextF }
end State
end Sys2Proof.Machine
end

