-- ==== Sys2Proof/Machine/Alias.lean ====
section
/-! DEFINITION. Selection records and the alias windows of streams (R205, R206), and reads of the device address space by
programs, engines and cores (R14, R206, R335, R393, R431). -/
namespace Sys2Proof.Machine
open Sys2Proof
/-- Who reads an alias window (R206): a program of a plot at a step, with the indices of its open loops, innermost first;
a core or any requester without a program; a pacer's request for a band of a stream. -/
inductive Asker
  | prog (plot step : Nat) (idx : List Nat)
  | core
  | pacer (stream frame band : Nat)
  deriving DecidableEq, Repr
/-- Who a command's reader is to the alias windows. -/
def readerAs : Reader → Asker
  | .core => .core
  | .prog p k b => .prog p k.toNat (List.replicate 4 b.toNat)
/-- The selection record of 64 bytes (Table 8.5). -/
def selBytes (x : Sel) : List Byte :=
  leBytes 4 x.frame ++ leBytes 2 x.band ++ leBytes 2 x.flags ++ leBytes 2 x.slot0 ++ leBytes 2 x.slot1 ++ leBytes 4 x.seq0
    ++ leBytes 8 (ofSigned 64 x.phase) ++ leBytes 8 (ofSigned 64 x.span) ++ leBytes 8 x.hold ++ leBytes 8 (ofSigned 64 x.tau)
    ++ leBytes 4 x.step ++ List.replicate 12 0
/-- What an alias read resolves to. -/
inductive AliasRes
  | sel (x : Sel)
  | zero
  | miss
  | wait
  deriving DecidableEq, Repr
namespace State
/-- Resolve a read of stream `n`'s window (R206): a record; zeros while the stream is OFF or has latched nothing; a miss;
or a wait for a band not yet latched. A pacer's request reads only the hold part. -/
def aliasResolve (s : State) (n : Nat) (who : Asker) : AliasRes :=
  let st := s.strm n
  match who with
  | .core => match st.sels with | x :: _ => .sel x | [] => .zero
  | .pacer _ f b => match st.sels.find? (fun x => x.frame == f && x.band == b) with | some x => .sel x | none => .zero
  | .prog p k idx =>
    let served := s.strmState n ≠ 0 ∧ (p = st.plotA ∨ (st.bv ∧ p = st.plotB))
    let b := if st.alvl = 0 then 0 else idx.getD (st.alvl - 1) 0
    let mine := st.sels.filter (fun x => x.plot == p)
    match mine.find? (fun x => x.step == k % 2 ^ 32 && x.band == b) with
    | some x =>
      match mine.head? with
      | some y => if serialGe 32 y.frame (x.frame + 9) then .miss else .sel x
      | none => .miss
    | none =>
      if s.strmState n = 0 then .zero
      else if ¬ served then .miss
      else match mine.head? with
        | none => .wait
        | some y =>
          if y.step = k % 2 ^ 32 then (if y.band < b ∧ y.frame = st.nextF then .wait else .miss)
          else if serialGe 32 (k % 2 ^ 32) y.step then .wait else .miss
/-- The part of a window read, `n` bytes from offset `o`, that lies in [lo, hi), read from `base` where the target has
`len` bytes; zeros past its end and where there is no target. [log entry 137 DEDUCED] -/
def aliasPart (s : State) (o n lo hi : Nat) (tgt : Option (Nat × Nat)) : List Byte :=
  let a := max o lo
  let e := min (o + n) hi
  match tgt with
  | none => List.replicate (e - a) 0
  | some (base, len) =>
    let have_ := min (e - a) (len - (a - lo))
    s.lpBytes (base + (a - lo)) have_ ++ List.replicate (e - a - have_) 0
/-- The bytes that a resolved window read returns. -/
def aliasBytes (s : State) (n : Nat) (x : Sel) (o len : Nat) : List Byte :=
  let st := s.strm n
  let slot := fun (i : Nat) => if i = 0xFFFF then none else some (st.ibase + i * st.istride, st.istride)
  let rec_ := ((selBytes x).drop (max o 0xFFFF0000 - 0xFFFF0000)).take (min (o + len) 0xFFFF0040 - max o 0xFFFF0000)
  s.aliasPart o len 0 0x60000000 (slot x.slot0) ++ s.aliasPart o len 0x60000000 0xC0000000 (slot x.slot1)
    ++ s.aliasPart o len 0xC0000000 0xFFFF0000 (if x.hold = 0 then none else some (x.hold, x.holdLen))
    ++ rec_ ++ List.replicate (min (o + len) (2 ^ 32) - max o 0xFFFF0040) 0
/-- Count ALIAS_MISS on a stream. -/
def aliasMiss (s : State) (n : Nat) : State := s.addSat PLT_STRM_CNT2_ALIASMISS 1 n
/-- SEALED_READ (R431), a status count. [log entry 172 DEDUCED] -/
def sealedRead (s : State) : State := s.bump 0x0D0C
/-- LPDDR bytes as a requester sees them (R393, R431): a sealed range reads zero and counts SEALED_READ, but for fabric
LOADs of its context once its tag is checked; `ctx` is the context of a LOAD. -/
def lpSee (s : State) (a n : Nat) (ctx : Option Nat) : List Byte × State :=
  let (bs, s) := s.lpRead a n
  let shut := s.gth.sealed.filterMap (fun x => match x.2 with
    | some r => if hits r.base r.len a n && !(r.opened && ctx == some r.ctx) then some (r.base, r.len) else none
    | none => none)
  if shut.isEmpty then (bs, s)
  else
    ((bs.zip (List.range n)).map (fun p => if shut.any (fun r => decide (r.1 ≤ a + p.2 ∧ a + p.2 < r.1 + r.2)) then 0 else p.1),
     s.sealedRead)
/-- Bytes of a pavilion's SRAM window (R14, R148): banks that a line buffer was carved from hold its contents, and the upper 512 KiB
read 0. -/
def pavBytes (s : State) (p o n : Nat) : List Byte :=
  ((s.bytes (pavBase + p * 0x200000 + o) n).zip (List.range n)).map (fun x =>
    let b := (o + x.2) / 0x10000
    if 24 ≤ b then 0
    else match s.par.lbuf.get none (bankKey p b) with
      | some f => Config.freeByte f ((o + x.2) % 0x10000)
      | none => x.1)
/-- A read of `n` bytes at device address `a`, which lies in region `r`, with the counts it raises; holes and regions without memory
read 0 (Gatehouse private space counts ORG_WR_DENIED, R417), and so do pavilion windows for any but cores and the host: no path of Table 1.2 leads there (R15).
[log entry 249 DEDUCED] -/
def devReadAt (s : State) (who : Asker) (ctx : Option Nat) (a n : Nat) (r : Region) : List Byte × State :=
  match r with
  | .window st o =>
    match s.aliasResolve st who with
    | .sel x => (s.aliasBytes st x o n, s)
    | .miss => (List.replicate n 0, s.aliasMiss st)
    | _ => (List.replicate n 0, s)
  | .lpddr _ => s.lpSee a n ctx
  | .lpHole => s.lpSee a n ctx
  | .pav p o => (if who = .core then s.pavBytes p o n else List.replicate n 0, s)
  | .fs _ => (s.bytes a n, s)
  | .gth => (List.replicate n 0, s.bump 0x0D0E 13)
  | _ => (List.replicate n 0, s)
def devRead (s : State) (who : Asker) (ctx : Option Nat) (a n : Nat) : List Byte × State := s.devReadAt who ctx a n (s.region a)
/-- Whether a read in region `r` must wait for a band to be latched (R206). -/
def devWaitAt (s : State) (who : Asker) (r : Region) : Bool :=
  match r with
  | .window st _ => s.aliasResolve st who == .wait
  | _ => false
def devWait (s : State) (who : Asker) (a : Nat) : Bool := s.devWaitAt who (s.region a)
/-- Whether the LPDDR bytes that a read in region `r` touches are poisoned (R335). -/
def devPoisonedAt (s : State) (who : Asker) (a n : Nat) (r : Region) : Bool :=
  match r with
  | .window st o =>
    match s.aliasResolve st who with
    | .sel x =>
      let d := s.strm st
      if o < 0x60000000 then x.slot0 != 0xFFFF && s.poisoned (d.ibase + x.slot0 * d.istride + o) n
      else if o < 0xC0000000 then x.slot1 != 0xFFFF && s.poisoned (d.ibase + x.slot1 * d.istride + (o - 0x60000000)) n
      else x.hold != 0 && decide (o < 0xFFFF0000) && s.poisoned (x.hold + (o - 0xC0000000)) n
    | _ => false
  | .lpddr _ => s.poisoned a n
  | _ => false
def devPoisoned (s : State) (who : Asker) (a n : Nat) : Bool := s.devPoisonedAt who a n (s.region a)
/-- The bytes that a line buffer left in a bank are written out, where a write is to change some of them (R148). -/
def lbufSettle (s : State) (p b : Nat) : State :=
  match s.par.lbuf.get none (bankKey p b) with
  | some f =>
    let s := s.putBytes (bankAddr p b) ((List.range 0x10000).map (Config.freeByte f))
    { s with par := { s.par with lbuf := s.par.lbuf.set none (bankKey p b) none } }
  | none => s
/-- A write of a core or the host through the SRAM window of pavilion `p` at `off`; the parts that lie in banks held as line buffer are
dropped, and it then counts once (R148). -/
def pavHostWrite (s : State) (p off : Nat) (bs : List Byte) : State :=
  let bs := bs.take (0x180000 - off)
  let lb := s.fld PAV_LBUF_BANKS p
  let first := off / 0x10000
  let last := (off + bs.length - 1) / 0x10000
  let banks := if bs.isEmpty then [] else (List.range (last + 1 - first)).map (fun i => first + i)
  let s := if banks.any (fun b => bit lb b) then s.addSat PAV_WIN_CNT_HOSTDROP 1 p else s
  banks.foldl (fun s b =>
    let lo := max off (b * 0x10000); let hi := min (off + bs.length) ((b + 1) * 0x10000)
    if bit lb b then s
    else (s.lbufSettle p b).putBytes (pavBase + p * 0x200000 + lo) ((bs.drop (lo - off)).take (hi - lo))) s
/-- A write of bytes at device address `a` in region `r` by an Arcade requester or a core (R14, R148, R176, R206, R210, R393): a reserved
frame-store segment holds it with the tags of its segments, an alias window drops it and counts ALIAS_MISS, a hole drops it, and so
does Gatehouse private space, which counts ORG_WR_DENIED (R417). -/
def devWriteAt (s : State) (a : Nat) (bs : List Byte) (r : Region) : State :=
  match r with
  | .lpddr _ => s.lpPut a bs
  | .lpHole => s.lpPut a bs
  | .window st _ => s.aliasMiss st
  | .pav p o => s.pavHostWrite p o bs
  | .fs o =>
    let bs := bs.take (0x6000000 - o)
    let ks := storeKeys a bs.length
    if ks.any (fun k => s.bel.rsv.get 0 k != 0) then
      { s with bel := { s.bel with held := s.bel.held ++ [⟨a, bs, ks.map (fun k => (k, s.tagOf k))⟩] } }
    else s.putBytes a bs
  | .gth => s.bump 0x0D0E 13
  | _ => s
def devWrite (s : State) (a : Nat) (bs : List Byte) : State := s.devWriteAt a bs (s.region a)
/-- A read of a device address is answered with its bytes. -/
def aliasRead (s : State) (who : Asker) (a n : Nat) : State :=
  (s.devRead who none a n).2.emit (.data (s.devRead who none a n).1)
/-- A read of `n` bytes at offset `o` of stream `i`'s window (R206): it is answered, or held until its band is latched. -/
def windowRead (s : State) (i : Nat) (who : Reader) (o n : Nat) : State :=
  if s.aliasResolve i (readerAs who) = .wait then s.setStrm i { s.strm i with reads := (s.strm i).reads ++ [(who, o, n)] }
  else s.aliasRead (readerAs who) (aliasBase + i * 2 ^ 32 + o) n
/-- The held reads of stream `i` that no longer wait are answered, in order (R206). -/
def windowServe (s : State) (i : Nat) : State :=
  let st := s.strm i
  let wait := fun (x : Reader × Nat × Nat) => s.aliasResolve i (readerAs x.1) == .wait
  let s := s.setStrm i { st with reads := st.reads.filter wait }
  (st.reads.filter (fun x => !wait x)).foldl (fun s x => s.aliasRead (readerAs x.1) (aliasBase + i * 2 ^ 32 + x.2.1) x.2.2) s
/-- A program's or engine's write at a device address on behalf of context `c` (R270): dropped and counted as STALE_TAG when
`gen` is not the context's CGEN; no such path leads into a pavilion's banks (R15). [log entry 249 DEDUCED] -/
def ctxDev (s : State) (c gen : Nat) (a : Nat) (bs : List Byte) : State :=
  if gen = s.cgen c then
    match s.region a with
    | .pav _ _ => s
    | r => s.devWriteAt a bs r
  else s.staleTag
end State
end Sys2Proof.Machine
end

