-- ==== Sys2Proof/Machine/BatchBase.lean ====
section
/-! DEFINITION. Batch groups: what they show, their responses, and their end at a teardown (R284, R290). -/
namespace Sys2Proof.Machine
open Sys2Proof
namespace State
def batch (s : State) (g : Nat) : Batch := s.par.bat.get {} g
def setBatch (s : State) (g : Nat) (b : Batch) : State := { s with par := { s.par with bat := s.par.bat.set {} g b } }
/-- ACTIVE, QUEUED and FREEGRAN of PLT_BAT_STAT (R292). -/
def showBatch (s : State) (g : Nat) : State :=
  let b := s.batch g
  let used := b.lanes.foldl (fun a x => a + (match x.2 with | some l => l.size | none => 0)) 0
  let s := s.setFld PLT_BAT_STAT_ACTIVE b.lanes.length g
  let s := s.setFld PLT_BAT_STAT_QUEUED b.queue.length g
  s.setFld PLT_BAT_STAT_FREEGRAN (b.pool - used) g
/-- Write a response record (R290, Table 11.3): the ring overwrites from its start. -/
def respond (s : State) (g sid result cause lane step : Nat) : State :=
  let b := s.batch g
  let n := max 1 (b.rspSize * 4096 / 16)
  let c := s.fld PLT_BAT_RIDX_COUNT g
  let bs := leBytes 2 sid ++ leBytes 1 result ++ leBytes 1 cause ++ leBytes 1 lane ++ leBytes 3 0 ++ leBytes 8 step
  let s := if b.rspSize = 0 then s else s.ctxPut b.owner (s.cgen b.owner) (b.rsp + 16 * (c % n)) bs
  s.setFld PLT_BAT_RIDX_COUNT (c + 1) g
/-- The step of the owner's conductor, for immediate answers. -/
def batchStep (s : State) (g : Nat) : Nat := (s.prog (condKey (s.batch g).plot)).step
/-- A torn-down owner's groups go to OFF, every queued join answered REFUSED with cause STOP (R284 step 2). -/
def batchTear (s : State) (c : Nat) : State :=
  (List.range 16).foldl (fun s (g : Nat) =>
    if s.fld PLT_BAT_CFG_STATE g ≠ 0 ∧ (s.batch g).owner = c then
      let b := s.batch g
      let st := s.batchStep g
      let s := b.queue.foldl (fun s j => (s.respond g j.sid 3 5 0xFF st).addSat PLT_BAT_CNT_REFUSED 1 g) s
      let s := (s.setBatch g {}).setFld PLT_BAT_CFG_STATE 0 g
      (s.setFld PLT_BAT_CFG_PENDING_ON 0 g).showBatch g
    else s) s
end State
end Sys2Proof.Machine
end

