-- ==== Sys2Proof/Machine/DmaBase.lean ====
section
/-! DEFINITION. What ends a DMA descriptor, a receiver's frame or a fill at a teardown or an engine reset (R284, R356, R358,
R386, R404). -/
namespace Sys2Proof.Machine
open Sys2Proof
namespace State
def dma (s : State) (c : Nat) : DmaChan := s.pci.ch.get {} c
def setDma (s : State) (c : Nat) (x : DmaChan) : State := { s with pci := { s.pci with ch := s.pci.ch.set {} c x } }
/-- Entries of a channel's ring (R355). -/
def dmaSize (s : State) (c : Nat) : Nat := 2 ^ (min 12 (s.dma c).rsize + 4)
/-- A descriptor completes (R355, R356, R358): its STATUS is written, HEAD goes past it, its result is counted, and its
interrupt raised when IRQ = 1; it is traced (R443). [log entry 292 DEDUCED] -/
def dmaFinish (s : State) (c result : Nat) : State :=
  let d := s.dma c
  let head := s.fld PCI_DMA_PTR_HEAD c
  let a := d.ring + head * 64 + 0x0C
  let st := leBytes 4 (1 + 16 * result)
  let s := if d.rloc = 1 then s.ctxPut d.ctx d.cgen a st else s.emit (.host a st)
  let irq := match d.cur with | some bs => bit (leNat (bs.take 4)) 2 | none => false
  let s := s.setFld PCI_DMA_PTR_HEAD ((head + 1) % s.dmaSize c) c
  let s := if result = 0 then s.addSat PCI_DMA_CNT_DONE 1 c else (s.addSat PCI_DMA_CNT_ERRORS 1 c).bump 0x0A03 c
  let s := (s.setDma c { s.dma c with cur := none }).trace 3 7 c (c * 2 ^ 24 + head)
  if irq then s.raiseMsi c else s
/-- The descriptor in progress ends ABORTED (R358). -/
def dmaAbort (s : State) (c : Nat) : State := if (s.dma c).cur.isSome then s.dmaFinish c 3 else s

/-! The fill engine (R404). -/

/-- The command that fill channel `q` runs. -/
def fillCmd (s : State) (q : Nat) : FillCmd := s.arc.fills.get {} q
/-- Write the first `n` bursts of fill channel `q`'s range with its pattern, under its context's generation at GO; bursts outside
LPDDR count ARC_RANGE. -/
def fillWrite (s : State) (q n : Nat) : State :=
  let x := s.fillCmd q
  let a := x.base * 64
  let k := min n ((s.usable - a) / 64)
  let bs := (List.replicate (8 * k) (leBytes 8 x.pat)).flatten
  let s := if k = 0 then s else s.ctxPut x.ctx x.gen a bs
  if n = k then s else s.addSat ARC_CNT_RANGE (n - k)
/-- A teardown stops a running fill (R284): how much of its range it has written is open. [log entry 72 DESIGN CHOICE] -/
def fillStop (s : State) (q : Nat) : State :=
  if s.on ARC_FILL_CTRL_BUSY q then
    let (f, s) := s.freeBits 42
    (s.fillWrite q (f % ((s.fillCmd q).len + 1))).setFld ARC_FILL_CTRL_BUSY 0 q
  else s

/-! Receivers (R386, R387). -/

def rxc (s : State) (r : Nat) : RxChan := s.eth.rx.get {} r
def setRxc (s : State) (r : Nat) (x : RxChan) : State := { s with eth := { s.eth with rx := s.eth.rx.set {} r x } }
/-- Bytes of a row of samples, and from row to row in a slot. -/
def mediaRow (fmt w : Nat) : Nat := if fmt = 0 then w / 2 * 5 else w * 4
def mediaPitch (fmt w : Nat) : Nat := cdiv (mediaRow fmt w) 64 * 64
/-- The stream of a receiver, and its time base. -/
def rxStream (s : State) (r : Nat) : Nat := s.fld ETH_RX_CFG_STREAM r
def rxBase (s : State) (r : Nat) : Nat := let t := s.fld ETH_RX_CFG_PTPI r; if 1 ≤ t ∧ t ≤ 4 then t else 1
/-- Write the record of the frame in progress and post its slot (R386). -/
def rxPost (s : State) (r : Nat) (f : RxFrame) : State :=
  let x := s.rxc r
  let st := s.strm (s.rxStream r)
  let fmt := s.fld ETH_RX_CFG_FMT r
  let rec_ := leBytes 4 x.count ++ leBytes 1 (s.rxBase r) ++ leBytes 1 1 ++ leBytes 1 (if fmt = 0 then 8 else 3) ++ leBytes 1 0
    ++ leBytes 8 f.sec ++ leBytes 8 f.nss ++ leBytes 2 (s.fld ETH_RX_GEO_WIDTH r) ++ leBytes 2 (s.fld ETH_RX_GEO_HEIGHT r)
    ++ List.replicate 36 0
  let s := s.ctxPut (s.fld ETH_RX_CFG_CTX r) x.cgen (st.ibase + st.nslots * st.istride + f.slot * 64) rec_
  let s := s.setRxc r { x with cur := none, count := (x.count + 1) % 2 ^ 32 }
  s.inputPost (s.rxStream r) f.slot (some r)
/-- Give a claimed slot back. -/
def rxFree (s : State) (r : Nat) (f : RxFrame) : State :=
  let i := s.rxStream r
  let st := s.strm i
  let s := s.setRxc r { s.rxc r with cur := none, count := ((s.rxc r).count + 1) % 2 ^ 32 }
  (s.setStrm i { st with busy := st.busy.erase f.slot, claim := st.claim.erase f.slot }).showFree i
/-- A frame still short (R386): counted, then discarded or posted as it stands. -/
def rxShort (s : State) (r : Nat) : State :=
  match (s.rxc r).cur with
  | none => s
  | some f =>
    let s := s.bump 0x0B07 r
    if s.on ETH_RX_CFG_INC r then s.rxPost r f else s.rxFree r f
/-- A receiver stops: OFF, its frame in progress still short. -/
def rxStop (s : State) (r : Nat) : State :=
  let s := s.rxShort r
  let s := (s.setFld ETH_RX_CFG_STATE 0 r).setFld ETH_RX_CFG_PENDING_ON 0 r
  s.setRxc r { count := (s.rxc r).count }
end State
end Sys2Proof.Machine
end

