-- ==== Sys2Proof/Machine/SvetDecode.lean ====
section
/-! DEFINITION. The Svetet encoding (R88, R111-R143): opcodes and lengths of Table 5.1, reserved fields, where each family
may stand (Table 4.2), the structure of loops, and the load checks 4 to 8 of R87. Instruction words are 64-bit numbers. -/
namespace Sys2Proof.Machine
open Sys2Proof
/-- Opcode of an instruction's first word (R88). -/
def opc (w : Nat) : Nat := bits w 56 8
/-- Length in words that the first word gives (R88). -/
def lenField (w : Nat) : Nat := bits w 54 2 + 1
/-- Table 5.1: the length of each assigned opcode. -/
def opLen (o : Nat) : Option Nat :=
  if o = 0x10 ∨ o = 0x11 then some 4
  else if o = 0x12 then some 2
  else if 0x20 ≤ o ∧ o ≤ 0x22 then some 3
  else if o = 0x23 ∨ o = 0x2A then some 1
  else if 0x24 ≤ o ∧ o ≤ 0x29 then some 2
  else if 0x30 ≤ o ∧ o ≤ 0x32 then some 1
  else if 0x40 ≤ o ∧ o ≤ 0x43 then some 1
  else if o = 0x44 then some 2
  else if o = 0x45 then some 1
  else if 0x50 ≤ o ∧ o ≤ 0x52 then some 1
  else if o = 0x60 then some 2
  else if o = 0x61 then some 3
  else if o = 0x62 then some 1
  else if 0x70 ≤ o ∧ o ≤ 0x75 then some 1
  else if o = 0x78 ∨ o = 0x79 then some 2
  else if o = 0x7A then some 1
  else none
/-- Word `i` of an instruction. -/
def word (ws : List Nat) (i : Nat) : Nat := ws.getD i 0
/-- All bits of `v` from bit `hi + 1` up to 63 are 0. -/
def above (v hi : Nat) : Bool := v >>> (hi + 1) == 0
/-- Bits `[hi:lo]` are 0. -/
def zeroAt (v hi lo : Nat) : Bool := bits v lo (hi + 1 - lo) == 0
/-- The SUB values of Table 5.7. -/
def subOk (o sub : Nat) : Bool :=
  if o = 0x23 ∨ o = 0x27 then sub ≤ 1
  else if o = 0x24 then sub ≤ 2
  else if o = 0x25 then sub ≤ 6
  else if o = 0x26 then sub ≤ 7
  else if o = 0x29 then sub ≤ 3
  else sub == 0
/-- Whether the reserved fields of an instruction are 0 and its enumerated fields assigned (R111, R117-R143). [log entry 89 DEDUCED] -/
def reservedOk (ws : List Nat) : Bool :=
  let w0 := word ws 0; let w1 := word ws 1; let w2 := word ws 2
  let o := opc w0
  if o = 0x10 then
    bits w0 42 4 != 15 &&
    (match bits w0 46 2 with
     | 2 => above w1 48 && zeroAt w1 47 30
     | 3 => above w1 48 && zeroAt w1 47 7
     | _ => above w1 48)
  else if o = 0x11 then bits w0 32 2 != 3
  else if o = 0x12 then zeroAt w0 7 0 && above w1 41
  else if 0x20 ≤ o ∧ o ≤ 0x2A then
    zeroAt w0 17 0 && subOk o (bits w0 18 8) &&
    (if o ≤ 0x22 then above w1 54 && above w2 41
     else if o = 0x25 then above w1 31
     else if o = 0x27 then above w1 47
     else if o = 0x28 ∨ o = 0x29 then above w1 17
     else true)
  else if 0x30 ≤ o ∧ o ≤ 0x32 then zeroAt w0 5 0
  else if o = 0x44 then zeroAt w0 29 0 && above w1 31
  else if 0x40 ≤ o ∧ o ≤ 0x45 then zeroAt w0 34 0
  else if o = 0x50 then zeroAt w0 53 53
  else if o = 0x51 then zeroAt w0 53 53 && zeroAt w0 19 0
  else if o = 0x52 then zeroAt w0 53 53 && zeroAt w0 26 0
  else if o = 0x60 then zeroAt w0 48 32 && (bits w0 53 1 == 1 || above w1 31)
  else if o = 0x61 then zeroAt w0 32 32 && above w2 31
  else if o = 0x62 then zeroAt w0 43 0
  else if o = 0x70 then zeroAt w0 52 32 && (bits w0 53 1 == 0 || zeroAt w0 31 0)
  else if o = 0x71 then bits w0 51 3 ≤ 5 && zeroAt w0 48 48
  else if o = 0x73 then zeroAt w0 52 0
  else if o = 0x72 ∨ o = 0x74 ∨ o = 0x75 then zeroAt w0 53 0
  else if o = 0x78 then zeroAt w0 40 0 && above w1 31
  else if o = 0x79 then bits w0 42 3 ≤ 2 && zeroAt w0 41 0 && above w1 31
  else if o = 0x7A then zeroAt w0 32 0 && (if bits w0 53 1 = 0 then bits w0 33 8 == 0 else bits w0 47 6 == 0 && bits w0 33 8 ≤ 5)
  else false
/-- The instructions of a program with their words' places, in order; none where check 4 of R87 fails. -/
def parse : Nat → Nat → List Nat → Option (List (Nat × List Nat))
  | 0, _, ws => if ws.isEmpty then some [] else none
  | fuel + 1, pc, ws =>
    match ws with
    | [] => some []
    | w :: _ =>
      match opLen (opc w) with
      | none => none
      | some n =>
        if lenField w ≠ n ∨ ws.length < n ∨ ¬ reservedOk (ws.take n) then none
        else (parse fuel (pc + n) (ws.drop n)).map (fun t => (pc, ws.take n) :: t)
/-- The instructions of a whole program. -/
def parseProg (ws : List Nat) : Option (List (Nat × List Nat)) := parse ws.length 0 ws
def isDesc (o : Nat) : Bool := 0x10 ≤ o && o ≤ 0x12
/-- Whether an instruction may stand in a stage program or a conductor (Table 4.2). -/
def placeOk (cond : Bool) (ws : List Nat) : Bool :=
  let o := opc (word ws 0)
  if cond then (0x30 ≤ o && o ≤ 0x32) || (0x50 ≤ o && o ≤ 0x52) || (0x60 ≤ o && o ≤ 0x62) || (0x70 ≤ o && o ≤ 0x75) || o == 0x7A
  else o != 0x61 && o != 0x72
/-- N-marked instructions (R114): ATOM, TIME, BR.TO, STAT.SAMPLE. -/
def nMarked (ws : List Nat) : Bool :=
  let w := word ws 0
  let o := opc w
  o == 0x45 || o == 0x62 || (o == 0x71 && bits w 51 3 == 5) || (o == 0x7A && bits w 53 1 == 1)
/-- Descriptors stand before everything else (check 5 of R87). -/
def descFirst (is : List (Nat × List Nat)) : Bool :=
  (is.dropWhile (fun i => isDesc (opc (word i.2 0)))).all (fun i => !isDesc (opc (word i.2 0)))
/-- Loop nesting: LOOP and ENDLOOP match and are nested no deeper than four (check 6 of R87, R137). -/
def loopsOk : Nat → List (Nat × List Nat) → Bool
  | d, [] => d == 0
  | d, (_, ws) :: t =>
    if opc (word ws 0) = 0x70 then
      if bits (word ws 0) 53 1 = 0 then d < 4 && loopsOk (d + 1) t else 0 < d && loopsOk (d - 1) t
    else loopsOk d t
/-- Every DUE declares W ≥ S (check 7 of R87). -/
def dueOk (is : List (Nat × List Nat)) : Bool :=
  is.all (fun i => opc (word i.2 0) != 0x61 || bits (word i.2 1) 32 32 ≤ bits (word i.2 1) 0 32)
/-- The word of the ENDLOOP that closes the LOOP before `is`, at nesting `d`. -/
def findEnd : Nat → List (Nat × List Nat) → Option Nat
  | _, [] => none
  | d, (pc, ws) :: t =>
    if opc (word ws 0) = 0x70 then
      if bits (word ws 0) 53 1 = 0 then findEnd (d + 1) t
      else if d = 0 then some pc else findEnd (d - 1) t
    else findEnd d t
/-- The ENDLOOP of the LOOP at word `pc` of a program. -/
def endOf (code : List Nat) (pc : Nat) : Option Nat :=
  match parseProg code with
  | none => none
  | some is => findEnd 0 ((is.dropWhile (fun i => i.1 != pc)).drop 1)
/-- The word of the first LOOP of a program: its outermost loop (R137). -/
def outerLoop (code : List Nat) : Option Nat :=
  match parseProg code with
  | none => none
  | some is => (is.find? (fun i => opc (word i.2 0) == 0x70 && bits (word i.2 0) 53 1 == 0)).map (fun i => i.1)

/-! Step-relative ranges of descriptors, for check 8 of R87 (R102, R119). -/

/-- Bytes of one D1 row of `d0` elements of a code, codes packed under R49. -/
def codeBits (c : Nat) : Nat :=
  match c with
  | 0 | 1 | 4 | 5 | 13 => 8
  | 2 | 3 | 7 => 4
  | 6 => 6
  | 8 | 9 | 14 => 16
  | 10 | 11 => 32
  | 12 => 96
  | _ => 8
/-- Extents D0 to D3 of a TDESC, those above RANK taken as 1. -/
def tdDims (ws : List Nat) : List Nat :=
  (List.range 4).map (fun i => if i ≤ bits (word ws 0) 32 2 then bits (word ws 2) (16 * i) 16 else 1)
def dim (ds : List Nat) (i : Nat) : Nat := ds.getD i 1
def elems (ds : List Nat) : Nat := dim ds 0 * dim ds 1 * dim ds 2 * dim ds 3
/-- Bytes that a dense tensor of a code takes (R49). -/
def denseBytes (code : Nat) (ds : List Nat) : Nat := cdiv (elems ds * codeBits code) 8
/-- Bytes that a tensor takes in LPDDR, with its PITCH (Table 5.3; 0 is dense). -/
def tdBytes (ws : List Nat) : Nat :=
  let ds := tdDims ws
  let c := bits (word ws 0) 42 4
  let pitch := bits (word ws 3) 32 32
  if pitch = 0 then denseBytes c ds
  else (dim ds 1 * dim ds 2 * dim ds 3 - 1) * pitch + cdiv (dim ds 0 * codeBits c) 8
/-- A step-relative range: base, ring stride, RING, STEP_OFS, bytes. -/
structure StepRange where
  base : Nat
  stride : Nat
  ring : Nat
  ofs : Nat
  len : Nat
  deriving DecidableEq, Repr
/-- Whether two ranges overlap at some one step: positions i and j meet at a step exactly when i − OFS and j − OFS' agree
modulo the greatest common divisor of the rings. -/
def StepRange.meets (a b : StepRange) : Bool :=
  let g := Nat.gcd a.ring b.ring
  (List.range a.ring).any (fun i => (List.range b.ring).any (fun j =>
    (i + a.ring * b.ring + b.ofs) % g == (j + a.ring * b.ring + a.ofs) % g &&
    decide (a.base + i * a.stride < b.base + j * b.stride + b.len) &&
    decide (b.base + j * b.stride < a.base + i * a.stride + a.len)))
/-- The tensor range of an LPDDR TDESC; none for other kinds. -/
def tdRange (ws : List Nat) : Option StepRange :=
  if bits (word ws 0) 46 2 = 0 then
    some ⟨bits (word ws 1) 0 48, bits (word ws 3) 0 32 * 64, bits (word ws 0) 16 16, bits (word ws 0) 0 16, tdBytes ws⟩
  else none
/-- Coded operands: those that carry a scale stream (C8U to F4). -/
def isCoded (code : Nat) : Bool := code ≤ 7
/-- Number of scale entries of a tensor blocked along axis `ax`, 4 for the flattened (D0, D1) index (R52): blocks of 16
along the axis, one per position of the other dimensions. -/
def scaleEntries (ds : List Nat) (ax : Nat) : Nat :=
  if ax = 4 then cdiv (dim ds 0 * dim ds 1) 16 * dim ds 2 * dim ds 3
  else elems ds / dim ds ax * cdiv (dim ds ax) 16
/-- The scale-stream range of an SDESC for `n` entries of 2 bytes, its S2-table range for `n` rows of 4, its status-record range, and its
retention reserve for `n` elements of 12 (R71, R119). -/
def sdRange (ws : List Nat) (n : Nat) : StepRange :=
  ⟨bits (word ws 1) 0 42 * 64, bits (word ws 1) 42 22 * 64, bits (word ws 0) 16 16, bits (word ws 0) 0 16, 2 * n⟩
def sdS2Range (ws : List Nat) (n : Nat) : StepRange :=
  ⟨bits (word ws 2) 0 42 * 64, bits (word ws 2) 42 22 * 64, bits (word ws 0) 16 16, bits (word ws 0) 0 16, 4 * n⟩
def sdStatRange (ws : List Nat) : StepRange :=
  ⟨bits (word ws 3) 0 42 * 64, 32, bits (word ws 0) 16 16, bits (word ws 0) 0 16, 32⟩
def sdKeepRange (ws : List Nat) (n : Nat) : StepRange :=
  ⟨cdiv (bits (word ws 3) 0 42 * 64 + bits (word ws 0) 16 16 * 32) 4096 * 4096, 0, 1, 0, 12 * n⟩
/-- The last descriptor of opcode `o` that fills slot `i` in a descriptor section. -/
def descIn (is : List (Nat × List Nat)) (o slotLo slotW i : Nat) : Option (List Nat) :=
  (is.filter (fun x => opc (word x.2 0) == o && bits (word x.2 0) slotLo slotW == i)).getLast?.map (fun x => x.2)
def tdIn (is : List (Nat × List Nat)) (i : Nat) : Option (List Nat) := descIn is 0x10 48 6 i
def sdIn (is : List (Nat × List Nat)) (i : Nat) : Option (List Nat) := descIn is 0x11 49 5 i
/-- The code of a TDESC. -/
def rawCode (ws : List Nat) : Nat := bits (word ws 0) 42 4
/-- The scale stream that LOAD or STORE moves for a coded LPDDR tensor, blocked along its own axis (R52, R130). -/
def streamOf (td sd : List Nat) : List StepRange :=
  if isCoded (rawCode td) then [sdRange sd (scaleEntries (tdDims td) (if bit (word td 1) 48 then 4 else bits (word sd 3) 42 2))] else []
/-- Rows of an S2 table (R120), as a weight's or as another operand's. -/
def s2RowsOf (td : List Nat) (weight : Bool) : Nat :=
  let r := bits (word td 0) 32 2
  if weight then dim (tdDims td) r else if r ≤ 1 then dim (tdDims td) 1 else dim (tdDims td) 2 * dim (tdDims td) 3
/-- The LPDDR ranges that an instruction reads through its descriptors: LOAD its source with its scale stream, and the S2 table by which
the loaded tensor is read; DIGEST and STAT a tensor in LPDDR. -/
def readsOf (is : List (Nat × List Nat)) (ws : List Nat) : List StepRange :=
  let w := word ws 0
  let tens := fun (i : Nat) => ((tdIn is i).bind tdRange).toList
  if opc w = 0x40 then
    tens (bits w 42 6) ++
      (match tdIn is (bits w 42 6), (if bit w 36 then sdIn is (bits w 37 5) else none) with
      | some td, some sd => streamOf td sd ++ [sdS2Range sd (max (s2RowsOf td true) (s2RowsOf td false))]
      | _, _ => [])
  else if opc w = 0x78 ∨ (opc w = 0x7A ∧ ¬ bit w 53) then tens (bits w 47 6)
  else []
/-- Those that it writes: STORE and ATOM their destination, STORE its scale stream; TIME, DIGEST and STAT their record; a command of the
MAC path its status record, and under RESCALE the retention reserve and the S2 table (R69-R72). -/
def writesOf (is : List (Nat × List Nat)) (ws : List Nat) : List StepRange :=
  let w := word ws 0
  let o := opc w
  let td := if o = 0x41 ∨ o = 0x45 then some (bits w 48 6)
    else if o = 0x62 then some (bits w 44 6)
    else if o = 0x78 ∨ o = 0x7A then some (bits w 41 6) else none
  let main := match td with
    | none => []
    | some i => ((tdIn is i).bind tdRange).toList
  let side := if o = 0x41 then
      (match tdIn is (bits w 48 6), (if bit w 36 then sdIn is (bits w 37 5) else none) with
      | some t, some sd => streamOf t sd
      | _, _ => [])
    else if 0x20 ≤ o ∧ o ≤ 0x2A ∧ bit w 42 then
      (match tdIn is (bits w 48 6), sdIn is (bits w 43 5) with
      | some t, some sd =>
        (if o ≤ 0x24 then [sdStatRange sd] else []) ++
          (if bits (word sd 0) 32 2 = 1 ∧ isCoded (rawCode t) then [sdKeepRange sd (elems (tdDims t)), sdS2Range sd (s2RowsOf t false)] else [])
      | _, _ => [])
    else []
  main ++ side
/-- Check 8 of R87: no range is both read and written by descriptors of one step. [log entry 88 DEDUCED] -/
def overlapOk (is : List (Nat × List Nat)) : Bool :=
  let rd := is.flatMap (fun i => readsOf is i.2)
  let wr := is.flatMap (fun i => writesOf is i.2)
  rd.all (fun a => wr.all (fun b => a.ring == 0 || b.ring == 0 || !a.meets b))

/-! The program image (R85-R88). -/

/-- What a checked image holds. -/
structure Image where
  stages : Nat
  crc : Nat
  nmark : Bool
  wcet : Nat
  cond : List Nat
  progs : List (List Nat × Nat)
  deriving DecidableEq, Repr
/-- The 64-bit words at an address. -/
def State.words (s : State) (a n : Nat) : List Nat := (List.range n).map (fun i => s.lpLe (a + 8 * i) 8)
/-- A range of an image ends within 3 MiB of the header and inside usable LPDDR (R85, R87). -/
def State.inImage (s : State) (a ofs len : Nat) : Bool := ofs + len ≤ 0x300000 && a + ofs + len ≤ s.usable
/-- Checks 1 to 8 of R87 on the image at `a` for a plot of `n` members: the image, or the code of the first check that
fails. -/
def State.checkImage (s : State) (a n : Nat) : Except Nat Image :=
  let h := fun o k => s.lpLe (a + o) k
  let st := h 6 2
  let condOff := h 8 8; let condLen := h 0x10 4; let flags := h 0x14 4; let tab := h 0x18 8; let wtab := h 0x20 8
  let ent := fun i => (h (tab + 16 * i) 8, h (tab + 16 * i + 8) 4, h (tab + 16 * i + 12) 4)
  let ends := [condOff + 8 * condLen, tab + 16 * st, wtab + 16] ++ (List.range st).map (fun i => (ent i).1 + 8 * (ent i).2.1)
  let last := ends.foldl max 0x40
  if ¬ (s.inImage a 0 64) ∨ h 0 4 ≠ 0x53565431 ∨ h 4 2 ≠ 1 ∨ flags >>> 2 ≠ 0 ∨ h 0x38 8 ≠ 0 ∨ 0x300000 < tab
      ∨ ¬ s.inImage a tab (16 * st) then .error 0x0201
  else if ¬ (ends.all (fun e => s.inImage a 0 e)) ∨ (List.range st).any (fun i => (ent i).2.2 >>> 24 != 0)
      ∨ s.poisoned a last then .error 0x0201
  else if crc64 (s.lpBytes (a + 0x40) (last - 0x40)) ≠ h 0x30 8 then .error 0x0201
  else if st ≠ n ∨ st = 0 then .error 0x0202
  else if condLen = 0 ∨ 8192 < condLen ∨ (List.range st).any (fun i => (ent i).2.1 == 0 || 2048 < (ent i).2.1) then .error 0x0203
  else
    let cond := s.words (a + condOff) condLen
    let progs := (List.range st).map (fun i => (s.words (a + (ent i).1) (ent i).2.1, (ent i).2.2))
    let pc := parseProg cond
    let ps := progs.map (fun p => parseProg p.1)
    if pc.isNone ∨ ps.any Option.isNone then .error 0x0204
    else
      let ci := pc.getD []
      let si := ps.map (fun p => p.getD [])
      if ¬ (ci.all (fun i => placeOk true i.2)) ∨ ¬ (si.all (fun is => is.all (fun i => placeOk false i.2) && descFirst is))
          ∨ (¬ bit flags 1 ∧ (ci.any (fun i => nMarked i.2) ∨ si.any (fun is => is.any (fun i => nMarked i.2)))) then .error 0x0205
      else if ¬ loopsOk 0 ci ∨ ¬ si.all (loopsOk 0) then .error 0x0206
      else if ¬ dueOk ci then .error 0x0207
      else if ¬ si.all overlapOk then .error 0x0208
      else .ok ⟨st, h 0x30 8, bit flags 1, s.lpLe (a + wtab + 8) 8, cond, progs⟩
end Sys2Proof.Machine
end

