-- ==== Sys2Proof/Machine/Teardown.lean ====
section
/-! DEFINITION. Teardown of a context (R283, R284): steps 1 and 2, which a command fault, a TEAR, a DEBUG_UNLOCK or a chip warm
reset starts. -/
namespace Sys2Proof.Machine
open Sys2Proof
namespace State
/-- The programs whose plot is held by context `c`. -/
def ctxProgs (s : State) (c : Nat) : List Nat :=
  (s.par.prog.map (fun x => x.1)).filter (fun k => (s.running (keyPlot k)).isSome && s.plotCtx (keyPlot k) == c)
/-- ATOM adds of an aborted command stay, and their count is logged as ATOM_PARTIAL (R132). -/
def logAtom (s : State) (k : Nat) (c : Cmd) : State :=
  if opc (word c.words 0) = 0x45 ∧ c.phase ≠ .dispatched then
    s.log 0x0211 3 (keyPlot k) (s.plotCtx (keyPlot k)) (leBytes 8 (c.res.stats.headD 0) ++ List.replicate 8 0)
  else s
/-- The steps that a program has requested by HALO and not acknowledged: committed ones, and one whose request is out (R306). -/
def haloOwed (g : Prog) : List (Nat × Nat × Nat × Nat) :=
  g.halos ++ (g.cmds.filter (fun c => opc (word c.words 0) == 0x44 && (c.remote || c.phase == .finished))).map (fun c =>
    (bits (word c.words 0) 43 5, bits (word c.words 0) 38 5, bits (word c.words 0) 30 8, c.step))
/-- A program of a torn context: its commands are aborted, and its HALO acknowledgements given up (R284, R306). [log entry 287 DEDUCED] -/
def tearProg (s : State) (k : Nat) : State :=
  let g := s.prog k
  let s := g.cmds.foldl (fun s c => s.logAtom k c) s
  let s := (haloOwed g).foldl (fun s h => s.zsend h.1 .haloAck 0 [h.2.1, h.2.2.1, h.2.2.2, 1] []) s
  (s.showLbuf k []).setProg k { s.prog k with cmds := [], sigs := [], halos := [], span := none }
/-- FAULT and FREC of a context (R284 step 1). -/
def frecPut (s : State) (c code plot stage pc step : Nat) : State :=
  ((((s.setFld PTR_CTX_CTRL_FAULT code c).setFld PTR_CTX_FREC_PLOT plot c).setFld PTR_CTX_FREC_STAGE stage c).setFld PTR_CTX_FREC_PC pc c).setFld
    PTR_CTX_FREC_STEP (step % 2 ^ 32) c
/-- Steps 1 and 2 of a teardown of context `c` (R284): STATE, FAULT, FREC and CTX_TORN; its programs stop, its Belvedere
requests are discarded, its streams enter STOPPING, its batch groups go to OFF, its DMA channels, receivers and fill channels
stop. A context that is FREE, TEARING or FENCING, and context 0, ignore it (R268, R283); but a fault in the fc of a TEAR is the one recorded.
[log entries 39 DEDUCED, 130 DEDUCED] -/
def tearStart (s : State) (c code plot stage pc step : Nat) (names : List Byte := []) : State :=
  if c = 0 ∨ s.ctxState c ≠ 1 then
    (if c ≠ 0 ∧ s.ctxState c = 2 ∧ code ≠ 0 ∧ (s.ctx c).tearFc = s.fc + 1 then
      (s.frecPut c code plot stage pc step).setCtx c { s.ctx c with tearFc := 0 } else s)
  else
    let s := (s.setFld PTR_CTX_CTRL_STATE 2 c).frecPut c code plot stage pc step
    let s := s.logNamed 0x0707 1 (c % 256) c names
    let s := (s.ctxProgs c).foldl tearProg s
    let s := { s with bel := { s.bel with wait := s.bel.wait.filter (fun w => w.req.ctx != c) } }
    let s := s.bel.eng.foldl (fun (s : State) (x : Nat × BelEng) =>
      let q := x.2.queue.filter (fun r => r.ctx != c)
      if q.length = x.2.queue.length then s
      else
        { s with bel := { s.bel with eng := s.bel.eng.set {} x.1 { x.2 with queue := q } } }.setFld BEL_ENG_STAT_QDEPTH q.length x.1) s
    let s := (List.range 16).foldl (fun s i =>
      if (s.strm i).owner = c ∧ (s.strmState i = 1 ∨ s.strmState i = 2) then (s.strmStop i).setFld PLT_STRM_CFG_STATE 3 i
      else s) s
    let s := s.batchTear c
    let s := (List.range 16).foldl (fun s n => if (s.dma n).ctx = c ∧ s.fld PCI_DMA_CTRL_STATE n ≠ 0 then s.dmaAbort n else s) s
    let s := (List.range 16).foldl (fun s r =>
      if s.fld ETH_RX_CFG_CTX r = c ∧ s.fld ETH_RX_CFG_STATE r ≠ 0 then s.rxStop r else s) s
    let s := (List.range 4).foldl (fun s f =>
      if (s.fillCmd f).ctx = c then s.fillStop f else s) s
    s.setCtx c { tearStep := 2, drainAt := s.tick }
/-- A command fault of program `k` at word `pc` (R283); `names` is what its record names beside. [log entry 131 DEDUCED] -/
def cmdFaultAt (s : State) (k pc code : Nat) (names : List Byte := []) : State :=
  s.tearStart (s.plotCtx (keyPlot k)) code (keyPlot k) (keyStage k) pc (s.prog k).step names
/-- A command fault of program `k` at its own position. -/
def cmdFault (s : State) (k code : Nat) : State := s.cmdFaultAt k (s.prog k).pc code
end State
end Sys2Proof.Machine
end

