-- ==== Sys2Proof/Machine/Wicket.lean ====
section
/-! DEFINITION. Wickets (R97-R100, R133): binding, allocation, signals by programs and by hardware, barriers. -/
namespace Sys2Proof.Machine
open Sys2Proof
/-- WKIND and WID of a waiter (R110): a stage or a plot controller. -/
def waiterOf (k : Nat) : Nat × Nat := if isCond k then (2, keyPlot k) else (1, k)
namespace State
/-- Reset a wicket (R97): COUNT 0, no waiter, barrier mode off, generation tag advanced. -/
def wktReset (s : State) (w : Nat) : State :=
  let g := s.wkt w
  let s := s.setWkt w { gen := (g.gen + 1) % 4096 }
  (((s.setFld PTR_WKT_WKIND 0 w).setFld PTR_WKT_WID 0 w).setFld PTR_WKT_BMODE 0 w)
/-- Whether an agent of context `c` may use wicket `w`: allocated, and owned by `c` (R97, R98, R110). -/
def wktOwned (s : State) (w c : Nat) : Bool := s.on PTR_WKT_V w && s.fld PTR_WKT_OWNER w == c
/-- Add to COUNT, saturating at 2^24 − 1 with WICKET_OVF (R98). -/
def wktAdd (s : State) (w n : Nat) : State :=
  let g := s.wkt w
  if g.count + n ≤ 2 ^ 24 - 1 then s.setWkt w { g with count := g.count + n }
  else (s.setWkt w { g with count := 2 ^ 24 - 1 }).bump 0x020B w
/-- The home side of a remote wait (R307): once COUNT ≥ n it is subtracted, and WAIT_DONE goes to the proxy's chip. -/
def wktRemote (s : State) (w : Nat) : State :=
  let g := s.wkt w
  match g.rwait with
  | some (chip, req, n) =>
    if n ≤ g.count then (s.setWkt w { g with count := g.count - n, rwait := none }).zsend chip .waitDone 0 [req, 0] [] else s
  | none => s
/-- The add of a signal takes effect (R98, R307, R311): a frozen wicket discards it, counted as ISLAND_REFUSED; on a proxy a
WSIG frame goes to its home chip. -/
def wktGive (s : State) (w n : Nat) : State :=
  if s.frozen w then s.zrefused 0x080A
  else match s.proxyOf w with
  | some (chip, rw) => s.zsend chip .wsig 0 [rw, n] []
  | none => (s.wktAdd w n).wktRemote w
/-- A signal by a hardware agent of context `c` (R98): dropped and counted as WICKET_OWNER where it may not signal. -/
def signalHw (s : State) (w c n : Nat) : State :=
  if s.wktOwned w c ∧ ¬ s.on PTR_WKT_BMODE w then s.wktGive w n else s.bump 0x020A w
/-- The program waiting in a WWAIT on wicket `w`, if any. -/
def wktWaiter (s : State) (w : Nat) : Option Nat :=
  (s.par.prog.find? (fun p => match p.2.wait with | .wwait v _ _ => v == w | _ => false)).map (fun p => p.1)
/-- End every wait pending on wicket `w` (R97): a WWAIT and every barrier participant fault WICKET_OWNER; a pending
WAIT_REQ of a remote proxy is answered REFUSED. -/
def wktEndWaits (s : State) (w : Nat) : State :=
  let hit := s.par.prog.filter (fun p => match p.2.wait with
    | .wwait v _ _ => v == w
    | .remote v _ _ => v == w
    | .barrier v _ _ => v == w
    | _ => false)
  let s := hit.foldl (fun s p => s.cmdFault p.1 0x020A) s
  match (s.wkt w).rwait with
  | some (chip, req, _) => s.zsend chip .waitDone 0 [req, 1] []
  | none => s
/-- A write of a PTR_WKT entry (R97, R110): it ends the pending waits and resets the wicket, allocated to OWNER or free. -/
def wktWrite (s : State) (w owner : Nat) (v : Bool) : State :=
  let s := (s.wktEndWaits w).wktReset w
  (s.setFld PTR_WKT_OWNER owner w).setFld PTR_WKT_V (b2n v) w
/-- Whether program `k` may wait on `w`, as its bound waiter or as the first to wait (R97, R99). -/
def canBind (s : State) (w k : Nat) : Bool :=
  s.fld PTR_WKT_WKIND w == 0 || (s.fld PTR_WKT_WKIND w == (waiterOf k).1 && s.fld PTR_WKT_WID w == (waiterOf k).2)
/-- Bind program `k` as the waiter of `w`. -/
def bindWaiter (s : State) (w k : Nat) : State :=
  (s.setFld PTR_WKT_WKIND (waiterOf k).1 w).setFld PTR_WKT_WID (waiterOf k).2 w
/-- A wait on wicket `w` has taken `n` signals (R207): where it is a stream's wicket, the pacer's oldest signals of that plot
are consumed, the last of them the conductor's band. [log entry 142 DEDUCED] -/
def strmConsume (s : State) (w n : Nat) : State :=
  if n = 0 then s
  else
    { s with str := s.str.map (fun x =>
        let st := x.2
        if s.fld PLT_STRM_CFG_STATE x.1 = 0 then x
        else if w = Config.pacerWicket x.1 0 % 131072 then
          (x.1, { st with sigsA := st.sigsA.drop n, gotA := ((st.sigsA.take n).getLast?).or st.gotA })
        else if w = Config.pacerWicket x.1 1 % 131072 then
          (x.1, { st with sigsB := st.sigsB.drop n, gotB := ((st.sigsB.take n).getLast?).or st.gotB })
        else x) }
/-- The signals of a stream that its wicket `w` counted are forgotten with its COUNT (R258, R261). [log entry 268 DEDUCED] -/
def strmForget (s : State) (w : Nat) : State :=
  { s with str := s.str.map (fun x =>
      if s.fld PLT_STRM_CFG_STATE x.1 = 0 then x
      else if w = Config.pacerWicket x.1 0 % 131072 then (x.1, { x.2 with sigsA := [] })
      else if w = Config.pacerWicket x.1 1 % 131072 then (x.1, { x.2 with sigsB := [] })
      else x) }
end State
end Sys2Proof.Machine
end

