-- ==== Sys2Proof/Machine/Chan.lean ====
section
/-! DEFINITION. The channel fields of a TDESC (Table 5.3) and the check of a plot's channels (R96). -/
namespace Sys2Proof.Machine
open Sys2Proof
/-- Fields of a TDESC (Table 5.3). -/
def tdKind (ws : List Nat) : Nat := bits (word ws 0) 46 2
def tdBank0 (ws : List Nat) : Nat := bits (word ws 1) 0 5
def tdDepth (ws : List Nat) : Nat := bits (word ws 1) 5 3
/-- Banks per half of a PAIR or per slot of a CHAN. -/
def tdSb (ws : List Nat) : Nat := if tdKind ws = 3 then bits (word ws 1) 5 2 + 1 else bits (word ws 1) 8 2 + 1
def tdReaders (ws : List Nat) : Nat := bits (word ws 1) 10 3 + 1
def tdReader (ws : List Nat) : Bool := bit (word ws 1) 13
def tdChid (ws : List Nat) : Nat := bits (word ws 1) 14 8
def tdRstage (ws : List Nat) : Nat := bits (word ws 1) 22 8
namespace State
/-- The declarations of channel `c`: stage, words, and the word of the TDESC. -/
def chanDecls (s : State) (p c : Nat) : List (Nat × List Nat × Nat) :=
  (List.range (s.plot p).stages).flatMap (fun st =>
    ((s.prog (progKey p st)).tds.filter (fun x => tdKind x.2 == 2 && tdChid x.2 == c)).map (fun x => (st, x.2.take 4, x.2.getD 4 0)))
/-- Whether a Belvedere SLOT image of the plot's context names channel `c`. [log entry 128 DEDUCED] -/
def belNames (s : State) (p c : Nat) : Bool :=
  (List.range 256).any (fun i =>
    s.fld BEL_IMG_W0_KIND i == 3 && s.fld BEL_IMG_W0_OWNER i == s.plotCtx p && bits (s.rd .BEL_IMG_W1 i) 18 8 == c)
/-- Whether the declarations of a channel agree (R96): one stage produces it, however many of its slots declare it. Belvedere may take the place of the producer or of a reader (R178). -/
def chanAgrees (bel : Bool) (ds : List (Nat × List Nat × Nat)) : Bool :=
  match ds with
  | [] => true
  | (_, w, _) :: _ =>
    let shape := fun (x : List Nat) => [tdRstage x, tdBank0 x, tdDepth x, tdSb x, tdReaders x]
    let readers := ds.filter (fun x => tdReader x.2.1)
    let np := ((ds.filter (fun x => !tdReader x.2.1)).map (fun x => x.1)).eraseDups.length
    ds.all (fun x => shape x.2.1 == shape w)
      && (if bel then np ≤ 1 && readers.length ≤ tdReaders w else np == 1 && readers.length == tdReaders w)
      && (readers.any (fun x => x.1 == tdRstage w) || (bel && readers.isEmpty))
/-- The stage and word of the TDESC at which R96 fails, if it does. -/
def chanFault (s : State) (p : Nat) : Option (Nat × Nat) :=
  (List.range 256).findSome? (fun c =>
    let ds := s.chanDecls p c
    if ds.isEmpty ∨ chanAgrees (s.belNames p c) ds then none else ds.head?.map (fun x => (x.1, x.2.2)))
/-- Every stage of the plot has run its descriptor section. -/
def allDesc (s : State) (p : Nat) : Bool := (List.range (s.plot p).stages).all (fun st =>
  (s.prog (progKey p st)).descDone || (s.prog (progKey p st)).halted)
end State
end Sys2Proof.Machine
end

