-- ==== Sys2Proof/Machine/Front.lean ====
section
/-! DEFINITION. The sequencer's front end (R89, R116): when an instruction may issue, moving on from it, control
instructions (R137-R140), synchronisation (R133), AT (R43, R134), and the descriptor section (R101, R117-R121). -/
namespace Sys2Proof.Machine
open Sys2Proof
/-- Program key of an operand. -/
def pkey : ProgId → Nat
  | .stage p st => progKey p st
  | .cond p => condKey p
namespace State
/-- The words of the instruction at a program's PC. -/
def instrAt (s : State) (k : Nat) : List Nat :=
  let g := s.prog k
  match opLen (opc (g.code.getD g.pc 0)) with
  | some n => (g.code.drop g.pc).take n
  | none => []
/-- The plot of a program is ON, not for the one cycle before a latched stop (R266), a slot holds it, its context is ACTIVE, and no
pre-emption has stopped dispatch. -/
def plotLive (s : State) (p : Nat) : Bool :=
  s.plotState p == 2 && (s.running p).isSome && s.ctxActive (s.plotCtx p) && (s.plot p).act == .idle
    && !s.brief.any (fun f => match f with | .plot q => q.val == p | _ => false)
/-- The program may issue the instruction of opcode `o` at its PC: it runs, waits for nothing, and stands there. [log entry 77 DEDUCED] -/
def canIssue (s : State) (k o : Nat) : Bool :=
  let g := s.prog k
  s.plotLive (keyPlot k) && g.running && !g.halted && g.wait == .none && !(s.instrAt k).isEmpty
    && opc (word (s.instrAt k) 0) == o
/-- Stop a program at its own PC (R140); a conductor's stop marks its slot DONE and logs PLOT_DONE (R275). -/
def haltProg (s : State) (k : Nat) : State :=
  let s := s.setProg k { s.prog k with halted := true }
  if isCond k then
    match s.running (keyPlot k) with
    | some j => (s.setFld PLT_SLOT_STAT_STATE 3 (keyPlot k) j).logFree 0x0709 3 (keyPlot k) (s.plotCtx (keyPlot k))
    | none => s
  else s
/-- Put a program at word `pc`: past its last word it stops as at a HALT (R140); after the descriptor section a resumed
program goes to its outermost loop body (R260). -/
def goto (s : State) (k pc : Nat) : State :=
  let g := s.prog k
  if g.code.length ≤ pc then s.setProg k { g with pc := pc } |>.haltProg k
  else if isDesc (opc (g.code.getD pc 0)) then s.setProg k { g with pc := pc }
  else
    let g := { g with descDone := true }
    match g.skipTo with
    | none => s.setProg k { g with pc := pc }
    | some lp =>
      let cnt := bits (g.code.getD lp 0) 0 32
      let e := (endOf g.code lp).getD lp
      if cnt ≠ 0 ∧ cnt ≤ g.step then
        s.setProg k { g with pc := e + 1, skipTo := none, outerDone := true, qpc := e + 1, qstep := g.step } |>.showPtr k
      else
        (s.setProg k { g with pc := lp + 1, skipTo := none, loops := [⟨lp + 1, e, cnt, 0, true⟩], qpc := lp + 1,
                              qstep := g.step }).showPtr k
/-- Go on past the instruction at PC. -/
def advance (s : State) (k : Nat) : State := s.goto k ((s.prog k).pc + (s.instrAt k).length)
/-- A plot controller beats on each instruction it issues (R323): `t` is what the issue has made of `s`. -/
def ctlBeat (s : State) (k : Nat) (t : State) : State :=
  if isCond k ∧ t.prog k ≠ s.prog k then t.beat (1024 + keyPlot k) else t
/-- Issue instruction `o` of program `k`: `f` is its meaning on its words; elsewhere the command is not the program's. -/
def issue (s : State) (k o : Nat) (f : List Nat → State) : State :=
  if s.canIssue k o then s.ctlBeat k (f (s.instrAt k)) else s

/-- The check of the plot's channels (R96), once every stage has run its descriptor section. -/
def chanCheck (s : State) (p : Nat) : State :=
  if s.plotLive p ∧ s.allDesc p ∧ ¬ (s.plot p).chanOk then
    match s.chanFault p with
    | some (st, pc) => s.cmdFaultAt (progKey p st) pc 0x0209
    | none => s.setPlot p { s.plot p with chanOk := true }
  else s

/-! Control (R137-R140). -/

/-- LOOP (R137): the first at depth 0 is the outermost; an inner COUNT of 0 skips, and one above 65,535 faults. -/
def doLoop (s : State) (k : Nat) (ws : List Nat) : State :=
  let g := s.prog k
  let cnt := bits (word ws 0) 0 32
  let e := (endOf g.code g.pc).getD g.pc
  let outer := g.loops.isEmpty ∧ ¬ g.outerDone
  if outer then
    s.setProg k { g with pc := g.pc + 1, loops := [⟨g.pc + 1, e, cnt, 0, true⟩] }
  else if 65535 < cnt then s.cmdFault k 0x020D
  else if cnt = 0 then s.goto k (e + 1)
  else s.setProg k { g with pc := g.pc + 1, loops := ⟨g.pc + 1, e, cnt, 0, false⟩ :: g.loops }
/-- ENDLOOP (R137, R138): an inner loop goes round or ends; the outermost waits for its drain point. -/
def doEndloop (s : State) (k : Nat) : State :=
  let g := s.prog k
  match g.loops with
  | [] => s
  | f :: t =>
    if f.outer then s.setProg k { g with wait := .drain }
    else if f.idx + 1 < f.count then s.setProg k { g with pc := f.start, loops := { f with idx := f.idx + 1 } :: t }
    else (s.setProg k { g with loops := t }).goto k (g.pc + 1)
/-- The index of loop level `lvl`, counted outward from the innermost open loop; the outermost loop's is the step (R103,
R104, R139). -/
def loopIdx (g : Prog) (lvl : Nat) : Nat :=
  match g.loops[lvl - 1]? with
  | some f => if f.outer then g.step else f.idx
  | none => 0
/-- Whether a BR's condition holds (R139). -/
def brTaken (g : Prog) (w : Nat) : Bool :=
  let imm := bits w 32 16
  let i := loopIdx g (bits w 49 2)
  match bits w 51 3 with
  | 0 => true
  | 1 => i == imm
  | 2 => i < imm
  | 3 => imm ≤ i
  | 4 => g.step % imm == bits w 16 16
  | _ => g.timeout
/-- Whether a BR's operands are bad (R139): STEPMOD by 0; EQ, LT or GE at level 0 or above the open depth. -/
def brBad (g : Prog) (w : Nat) : Bool :=
  let c := bits w 51 3
  let lvl := bits w 49 2
  (c == 4 && bits w 32 16 == 0) || ((c == 1 || c == 2 || c == 3) && (lvl == 0 || g.loops.length < lvl))
/-- Whether word `t` lies in the body of the innermost open loop, its ENDLOOP inside, and in no nested loop's body
(R139). -/
def brInside (g : Prog) (t : Int) : Bool :=
  let lo : Int := match g.loops.head? with | some f => (f.start : Int) | none => 0
  let hi : Int := match g.loops.head? with | some f => (f.endPc : Int) | none => (g.code.length : Int) - 1
  let nested := ((parseProg g.code).getD []).any (fun i =>
    opc (word i.2 0) == 0x70 && bits (word i.2 0) 53 1 == 0 && decide (lo ≤ (i.1 : Int)) &&
    decide ((i.1 : Int) < t ∧ t ≤ ((endOf g.code i.1).getD i.1 : Nat)))
  decide (lo ≤ t ∧ t ≤ hi) && !nested
/-- BR (R139). BR.TO clears TIMEOUT whether or not it is taken. -/
def doBr (s : State) (k : Nat) (ws : List Nat) : State :=
  let g := s.prog k
  let w := word ws 0
  let t : Int := (g.pc : Int) + toSigned 16 (bits w 0 16)
  if brBad g w then s.cmdFault k 0x020D
  else if ¬ brInside g t then s.cmdFault k 0x020F
  else
    let taken := brTaken g w
    let s := if bits w 51 3 = 5 then s.setProg k { g with timeout := false } else s
    if taken then s.goto k t.toNat else s.goto k (g.pc + 1)
/-- Every earlier command of the program has committed, and with BEL every Belvedere request has completed (R140). -/
def fenceOk (s : State) (k : Nat) (bel : Bool) : Bool :=
  let g := s.prog k
  g.cmds.isEmpty && (!bel || g.belPend == 0)
/-- FENCE (R140). -/
def doFence (s : State) (k : Nat) (ws : List Nat) : State :=
  let bel := bit (word ws 0) 53
  if s.fenceOk k bel then s.advance k else s.setProg k { s.prog k with wait := .fence bel }

/-! Waiting for a line (R43, R134). -/

/-- The target frame of an AT or DUE: relative to the step when REL = 1. -/
def relFrame (rel : Bool) (step f : Nat) : Nat := if rel then (step + f) % 2 ^ 32 else f
/-- Whether an AT's target is reached. -/
def atReached (s : State) (kind idx f l p : Nat) : Bool :=
  if kind = 0 then posReached (s.lcPos idx) (f, l, p)
  else serialGe 64 (s.tb16 idx % 2 ^ 64) f
/-- Whether an AT waits on a line clock in OFF. -/
def atOff (s : State) (kind idx : Nat) : Bool := kind == 0 && (s.lclock idx).mode == 0
/-- AT (R43, R134): OPERAND_BAD on a bad target, TIME_BAD_REF on a clock in OFF, at once and counted when passed. -/
def doAt (s : State) (k : Nat) (ws : List Nat) : State :=
  let w := word ws 0
  let kind := bits w 53 1; let idx := bits w 50 3; let rel := bit w 49
  let f := if kind = 0 then relFrame rel (s.prog k).step (bits w 0 32) else word ws 1
  let l := bits (word ws 1) 16 16; let p := bits (word ws 1) 0 16
  if (kind = 0 ∧ (3 < idx ∨ l = 65535)) ∨ (rel ∧ kind = 1) then s.cmdFault k 0x020D
  else if s.atOff kind idx then s.cmdFault k 0x0608
  else if s.atReached kind idx f l p then (s.bump 0x0607 (keyPlot k)).advance k
  else s.setProg k { s.prog k with wait := .at kind idx f l p }
/-- A waiting AT (R43): faults when its line clock is OFF, and completes at or past its target. -/
def atStep (s : State) (k : Nat) : State :=
  match (s.prog k).wait with
  | .at kind idx f l p =>
    if s.atOff kind idx then s.cmdFault k 0x0608
    else if s.atReached kind idx f l p then (s.setProg k { s.prog k with wait := .none }).advance k
    else s
  | _ => s

/-- Line clock `n` has turned OFF: every AT that waits on it faults, in that tick (R43). -/
def atClockOff (s : State) (n : Nat) : State :=
  (s.par.prog.filter (fun x => match x.2.wait with | .at 0 i _ _ _ => i == n | _ => false)).foldl
    (fun s x => s.cmdFault x.1 0x0608) s
/-- Line clock `n` takes its shadows (R41, R42); where it turns OFF the slots of its plots are charged in their class so far (R83), and
the ATs on it end (R43). -/
def lcApply (s : State) (n : Nat) (now : Bool) : State :=
  if (s.lclock n).mode ≠ 0 ∧ ((s.lcApplyShadows n now).lclock n).mode = 0 then
    (((((List.range 32).filter (fun p => s.fld PLT_CTRL_LC p == n)).foldl charge s).lcApplyShadows n now).atClockOff n)
  else s.lcApplyShadows n now

/-! Synchronisation on wickets (R97-R100, R133). -/

/-- WWAIT (R99, R133, R307, R311): N = 0 completes at once; a wicket that may not be waited on faults; on a proxy a WAIT_REQ
goes to its home chip; a frozen wicket completes a wait only by TMO. -/
def doWwait (s : State) (k : Nat) (ws : List Nat) : State :=
  let w := bits (word ws 0) 36 17; let n := bits (word ws 0) 20 16; let tmo := bits (word ws 0) 0 20
  if ¬ s.wktOwned w (s.plotCtx (keyPlot k)) ∨ s.on PTR_WKT_BMODE w ∨ ¬ s.canBind w k then s.cmdFault k 0x020A
  else
    let s := s.bindWaiter w k
    let g := s.wkt w
    let dl := if tmo = 0 then none else some (s.fc + 64 * tmo)
    if n = 0 then s.advance k
    else match s.proxyOf w with
    | some (chip, rw) =>
      let s := s.setProg k { s.prog k with wait := .remote w n dl, waitAt := s.fc }
      if s.frozen w then s else s.zsend chip .waitReq 0 [rw, w, n] []
    | none =>
      if n ≤ g.count ∧ ¬ s.frozen w then ((s.setWkt w { g with count := g.count - n }).strmConsume w n).advance k
      else s.setProg k { s.prog k with wait := .wwait w n dl, waitAt := s.fc }
/-- A WWAIT whose COUNT suffices is released, subtracting N in the same fc (R99). -/
def wwaitRelease (s : State) (k : Nat) : State :=
  match (s.prog k).wait with
  | .wwait w n _ =>
    let g := s.wkt w
    if n ≤ g.count ∧ ¬ s.frozen w then
      (((s.setWkt w { g with count := g.count - n }).strmConsume w n).setProg k
        { s.prog k with wait := .none, lastWait := some (w, n) }).advance k
    else s
  | _ => s
/-- A wait ends as timed out (R133): nothing is subtracted, TIMEOUT is set, WAIT_TIMEOUT counts. -/
def waitExpired (s : State) (k : Nat) : State :=
  ((s.bump 0x0210 (keyPlot k)).setProg k { s.prog k with wait := .none, timeout := true }).advance k
/-- A WWAIT's timeout expires before COUNT ≥ N (R133); on a proxy WAIT_CANCEL goes out and the wait goes on for its answer
(R307), unless the proxy is frozen (R311). A deadline of 0 is one whose WAIT_CANCEL has gone. -/
def wwaitTimeout (s : State) (k : Nat) : State :=
  match (s.prog k).wait with
  | .wwait w n (some d) => if d ≤ s.fc ∧ ((s.wkt w).count < n ∨ s.frozen w) then s.waitExpired k else s
  | .remote w n (some d) =>
    if s.fc < d then s
    else if s.frozen w then s.waitExpired k
    else if d = 0 then s
    else match s.proxyOf w with
    | some (chip, rw) => (s.setProg k { s.prog k with wait := .remote w n (some 0) }).zsend chip .waitCancel 0 [rw, w] []
    | none => s.waitExpired k
  | _ => s
/-- WSIG (R98, R133): N = 0 faults OPERAND_BAD, a foreign wicket WICKET_OWNER; the add takes effect once
every earlier command of the program has committed. -/
def doWsig (s : State) (k : Nat) (ws : List Nat) : State :=
  let w := bits (word ws 0) 36 17; let n := bits (word ws 0) 20 16
  if n = 0 then s.cmdFault k 0x020D
  else if ¬ s.wktOwned w (s.plotCtx (keyPlot k)) ∨ s.on PTR_WKT_BMODE w then s.cmdFault k 0x020A
  else
    let g := s.prog k
    (s.setProg k { g with sigs := g.sigs ++ [⟨w, n, g.seqNext, g.pc⟩] }).advance k
/-- Whether a WSIG's turn has come: every command dispatched before it has committed (R98). -/
def sigReady (g : Prog) (x : Sig) : Bool := g.cmds.all (fun c => x.seq ≤ c.seq)
/-- The k-th participant of the barrier has arrived: its release is due (R100). [log entry 262 DEDUCED] -/
def barrierFull (g : Wicket) : Bool := !g.arrived.isEmpty && decide (g.k ≤ g.arrived.length)
/-- The k that a further arrival must name: that of the first one of its release (R100). An arrival between the k-th one and the release
is the next release's. [log entry 262 DEDUCED] -/
def barrierK (g : Wicket) (n : Nat) : Nat :=
  if g.arrived.isEmpty then n
  else if barrierFull g then (if g.arrived.length = g.k then n else g.nextK)
  else g.k
/-- BARRIER (R100, R133): a wicket with a bound waiter, one the program may not use, a second arrival and a differing k
fault WICKET_OWNER; the k-th arrival makes the release due. [log entry 262 DEDUCED] -/
def doBarrier (s : State) (k : Nat) (ws : List Nat) : State :=
  let w := bits (word ws 0) 36 17; let n := bits (word ws 0) 28 8 + 1; let grp := bit (word ws 0) 27
  let g := s.wkt w
  if ¬ s.wktOwned w (s.plotCtx (keyPlot k)) ∨ s.fld PTR_WKT_WKIND w ≠ 0 then s.cmdFault k 0x020A
  else
    let s := s.setFld PTR_WKT_BMODE 1 w
    if g.arrived.contains k ∨ n ≠ barrierK g n then s.cmdFault k 0x020A
    else
      let full := barrierFull g
      let s := s.setWkt w { g with k := if full then g.k else n, nextK := if full then n else g.nextK, arrived := g.arrived ++ [k],
                                   count := g.arrived.length + 1, group := g.group || (grp && !full) }
      s.setProg k { s.prog k with wait := .barrier w n grp }
/-- A program waits in a BARRIER with GROUP = 1. -/
def waitsGroup (s : State) (k : Nat) : Bool := match (s.prog k).wait with | .barrier _ _ true => true | _ => false
/-- Release the participants of a barrier (R100): each goes on, its activity buckets are set to CAP (R249), and the
wicket waits for a new first arrival, or stands at those that have come since. -/
def barrierOpen (s : State) (w : Nat) : State :=
  let g := s.wkt w
  let rest := g.arrived.drop g.k
  let s := (g.arrived.take g.k).foldl (fun s k =>
    let s := (s.setProg k { s.prog k with wait := .none }).advance k
    match s.stageLog (keyPlot k) (keyStage k) with
    | some q => s.fillBucket q
    | none => s) s
  s.setWkt w { s.wkt w with arrived := rest, k := g.nextK, nextK := 0, count := rest.length, group := rest.any s.waitsGroup, released := false }
/-- The arrivals of a plot's programs at barriers are withdrawn: a resumed program arrives again (R104). [log entry 263 DESIGN CHOICE] -/
def barrierLeave (s : State) (p : Nat) : State :=
  s.par.wkt.foldl (fun s x =>
    let a := x.2.arrived.filter (fun k => keyPlot k != p)
    if a.length = x.2.arrived.length then s else s.setWkt x.1 { x.2 with arrived := a, count := a.length }) s

/-! The descriptor section (R101, R117-R121). -/

/-- Zero-point range of a code (Table 3.1) as the ZP field must hold it; other codes take 0 only. -/
def zpOk (code zp : Nat) : Bool :=
  match code with
  | 0 => true
  | 1 => true
  | 2 => zp ≤ 15
  | 3 => zp ≤ 7 || 248 ≤ zp
  | _ => zp == 0
/-- The room a slot or half needs (R118): codes, 64-byte aligned scale stream of 2-byte entries at its largest, and the
64-byte header. -/
def roomFor (code rank : Nat) (ds : List Nat) : Nat :=
  let codes := denseBytes code ds
  if isCoded code then
    let axes := (List.range (rank + 1)) ++ [4]
    let n := (axes.map (fun a => scaleEntries ds a)).foldl max 0
    cdiv codes 64 * 64 + 2 * n + 64
  else codes + 64
/-- Whether a TDESC passes its checks (R118); `mask` is the bank mask of the stage whose banks it names: its own for a
PAIR, RSTAGE's for a CHAN. The packing check takes a tensor of two or more dimensions, RANK ≥ 1 as the field counts them.
[log entries 91 DEDUCED, 264 DEDUCED] -/
def tdescOk (mask : Nat) (ws : List Nat) : Bool :=
  let w0 := word ws 0; let w1 := word ws 1; let w2 := word ws 2; let w3 := word ws 3
  let kind := bits w0 46 2; let code := bits w0 42 4; let zp := bits w0 34 8; let rank := bits w0 32 2
  let ring := bits w0 16 16
  let ds := tdDims ws
  let raw := fun i => bits w2 (16 * i) 16
  let dense := bits w3 32 32 == 0
  let extOk := (List.range 4).all (fun i => if i ≤ rank then raw i != 0 else raw i == 0)
  let packOk := !(dense && 1 ≤ rank && (((code == 2 || code == 3 || code == 7) && raw 0 % 2 == 1) || (code == 6 && raw 0 % 4 != 0)))
  let base := ring != 0 && zpOk code zp && extOk && packOk
  let b0 := bits w1 0 5
  if kind = 2 then
    let sb := bits w1 8 2 + 1; let n := (bits w1 5 3 + 1) * sb
    base && ring == 1 && bits w0 0 16 == 0 && w3 == 0 && bits w1 5 3 != 0 && b0 + n ≤ 24
      && (List.range n).all (fun i => bit mask (b0 + i)) && roomFor code rank ds ≤ sb * 0x10000
  else if kind = 3 then
    let sb := bits w1 5 2 + 1; let n := 2 * sb
    base && ring == 1 && bits w0 0 16 == 0 && w3 == 0 && b0 + n ≤ 24
      && (List.range n).all (fun i => bit mask (b0 + i)) && roomFor code rank ds ≤ sb * 0x10000
  else if kind = 1 then
    base && (bits w1 0 48 + (ring - 1) * (bits w3 0 32 * 64) + tdBytes ws ≤ 0x6000000)
  else base
/-- Fill a descriptor slot, or fault DESC_BAD and leave it empty (R101, R118). An RSTAGE outside the plot has no bank mask; the check of
the plot's channels finds it (R96). -/
def doTdesc (s : State) (k : Nat) (ws : List Nat) : State :=
  let g := s.prog k
  let rs := bits (word ws 1) 22 8
  let mask := if bits (word ws 0) 46 2 = 2 then
      (if rs < (s.plot (keyPlot k)).stages then (s.prog (progKey (keyPlot k) rs)).mask else 2 ^ 24 - 1) else g.mask
  if tdescOk mask ws then
    ((s.setProg k { g with tds := g.tds.set [] (bits (word ws 0) 48 6) (ws ++ [g.pc]) }).advance k).chanCheck (keyPlot k)
  else (s.setProg k { g with tds := g.tds.erase (bits (word ws 0) 48 6) }).cmdFault k 0x020C
/-- SDESC (R119, R120): RING = 0 faults DESC_BAD. -/
def doSdesc (s : State) (k : Nat) (ws : List Nat) : State :=
  let g := s.prog k
  let i := bits (word ws 0) 49 5
  if bits (word ws 0) 16 16 ≠ 0 then ((s.setProg k { g with sds := g.sds.set [] i ws }).advance k).chanCheck (keyPlot k)
  else (s.setProg k { g with sds := g.sds.erase i }).cmdFault k 0x020C
/-- KDESC (R121): a zero kernel extent or dilation, or a group count without GROUPED, faults DESC_BAD. -/
def doKdesc (s : State) (k : Nat) (ws : List Nat) : State :=
  let g := s.prog k
  let w := word ws 0
  let i := bits w 50 4
  if bits w 42 6 ≠ 0 ∧ bits w 36 6 ≠ 0 ∧ bits w 22 6 ≠ 0 ∧ bits w 16 6 ≠ 0 ∧ (bits w 8 8 = 0 ∨ bits w 48 2 = 2) then
    ((s.setProg k { g with kds := g.kds.set [] i ws }).advance k).chanCheck (keyPlot k)
  else (s.setProg k { g with kds := g.kds.erase i }).cmdFault k 0x020C
end State
end Sys2Proof.Machine
end

