-- ==== Sys2Proof/Machine/Tables.lean ====
section
/-! DEFINITION. The tables of the transcendental functions (R77, R254): each entry is the FP32 value, rounded to nearest
even, of the exact quantity its docstring states. -/
namespace Sys2Proof.Machine
/-- TX[i] = 2^(i/64). -/
def tabTX : List Nat := [
  0x3F800000, 0x3F8164D2, 0x3F82CD87, 0x3F843A29, 0x3F85AAC3, 0x3F871F62, 0x3F88980F, 0x3F8A14D5,
  0x3F8B95C2, 0x3F8D1ADF, 0x3F8EA43A, 0x3F9031DC, 0x3F91C3D3, 0x3F935A2B, 0x3F94F4F0, 0x3F96942D,
  0x3F9837F0, 0x3F99E046, 0x3F9B8D3A, 0x3F9D3EDA, 0x3F9EF532, 0x3FA0B051, 0x3FA27043, 0x3FA43516,
  0x3FA5FED7, 0x3FA7CD94, 0x3FA9A15B, 0x3FAB7A3A, 0x3FAD583F, 0x3FAF3B79, 0x3FB123F6, 0x3FB311C4,
  0x3FB504F3, 0x3FB6FD92, 0x3FB8FBAF, 0x3FBAFF5B, 0x3FBD08A4, 0x3FBF179A, 0x3FC12C4D, 0x3FC346CD,
  0x3FC5672A, 0x3FC78D75, 0x3FC9B9BE, 0x3FCBEC15, 0x3FCE248C, 0x3FD06334, 0x3FD2A81E, 0x3FD4F35B,
  0x3FD744FD, 0x3FD99D16, 0x3FDBFBB8, 0x3FDE60F5, 0x3FE0CCDF, 0x3FE33F89, 0x3FE5B907, 0x3FE8396A,
  0x3FEAC0C7, 0x3FED4F30, 0x3FEFE4BA, 0x3FF28177, 0x3FF5257D, 0x3FF7D0DF, 0x3FFA83B3, 0x3FFD3E0C]
/-- TL[i] = log2(1 + (2i + 1)/128). -/
def tabTL : List Nat := [
  0x3C37F286, 0x3D08E68F, 0x3D626FD6, 0x3D9D517F, 0x3DC8C50B, 0x3DF39761, 0x3E0EE68D, 0x3E23B550,
  0x3E383A17, 0x3E4C76E8, 0x3E606DB6, 0x3E74205F, 0x3E83C857, 0x3E8D602E, 0x3E96D888, 0x3EA03232,
  0x3EA96DF0, 0x3EB28C7F, 0x3EBB8E96, 0x3EC474E4, 0x3ECD4012, 0x3ED5F0C4, 0x3EDE8797, 0x3EE70525,
  0x3EEF69FF, 0x3EF7B6B4, 0x3EFFEBCD, 0x3F0404E8, 0x3F08089E, 0x3F0C0146, 0x3F0FEF1F, 0x3F13D260,
  0x3F17AB44, 0x3F1B7A00, 0x3F1F3ECA, 0x3F22F9D5, 0x3F26AB53, 0x3F2A5374, 0x3F2DF268, 0x3F31885C,
  0x3F35157D, 0x3F3899F5, 0x3F3C15EE, 0x3F3F8991, 0x3F42F506, 0x3F465872, 0x3F49B3FB, 0x3F4D07C7,
  0x3F5053F7, 0x3F5398AF, 0x3F56D60F, 0x3F5A0C3A, 0x3F5D3B4E, 0x3F60636A, 0x3F6384AD, 0x3F669F35,
  0x3F69B31E, 0x3F6CC083, 0x3F6FC781, 0x3F72C832, 0x3F75C2B0, 0x3F78B714, 0x3F7BA578, 0x3F7E8DF2]
/-- TI[i] = 1/(1 + (2i + 1)/128). -/
def tabTI : List Nat := [
  0x3F7E03F8, 0x3F7A232D, 0x3F76603E, 0x3F72B9D6, 0x3F6F2EB7, 0x3F6BBDB3, 0x3F6865AC, 0x3F652598,
  0x3F61FC78, 0x3F5EE95C, 0x3F5BEB62, 0x3F5901B2, 0x3F562B81, 0x3F53680D, 0x3F50B6A0, 0x3F4E168A,
  0x3F4B8728, 0x3F4907DA, 0x3F46980C, 0x3F443730, 0x3F41E4BC, 0x3F3FA030, 0x3F3D6910, 0x3F3B3EE7,
  0x3F392144, 0x3F370FBB, 0x3F3509E7, 0x3F330F63, 0x3F311FD4, 0x3F2F3ADE, 0x3F2D602B, 0x3F2B8F6A,
  0x3F29C84A, 0x3F280A81, 0x3F2655C4, 0x3F24A9CF, 0x3F23065E, 0x3F216B31, 0x3F1FD80A, 0x3F1E4CAD,
  0x3F1CC8E1, 0x3F1B4C70, 0x3F19D723, 0x3F1868C8, 0x3F17012E, 0x3F15A025, 0x3F144581, 0x3F12F114,
  0x3F11A2B4, 0x3F105A38, 0x3F0F177A, 0x3F0DDA52, 0x3F0CA29C, 0x3F0B7034, 0x3F0A42F8, 0x3F091AC7,
  0x3F07F781, 0x3F06D905, 0x3F05BF37, 0x3F04A9FA, 0x3F039930, 0x3F028CC0, 0x3F01848E, 0x3F008081]
/-- TS[i] = 1/sqrt((1 + (2(i mod 64) + 1)/128) × 2^floor(i/64)). Entries from 0. -/
def tabTS0 : List Nat := [
  0x3F7F017E, 0x3F7D0D3E, 0x3F7B2452, 0x3F79464E, 0x3F7772CB, 0x3F75A969, 0x3F73E9CB, 0x3F723399,
  0x3F708681, 0x3F6EE232, 0x3F6D4660, 0x3F6BB2C5, 0x3F6A271A, 0x3F68A31D, 0x3F672691, 0x3F65B139,
  0x3F6442DB, 0x3F62DB41, 0x3F617A36, 0x3F601F87, 0x3F5ECB04, 0x3F5D7C7F, 0x3F5C33CC, 0x3F5AF0BF,
  0x3F59B330, 0x3F587AF7, 0x3F5747EE, 0x3F5619F2, 0x3F54F0DF, 0x3F53CC93, 0x3F52ACEE, 0x3F5191D1,
  0x3F507B1D, 0x3F4F68B6, 0x3F4E5A7F, 0x3F4D505E, 0x3F4C4A38, 0x3F4B47F4, 0x3F4A497A, 0x3F494EB3,
  0x3F485787, 0x3F4763E2, 0x3F4673AC, 0x3F4586D3, 0x3F449D42, 0x3F43B6E6, 0x3F42D3AD, 0x3F41F383,
  0x3F411659, 0x3F403C1C, 0x3F3F64BD, 0x3F3E902C, 0x3F3DBE58, 0x3F3CEF34, 0x3F3C22B1, 0x3F3B58C0,
  0x3F3A9154, 0x3F39CC60, 0x3F3909D6, 0x3F3849AA, 0x3F378BD0, 0x3F36D03D, 0x3F3616E4, 0x3F355FBA]
/-- TS[i] = 1/sqrt((1 + (2(i mod 64) + 1)/128) × 2^floor(i/64)). Entries from 64. -/
def tabTS1 : List Nat := [
  0x3F3450FC, 0x3F32EF41, 0x3F319589, 0x3F304387, 0x3F2EF8F2, 0x3F2DB587, 0x3F2C7904, 0x3F2B432A,
  0x3F2A13C0, 0x3F28EA8C, 0x3F27C759, 0x3F26A9F4, 0x3F25922C, 0x3F247FD3, 0x3F2372BD, 0x3F226ABE,
  0x3F2167AF, 0x3F206968, 0x3F1F6FC4, 0x3F1E7AA0, 0x3F1D89D9, 0x3F1C9D4E, 0x3F1BB4E1, 0x3F1AD073,
  0x3F19EFE6, 0x3F191320, 0x3F183A05, 0x3F17647C, 0x3F16926C, 0x3F15C3BC, 0x3F14F857, 0x3F143026,
  0x3F136B13, 0x3F12A90B, 0x3F11E9F9, 0x3F112DCA, 0x3F10746D, 0x3F0FBDCE, 0x3F0F09DD, 0x3F0E5889,
  0x3F0DA9C2, 0x3F0CFD79, 0x3F0C539F, 0x3F0BAC25, 0x3F0B06FD, 0x3F0A641A, 0x3F09C36D, 0x3F0924EC,
  0x3F088889, 0x3F07EE37, 0x3F0755ED, 0x3F06BF9E, 0x3F062B40, 0x3F0598C7, 0x3F05082A, 0x3F04795F,
  0x3F03EC5C, 0x3F036117, 0x3F02D788, 0x3F024FA6, 0x3F01C967, 0x3F0144C4, 0x3F00C1B4, 0x3F004030]
/-- TS[i] = 1/sqrt((1 + (2(i mod 64) + 1)/128) × 2^floor(i/64)). -/
def tabTS : List Nat := tabTS0 ++ tabTS1
/-- ct[i] = cos(π i / 512). Entries from 0. -/
def tabCt0 : List Nat := [
  0x3F800000, 0x3F7FFEC4, 0x3F7FFB11, 0x3F7FF4E6, 0x3F7FEC43, 0x3F7FE129, 0x3F7FD397, 0x3F7FC38F,
  0x3F7FB10F, 0x3F7F9C18, 0x3F7F84AB, 0x3F7F6AC7, 0x3F7F4E6D, 0x3F7F2F9D, 0x3F7F0E58, 0x3F7EEA9D,
  0x3F7EC46D, 0x3F7E9BC9, 0x3F7E70B0, 0x3F7E4323, 0x3F7E1324, 0x3F7DE0B1, 0x3F7DABCC, 0x3F7D7474,
  0x3F7D3AAC, 0x3F7CFE73, 0x3F7CBFC9, 0x3F7C7EB0, 0x3F7C3B28, 0x3F7BF531, 0x3F7BACCD, 0x3F7B61FC,
  0x3F7B14BE, 0x3F7AC516, 0x3F7A7302, 0x3F7A1E84, 0x3F79C79D, 0x3F796E4E, 0x3F791298, 0x3F78B47B,
  0x3F7853F8, 0x3F77F110, 0x3F778BC5, 0x3F772417, 0x3F76BA07, 0x3F764D97, 0x3F75DEC6, 0x3F756D97,
  0x3F74FA0B, 0x3F748422, 0x3F740BDD, 0x3F73913F, 0x3F731447, 0x3F7294F8, 0x3F721352, 0x3F718F57,
  0x3F710908, 0x3F708066, 0x3F6FF573, 0x3F6F6830, 0x3F6ED89E, 0x3F6E46BE, 0x3F6DB293, 0x3F6D1C1D]
/-- ct[i] = cos(π i / 512). Entries from 64. -/
def tabCt1 : List Nat := [
  0x3F6C835E, 0x3F6BE858, 0x3F6B4B0C, 0x3F6AAB7B, 0x3F6A09A7, 0x3F696591, 0x3F68BF3C, 0x3F6816A8,
  0x3F676BD8, 0x3F66BECC, 0x3F660F88, 0x3F655E0B, 0x3F64AA59, 0x3F63F473, 0x3F633C5A, 0x3F628210,
  0x3F61C598, 0x3F6106F2, 0x3F604621, 0x3F5F8327, 0x3F5EBE05, 0x3F5DF6BE, 0x3F5D2D53, 0x3F5C61C7,
  0x3F5B941A, 0x3F5AC450, 0x3F59F26A, 0x3F591E6A, 0x3F584853, 0x3F577026, 0x3F5695E5, 0x3F55B993,
  0x3F54DB31, 0x3F53FAC3, 0x3F531849, 0x3F5233C6, 0x3F514D3D, 0x3F5064AF, 0x3F4F7A1F, 0x3F4E8D90,
  0x3F4D9F02, 0x3F4CAE79, 0x3F4BBBF8, 0x3F4AC77F, 0x3F49D112, 0x3F48D8B3, 0x3F47DE65, 0x3F46E22A,
  0x3F45E403, 0x3F44E3F5, 0x3F43E200, 0x3F42DE29, 0x3F41D870, 0x3F40D0DA, 0x3F3FC767, 0x3F3EBC1B,
  0x3F3DAEF9, 0x3F3CA003, 0x3F3B8F3B, 0x3F3A7CA4, 0x3F396842, 0x3F385216, 0x3F373A23, 0x3F36206C]
/-- ct[i] = cos(π i / 512). Entries from 128. -/
def tabCt2 : List Nat := [
  0x3F3504F3, 0x3F33E7BC, 0x3F32C8C9, 0x3F31A81D, 0x3F3085BB, 0x3F2F61A5, 0x3F2E3BDE, 0x3F2D1469,
  0x3F2BEB4A, 0x3F2AC082, 0x3F299415, 0x3F286605, 0x3F273656, 0x3F26050A, 0x3F24D225, 0x3F239DA9,
  0x3F226799, 0x3F212FF9, 0x3F1FF6CB, 0x3F1EBC12, 0x3F1D7FD1, 0x3F1C420C, 0x3F1B02C6, 0x3F19C200,
  0x3F187FC0, 0x3F173C07, 0x3F15F6D9, 0x3F14B039, 0x3F13682A, 0x3F121EB0, 0x3F10D3CD, 0x3F0F8784,
  0x3F0E39DA, 0x3F0CEAD0, 0x3F0B9A6B, 0x3F0A48AD, 0x3F08F59B, 0x3F07A136, 0x3F064B82, 0x3F04F484,
  0x3F039C3D, 0x3F0242B1, 0x3F00E7E4, 0x3EFF17B2, 0x3EFC5D27, 0x3EF9A02D, 0x3EF6E0CB, 0x3EF41F07,
  0x3EF15AEA, 0x3EEE9479, 0x3EEBCBBB, 0x3EE900B7, 0x3EE63375, 0x3EE363FA, 0x3EE0924F, 0x3EDDBE79,
  0x3EDAE880, 0x3ED8106B, 0x3ED53641, 0x3ED25A09, 0x3ECF7BCA, 0x3ECC9B8B, 0x3EC9B953, 0x3EC6D529]
/-- ct[i] = cos(π i / 512). Entries from 192. -/
def tabCt3 : List Nat := [
  0x3EC3EF15, 0x3EC1071E, 0x3EBE1D4A, 0x3EBB31A0, 0x3EB8442A, 0x3EB554EC, 0x3EB263EF, 0x3EAF713A,
  0x3EAC7CD4, 0x3EA986C4, 0x3EA68F12, 0x3EA395C5, 0x3EA09AE5, 0x3E9D9E78, 0x3E9AA086, 0x3E97A117,
  0x3E94A031, 0x3E919DDD, 0x3E8E9A22, 0x3E8B9507, 0x3E888E93, 0x3E8586CE, 0x3E827DC0, 0x3E7EE6E1,
  0x3E78CFCC, 0x3E72B651, 0x3E6C9A7F, 0x3E667C66, 0x3E605C13, 0x3E5A3997, 0x3E541501, 0x3E4DEE60,
  0x3E47C5C2, 0x3E419B37, 0x3E3B6ECF, 0x3E354098, 0x3E2F10A2, 0x3E28DEFC, 0x3E22ABB6, 0x3E1C76DE,
  0x3E164083, 0x3E1008B7, 0x3E09CF86, 0x3E039502, 0x3DFAB273, 0x3DEE3876, 0x3DE1BC2E, 0x3DD53DB9,
  0x3DC8BD36, 0x3DBC3AC3, 0x3DAFB680, 0x3DA3308C, 0x3D96A905, 0x3D8A200A, 0x3D7B2B74, 0x3D621469,
  0x3D48FB30, 0x3D2FE007, 0x3D16C32C, 0x3CFB49BA, 0x3CC90AB0, 0x3C96C9B6, 0x3C490E90, 0x3BC90F88]
/-- ct[i] = cos(π i / 512). Entries from 256. -/
def tabCt4 : List Nat := [
  0x00000000, 0xBBC90F88]
/-- ct[i] = cos(π i / 512). -/
def tabCt : List Nat := tabCt0 ++ tabCt1 ++ tabCt2 ++ tabCt3 ++ tabCt4
end Sys2Proof.Machine
end

