-- ==== Sys2Proof/Machine/Fp.lean ====
section
/-! DEFINITION. FP32 and I32 of the vector unit (R75), the fixed-order reduction (R76) and the transcendental functions
(R77). An FP32 value is its 32-bit pattern as a number; every operation is exact integer arithmetic with one rounding. -/
namespace Sys2Proof.Machine
/-- Round a quotient to the nearest integer, ties to even. -/
def rneQ (num : Int) (den : Nat) : Int :=
  let q := num.fdiv den
  let r := num - q * den
  if (den : Int) < 2 * r ∨ (2 * r = den ∧ q % 2 = 1) then q + 1 else q
/-- Round `m` × 2^`e` to the nearest integer, ties to even. -/
def rneShift (m e : Int) : Int := if 0 ≤ e then m * (2 ^ e.toNat : Nat) else rneQ m (2 ^ (-e).toNat)
/-- Whether `m` × 2^`e` is an integer. -/
def exactShift (m e : Int) : Bool := 0 ≤ e || m % (2 ^ (-e).toNat : Nat) == 0
/-- floor(log2(num / den)) of positive numbers. -/
def ilog2 (num den : Nat) : Int :=
  let k : Int := (num.log2 : Int) - den.log2
  let lt := if 0 ≤ k then decide (num < den * 2 ^ k.toNat) else decide (num * 2 ^ (-k).toNat < den)
  if lt then k - 1 else k
/-- A decoded FP32 value: NaN, an infinity, or (−1)^n × m × 2^e; a denormal reads as zero of its sign (R75). -/
inductive FVal
  | nan
  | inf (n : Bool)
  | fin (n : Bool) (m : Nat) (e : Int)
  deriving DecidableEq, Repr
def fNan : Nat := 0x7FC00000
def fInf (n : Bool) : Nat := if n then 0xFF800000 else 0x7F800000
def fZero (n : Bool) : Nat := if n then 0x80000000 else 0
def fOne : Nat := 0x3F800000
def fval (v : Nat) : FVal :=
  let n := bit v 31; let e := bits v 23 8; let m := bits v 0 23
  if e = 255 then (if m = 0 then .inf n else .nan)
  else if e = 0 then .fin n 0 0
  else .fin n (2 ^ 23 + m) ((e : Int) - 150)
/-- Round (−1)^n × num / den × 2^e to FP32 (R75): to nearest even with no lower bound of the exponent, then a magnitude
below 2^−126 is zero of the sign, and one past the largest finite number an infinity. -/
def fpack (n : Bool) (num den : Nat) (e : Int) : Nat :=
  if num = 0 then fZero n
  else
    let u := ilog2 num den + e - 23
    let s := e - u
    let q := if 0 ≤ s then rneQ (num * 2 ^ s.toNat : Nat) den else rneQ (num : Nat) (den * 2 ^ (-s).toNat)
    let (q, u) := if q = 2 ^ 24 then (2 ^ 23, u + 1) else (q.toNat, u)
    let x := u + 150
    if x ≤ 0 then fZero n
    else if 255 ≤ x then fInf n
    else (if n then 2 ^ 31 else 0) + x.toNat * 2 ^ 23 + (q - 2 ^ 23)
/-- An exact signed dyadic number as FP32; an exact zero takes the sign `zn`. -/
def fdy (m e : Int) (zn : Bool) : Nat := if m = 0 then fZero zn else fpack (m < 0) m.natAbs 1 e
def fsgn (n : Bool) (m : Nat) : Int := if n then -(m : Int) else m
def fmul (a b : Nat) : Nat :=
  match fval a, fval b with
  | .nan, _ => fNan
  | _, .nan => fNan
  | .inf n, .inf k => fInf (n != k)
  | .inf n, .fin k m _ => if m = 0 then fNan else fInf (n != k)
  | .fin k m _, .inf n => if m = 0 then fNan else fInf (n != k)
  | .fin n m e, .fin k p f => fpack (n != k) (m * p) 1 (e + f)
/-- (−1)^n × m × 2^e + c, rounded once. -/
def faddTo (n : Bool) (m : Nat) (e : Int) (c : Nat) : Nat :=
  match fval c with
  | .nan => fNan
  | .inf k => fInf k
  | .fin k p f =>
    let lo := if e ≤ f then e else f
    let x := fsgn n m * (2 ^ (e - lo).toNat : Nat) + fsgn k p * (2 ^ (f - lo).toNat : Nat)
    fdy x lo (n && k)
def fadd (a b : Nat) : Nat :=
  match fval a with
  | .nan => fNan
  | .inf n => (match fval b with
    | .nan => fNan
    | .inf k => if n = k then fInf n else fNan
    | .fin _ _ _ => fInf n)
  | .fin n m e => faddTo n m e b
/-- The value with its sign turned. -/
def fneg (a : Nat) : Nat := if fval a = .nan then fNan else a ^^^ 0x80000000
def fsub (a b : Nat) : Nat := fadd a (fneg b)
/-- a × b + c, rounded once (R75). -/
def fma (a b c : Nat) : Nat :=
  match fval a, fval b with
  | .fin n m e, .fin k p f => faddTo (n != k) (m * p) (e + f) c
  | _, _ => fadd (fmul a b) c
def fdiv (a b : Nat) : Nat :=
  match fval a, fval b with
  | .nan, _ => fNan
  | _, .nan => fNan
  | .inf _, .inf _ => fNan
  | .inf n, .fin k _ _ => fInf (n != k)
  | .fin n _ _, .inf k => fZero (n != k)
  | .fin n m e, .fin k p f =>
    if p = 0 then (if m = 0 then fNan else fInf (n != k)) else fpack (n != k) m p (e - f)
/-- The order of finite and infinite values as integers; both zeros are 0. -/
def fkey (v : Nat) : Int :=
  match fval v with
  | .nan => 0
  | .inf n => if n then -0x7F800000 else 0x7F800000
  | .fin n m _ => if m = 0 then 0 else (if n then -(bits v 0 31 : Int) else bits v 0 31)
def isNan (v : Nat) : Bool := fval v == .nan
def flt (a b : Nat) : Bool := !isNan a && !isNan b && fkey a < fkey b
/-- An FP32 value as an operation reads it (R75): a denormal is zero of its sign, a NaN the canonical one. -/
def fread (v : Nat) : Nat := if isNan v then fNan else if bits v 23 8 = 0 then fZero (bit v 31) else v
/-- The greater and the lesser of two values, as read; a NaN input gives the canonical NaN (R75), equal values the first.
[log entry 113 DEDUCED] -/
def fmax (a b : Nat) : Nat := if isNan a ∨ isNan b then fNan else if fkey a < fkey b then fread b else fread a
def fmin (a b : Nat) : Nat := if isNan a ∨ isNan b then fNan else if fkey b < fkey a then fread b else fread a
/-- An integer as FP32. -/
def fOfInt (x : Int) : Nat := fdy x 0 false
/-- FP32 to I32 (R75): to nearest even, saturating; NaN gives 0. The flag says that it saturated. -/
def fToInt (v : Nat) : Int × Bool :=
  match fval v with
  | .nan => (0, false)
  | .inf n => (if n then -2147483648 else 2147483647, true)
  | .fin n m e =>
    let x := rneShift (fsgn n m) e
    if x < -2147483648 then (-2147483648, true) else if 2147483647 < x then (2147483647, true) else (x, false)
/-- Wrap to I32 (R75). -/
def wrapI32 (x : Int) : Int := toSigned 32 (ofSigned 32 x)

/-! The fixed-order reduction (R76). -/

/-- Adjacent elements added in pairs. -/
def pairUp (f : Nat → Nat → Nat) : List Nat → List Nat
  | a :: b :: t => f a b :: pairUp f t
  | t => t
/-- `n` rounds of pairing: lane i takes lane i + s for s = 1, 2, 4, …. -/
def pairTree (f : Nat → Nat → Nat) : Nat → List Nat → List Nat
  | 0, xs => xs
  | n + 1, xs => pairTree f n (pairUp f xs)
/-- The elements of a list that lane `i` of 64 takes, in order. -/
def laneOf (i : Nat) (xs : List Nat) : List Nat :=
  ((xs.zip (List.range xs.length)).filter (fun p => p.2 % 64 == i)).map (fun p => p.1)
/-- A lane adds its elements serially from its first; a lane with none holds +0. -/
def laneSum : List Nat → Nat
  | [] => 0
  | x :: t => t.foldl fadd x
/-- One partition: 64 lanes, then six rounds of the tree. -/
def partSum (xs : List Nat) : Nat :=
  (pairTree fadd 6 ((List.range 64).map (fun i => laneSum (laneOf i xs)))).headD 0
/-- The least k with n ≤ 2^k. -/
def clog2 (n : Nat) : Nat := if n ≤ 1 then 0 else (n - 1).log2 + 1
/-- Sum of a list over `p` partitions (R76). -/
def fsum (p : Nat) (xs : List Nat) : Nat :=
  let l := xs.length
  let part := fun i => partSum ((xs.drop (i * l / p)).take ((i + 1) * l / p - i * l / p))
  let rs := (List.range p).map part ++ List.replicate (2 ^ clog2 p - p) 0
  (pairTree fadd (clog2 p) rs).headD 0

/-! Transcendental functions (R77) with the constants of Table 3.7. -/

def cC1 : Nat := 0x3F317218
def cC2 : Nat := 0x3E75FDF0
def cC3 : Nat := 0x3D635847
def cLog2e : Nat := 0x3FB8AA3B
def cK2 : Nat := 0xBF38AA3B
/-- [log entry 37 DEDUCED] -/
def cK3 : Nat := 0x3EF63881
def cH1 : Nat := 0xBEAAAAAB
def cH2 : Nat := 0x3E088889
/-- y × 2^e. -/
def fscale (y : Nat) (e : Int) : Nat :=
  match fval y with
  | .fin n m f => fpack n m 1 (f + e)
  | _ => if isNan y then fNan else y
def exp2F (x : Nat) : Nat :=
  match fval x with
  | .nan => fNan
  | .inf n => if n then 0 else fInf false
  | .fin n m e =>
    if 0x43000000 ≤ fkey x then fInf false
    else if fkey x < -0x42FC0000 then 0
    else
      let k := if 0 ≤ e + 6 then fsgn n m * (2 ^ (e + 6).toNat : Nat) else (fsgn n m).fdiv (2 ^ (-(e + 6)).toNat : Nat)
      let i := (k % 64).toNat
      let r := fsub x (fdy k (-6) false)
      let q := fmul (fma (fma cC3 r cC2) r cC1) r
      let y := fma (tabTX.getD i 0) q (tabTX.getD i 0)
      fscale y ((k - i) / 64)
/-- log2 and rsqrt see x as mx × 2^e with 1 ≤ mx < 2: the 24-bit significand and e. -/
def log2F (x : Nat) : Nat :=
  match fval x with
  | .nan => fNan
  | .inf n => if n then fNan else fInf false
  | .fin n m e =>
    if m = 0 then fInf true
    else if n then fNan
    else
      let i := (m - 2 ^ 23) / 2 ^ 17
      let d := fsub (fpack false m 1 (-23)) (fpack false (129 + 2 * i) 128 0)
      let r := fmul d (tabTI.getD i 0)
      let y := fma (fma (fma cK3 r cK2) r cLog2e) r (tabTL.getD i 0)
      fadd (fOfInt (e + 23)) y
/-- One step of the rsqrt iteration. -/
def rsqrtStep (z y : Nat) : Nat := fmul y (fma 0xBF000000 (fmul z (fmul y y)) 0x3FC00000)
def rsqrtF (x : Nat) : Nat :=
  match fval x with
  | .nan => fNan
  | .inf n => if n then fNan else 0
  | .fin n m e =>
    if m = 0 then fInf false
    else if n then fNan
    else
      let ex := e + 23
      let b := (ex % 2).toNat
      let z := fpack false m 1 (b - 23)
      let y := tabTS.getD (64 * b + (m - 2 ^ 23) / 2 ^ 17) 0
      fscale (rsqrtStep z (rsqrtStep z y)) (-((ex - b) / 2))
def sigmoidF (x : Nat) : Nat := fdiv fOne (fadd fOne (exp2F (fmul (fneg x) cLog2e)))
def siluF (x : Nat) : Nat := fmul x (sigmoidF x)
def tanhF (x : Nat) : Nat :=
  if isNan x then fNan
  else
    let n := bit x 31
    let a := bits x 0 31
    let sg := fun v => if n then fneg v else v
    if 0x41100000 ≤ a then sg fOne
    else if a < 0x3D800000 then
      let s := fmul x x
      fma x (fmul s (fma s cH2 cH1)) x
    else
      let t := exp2F (fmul (fscale a 1) cLog2e)
      sg (fsub fOne (fdiv 0x40000000 (fadd t fOne)))
end Sys2Proof.Machine
end

