-- ==== Sys2Proof/Machine/Codes.lean ====
section
/-! DEFINITION. Element codes, blocks and scale streams (R47-R58), and quantising an output (R65-R70). Codes are numbered
as TDESC.CODE: 0 C8U, 1 C8S, 2 C4U, 3 C4S, 4 F8A, 5 F8B, 6 F6, 7 F4, 8 FP16, 9 BF16, 10 FP32, 11 I32, 12 A96, 13 RAW8,
14 RAW16. -/
namespace Sys2Proof.Machine
/-- Bits of an element of a code (Table 3.1). -/
def codeWidth (c : Nat) : Nat :=
  match c with
  | 2 | 3 | 7 => 4
  | 6 => 6
  | 8 | 9 | 14 => 16
  | 10 | 11 => 32
  | 12 => 96
  | _ => 8
/-- Codes with a scale stream. -/
def coded (c : Nat) : Bool := c ≤ 7
/-- FP16 and BF16. -/
def half16 (c : Nat) : Bool := c == 8 || c == 9
def intCode (c : Nat) : Bool := c ≤ 3
/-- The least exponent of an element's LSB: LSBMIN of Table 3.3, and the subnormal LSB of the 16-bit floats. -/
def lsbMin (c : Nat) : Int :=
  match c with
  | 4 => -9 | 5 => -16 | 6 => -4 | 7 => -1 | 8 => -24 | 9 => -133 | _ => 0
/-- TOP of Table 3.3. -/
def topOf (c : Nat) : Int :=
  match c with
  | 0 | 1 => 8 | 2 | 3 => 4 | 4 => 9 | 5 => 16 | 6 => 5 | 7 => 3 | _ => 0
/-- Stored mantissa bits of a float code; the exponent of the LSB in its top binade. -/
def manBits (c : Nat) : Nat :=
  match c with
  | 4 => 3 | 5 => 2 | 6 => 2 | 7 => 1 | 8 => 10 | 9 => 7 | _ => 0
def topUlp (c : Nat) : Int :=
  match c with
  | 4 => 5 | 5 => 13 | 6 => 2 | 7 => 1 | 8 => 5 | 9 => 120 | _ => 0
/-- The largest finite magnitude of a float code, in units of 2^LSBMIN (Table 3.1). -/
def maxMag (c : Nat) : Nat :=
  (if c = 4 then 14 else 2 ^ (manBits c + 1) - 1) * 2 ^ (topUlp c - lsbMin c).toNat
/-- The limits of an integer code. -/
def codeLo (c : Nat) : Int := match c with | 1 => -128 | 3 => -8 | _ => 0
def codeHi (c : Nat) : Int := match c with | 0 => 255 | 1 => 127 | 2 => 15 | 3 => 7 | _ => 0
/-- The zero point that a ZP field holds. -/
def zpVal (c raw : Nat) : Int := if c = 1 ∨ c = 3 then toSigned 8 raw else raw
/-- The decoded value m × 2^e of an element (Table 3.1); none for a non-finite encoding (R48). -/
def elemVal (c : Nat) (zp : Int) (v : Nat) : Option (Int × Int) :=
  match c with
  | 0 | 2 => some ((v : Int) - zp, 0)
  | 1 => some (toSigned 8 v - zp, 0)
  | 3 => some (toSigned 4 v - zp, 0)
  | 13 | 14 => some ((v : Int), 0)
  | _ =>
    let mb := manBits c
    let w := codeWidth c
    let ex := bits v mb (w - 1 - mb)
    let m := bits v 0 mb
    let bad := match c with
      | 4 => ex == 15 && m == 7
      | 5 | 8 => ex == 31
      | 9 => ex == 255
      | _ => false
    if bad then none
    else
      let n := bit v (w - 1)
      if ex = 0 then some (fsgn n m, lsbMin c) else some (fsgn n (2 ^ mb + m), lsbMin c + (ex - 1 : Nat))
/-- One M16 operand (R55): sign, 9-bit significand, exponent. -/
abbrev M16 := Bool × Nat × Nat
/-- Product of two M16 operands (R57). -/
def m16Mul (a w : M16) : Int := fsgn (a.1 != w.1) (a.2.1 * w.2.1 * 2 ^ (a.2.2 + w.2.2))
/-- Product of two widened elements: the sum over their parts. -/
def partsMul (a w : List M16) : Int := (a.flatMap (fun x => w.map (m16Mul x))).foldl (· + ·) 0
/-- The value of a widened element in units of 2^base. -/
def partsVal (a : List M16) : Int := (a.map (fun x => fsgn x.1 (x.2.1 * 2 ^ x.2.2))).foldl (· + ·) 0

/-! Tensors. -/

/-- Extent `i` of a dimension list; those missing count as 1. -/
def ext (ds : List Nat) (i : Nat) : Nat := ds.getD i 1
/-- A tensor as read: its header, the element codes in canonical order (R251) and the scale-stream entries (R52). -/
structure Ten where
  code : Nat
  zp : Int
  rank : Nat
  dims : List Nat
  axis : Nat
  bmax : Int
  s2tab : Nat
  codes : Array Nat
  ents : Array Nat
/-- Elements of a tensor of extents D0 to D3. -/
def nElems (ds : List Nat) : Nat := ext ds 0 * ext ds 1 * ext ds 2 * ext ds 3
/-- Canonical index of an element (R251), and its coordinates. -/
def canon (ds : List Nat) (i0 i1 i2 i3 : Nat) : Nat := i0 + ext ds 0 * (i1 + ext ds 1 * (i2 + ext ds 2 * i3))
def coord (ds : List Nat) (e i : Nat) : Nat :=
  match i with
  | 0 => e % ext ds 0
  | 1 => e / ext ds 0 % ext ds 1
  | 2 => e / ext ds 0 / ext ds 1 % ext ds 2
  | _ => e / ext ds 0 / ext ds 1 / ext ds 2
/-- Extent along the block axis, 4 being the flattened (D0, D1) index (R52). -/
def axisLen (ds : List Nat) (ax : Nat) : Nat := if ax = 4 then ext ds 0 * ext ds 1 else ext ds ax
/-- Canonical block index of element `e` along block axis `ax`: index order with the block axis innermost (R52). -/
def blockIdx (ds : List Nat) (ax e : Nat) : Nat :=
  let c := coord ds e
  let nb := cdiv (axisLen ds ax) 16
  match ax with
  | 0 => (c 1 + ext ds 1 * (c 2 + ext ds 2 * c 3)) * nb + c 0 / 16
  | 1 => (c 0 + ext ds 0 * (c 2 + ext ds 2 * c 3)) * nb + c 1 / 16
  | 2 => (c 0 + ext ds 0 * (c 1 + ext ds 1 * c 3)) * nb + c 2 / 16
  | 3 => (c 0 + ext ds 0 * (c 1 + ext ds 1 * c 2)) * nb + c 3 / 16
  | _ => (c 2 + ext ds 2 * c 3) * nb + (c 0 + ext ds 0 * c 1) / 16
/-- Number of blocks. -/
def blockCount (ds : List Nat) (ax : Nat) : Nat :=
  let n := axisLen ds ax
  if n = 0 then 0 else nElems ds / n * cdiv n 16
/-- Bytes of the code part of a dense tensor, and of its scale stream. -/
def codeBytes (c : Nat) (ds : List Nat) : Nat := cdiv (nElems ds * codeWidth c) 8
def streamBytes (c : Nat) (ds : List Nat) (ax : Nat) : Nat := if coded c then 2 * blockCount ds ax else 0
/-- Elements of `w` bits in a little-endian run (R49). -/
def unpackRun (w n : Nat) (bs : List Byte) : List Nat :=
  let v := leNat bs
  (List.range n).map (fun i => bits v (i * w) w)
/-- A little-endian run of elements of `w` bits (R49). -/
def packRun (w : Nat) (cs : List Nat) : List Byte :=
  leBytes (cdiv (cs.length * w) 8) (cs.foldr (fun c acc => c % 2 ^ w + acc * 2 ^ w) 0)
/-- 2-byte scale entries. -/
def unpackEnts (n : Nat) (bs : List Byte) : List Nat := unpackRun 16 n bs
/-- BEXP of the block of an element. -/
def Ten.bexp (t : Ten) (e : Nat) : Nat := bits (t.ents.getD (blockIdx t.dims t.axis e) 0) 0 6
/-- The indices below `n` that a list names, as flags. -/
def marks (n : Nat) (is : List Nat) : Array Bool := is.foldl (fun a i => a.setIfInBounds i true) (Array.replicate n false)
/-- Every element of a tensor. -/
def Ten.whole (t : Ten) : Array Bool := Array.replicate (nElems t.dims) true
/-- The first block, by canonical index, with an element that the command consumes and a TAG that is not its index modulo 16 (R73):
its index, the expected tag and the tag found. -/
def Ten.skewAt (t : Ten) (used : Array Bool) : Option (Nat × Nat × Nat) :=
  if ¬ coded t.code then none
  else
    let bl := marks (blockCount t.dims t.axis)
      (((List.range (nElems t.dims)).filter (fun e => used.getD e false)).map (blockIdx t.dims t.axis))
    ((List.range (blockCount t.dims t.axis)).find? (fun b => bl.getD b false && bits (t.ents.getD b 0) 8 4 != b % 16)).map
      (fun b => (b, b % 16, bits (t.ents.getD b 0) 8 4))
/-- e_max of an operand (R54). -/
def Ten.emax (t : Ten) : Int := if coded t.code then t.bmax - 32 + topOf t.code else t.bmax
/-- A widened tensor: the parts and the base of each element (R55, R56), with the counts of ALIGN_LOSS and NONFINITE_IN. -/
structure Wide where
  parts : Array (List M16)
  base : Array Int
  aloss : Nat
  nonfin : Nat
/-- The parts of a coded element (R55). -/
def codedParts (c : Nat) (zp : Int) (v : Nat) : List M16 :=
  match elemVal c zp v with
  | none => [(false, 0, 0)]
  | some (m, e) => [(m < 0, m.natAbs, (e - lsbMin c).toNat)]
/-- t_blk of a 16-bit float block (R56): the largest e_i + L over its non-zero elements, TOPX where there is none. -/
def tBlk (c : Nat) (topx : Int) (vs : List Nat) : Int :=
  let es := vs.filterMap (fun v => match elemVal c 0 v with
    | some (m, e) => if m = 0 then none else some e
    | none => none)
  match es with
  | [] => topx
  | e :: t => t.foldl max e + (if c = 8 then 11 else 8)
/-- W of a 16-bit float element on its block's base, with the loss flag (R56). -/
def w16 (c : Nat) (tb : Int) (v : Nat) : List M16 × Bool :=
  match elemVal c 0 v with
  | none => ([(false, 0, 8), (false, 0, 0)], false)
  | some (m, e) =>
    let w := (rneShift m.natAbs (e + 16 - tb)).toNat
    ([(m < 0, w / 256, 8), (m < 0, w % 256, 0)], !exactShift m.natAbs (e + 16 - tb))
/-- Widen a tensor, its 16-bit float blocks taken along axis `ax`; the counts are of the elements that the command consumes (R48, R56).
 -/
def Ten.widen (t : Ten) (ax : Nat) (used : Array Bool) : Wide :=
  let n := nElems t.dims
  let nonfin := ((List.range n).filter (fun e => used.getD e false && (elemVal t.code t.zp (t.codes.getD e 0)).isNone)).length
  if coded t.code then
    { parts := ((List.range n).map (fun e => codedParts t.code t.zp (t.codes.getD e 0))).toArray
      base := ((List.range n).map (fun e => (t.bexp e : Int) - 32 + lsbMin t.code)).toArray
      aloss := 0, nonfin := nonfin }
  else
    let blk := ((List.range n).map (blockIdx t.dims ax)).toArray
    let tb := ((List.range (blockCount t.dims ax)).map (fun b =>
      tBlk t.code t.bmax (((List.range n).filter (fun e => blk.getD e 0 == b)).map (fun e => t.codes.getD e 0)))).toArray
    let ws := (List.range n).map (fun e => w16 t.code (tb.getD (blk.getD e 0) 0) (t.codes.getD e 0))
    { parts := (ws.map (fun x => x.1)).toArray
      base := ((List.range n).map (fun e => tb.getD (blk.getD e 0) 0 - 16)).toArray
      aloss := ((ws.zip (List.range n)).filter (fun x => used.getD x.2 false && x.1.2)).length, nonfin := nonfin }

/-! Quantising (R65-R68). -/

/-- One quantised element: its code, whether it saturated, and |decoded| in units of 2^LSBMIN. -/
structure QElem where
  code : Nat
  sat : Bool
  mag : Nat
/-- The float code of a magnitude given in units of 2^LSBMIN. -/
def floatCode (c : Nat) (n : Bool) (mag : Nat) : Nat :=
  let mb := manBits c
  if mag = 0 then 0
  else
    let body := if mag < 2 ^ mb then mag
      else
        let k := mag.log2 - mb
        (k + 1) * 2 ^ mb + (mag / 2 ^ k - 2 ^ mb)
    body + (if n then 2 ^ (codeWidth c - 1) else 0)
/-- Round m × 2^e to a code (R66, R67): integers to nearest even plus the zero point, kept in range; floats to nearest
even on the format's grid, continued past its largest magnitude. -/
def toCode (c : Nat) (zp : Int) (m e : Int) : QElem :=
  if intCode c then
    let q := rneShift m e + zp
    let r := sat q (codeLo c) (codeHi c)
    ⟨ofSigned (codeWidth c) r, r ≠ q, (r - zp).natAbs⟩
  else if m = 0 then ⟨0, false, 0⟩
  else
    let l := (m.natAbs.log2 : Int) + e
    let u := min (max (l - manBits c) (lsbMin c)) (topUlp c)
    let q := (rneShift m.natAbs (e - u)).toNat
    let mag := q * 2 ^ (u - lsbMin c).toNat
    let r := min mag (maxMag c)
    ⟨floatCode c (m < 0) r, maxMag c < mag, r⟩
/-- A value to quantise: a dyadic number, or none for a NaN, whose code the spec does not state. -/
abbrev QVal := Option (Int × Int)
/-- Whether a value fits at block exponent `j`. -/
def fitsAt (c : Nat) (zp : Int) (j : Int) (v : QVal) : Bool :=
  match v with
  | none => true
  | some (m, e) => !(toCode c zp m (e - j)).sat
def isZeroVal (v : QVal) : Bool := match v with | some (m, _) => m == 0 | none => false
/-- The least j from `j` on at which every value fits, within `n` tries. -/
def leastJ (c : Nat) (zp : Int) (vs : List QVal) : Nat → Int → Int
  | 0, j => j
  | n + 1, j => if vs.all (fitsAt c zp j) then j else leastJ c zp vs n (j + 1)
/-- The smallest j, with no limit, at which a block fits (R68); none for a block of zeros. -/
def blockJ (c : Nat) (zp : Int) (vs : List QVal) : Option Int :=
  let ls := vs.filterMap (fun v => match v with
    | some (m, e) => if m = 0 then none else some ((m.natAbs.log2 : Int) + e)
    | none => none)
  match ls with
  | [] => none
  | l :: t => some (leastJ c zp vs 24 (t.foldl max l - 17))
/-- j of a block (R66): the smallest of −32 … 31 that fits, 31 when none does. -/
def chooseJ (bj : Option Int) : Int := match bj with | none => -32 | some j => sat j (-32) 31
/-- What quantising a tensor gives: codes, entries, SAT, the largest magnitude in units of 2^LSBMIN, JMAX, ALL_ZERO. -/
structure Quant where
  codes : List Nat
  ents : List Nat
  sat : Nat
  maxv : Nat
  jmax : Option Int
  zero : Bool
def optMax (a b : Option Int) : Option Int :=
  match a, b with
  | none, x => x
  | x, none => x
  | some x, some y => some (max x y)
/-- Quantise values in canonical order to a narrow code, blocked along `ax`; `fr` gives the code of a NaN element.
[log entry 112 DEDUCED] -/
def quantise (c : Nat) (zp : Int) (ds : List Nat) (ax : Nat) (vs : List QVal) (fr : Nat → Nat) : Quant :=
  let n := nElems ds
  let va := vs.toArray
  let blk := ((List.range n).map (blockIdx ds ax)).toArray
  let bjs := (List.range (blockCount ds ax)).map (fun b =>
    blockJ c zp (((List.range n).filter (fun e => blk.getD e 0 == b)).map (fun e => va.getD e none)))
  let ja := (bjs.map chooseJ).toArray
  let qs := (List.range n).map (fun e => match va.getD e none with
    | none => (⟨fr e % 2 ^ codeWidth c, false, 0⟩ : QElem)
    | some (m, x) => toCode c zp m (x - ja.getD (blk.getD e 0) 0))
  { codes := qs.map (fun q => q.code)
    ents := (ja.toList.zip (List.range ja.size)).map (fun p => (p.1 + 32).toNat + 256 * (p.2 % 16))
    sat := (qs.filter (fun q => q.sat)).length
    maxv := (qs.map (fun q => q.mag)).foldl max 0
    jmax := bjs.foldl optMax none
    zero := qs.all (fun q => q.mag == 0) }
/-- TOPV of a code in units of 2^LSBMIN (R68). -/
def topV (c : Nat) (zp : Int) : Nat := if intCode c then (max (codeHi c - zp) (zp - codeLo c)).toNat else maxMag c
/-- The miss bits of R68: high and low. LOW_SHIFT = 0 disables the low one (R78). -/
def missHigh (q : Quant) (n shift : Nat) : Bool := n < q.sat * 2 ^ shift
def missLow (c : Nat) (zp : Int) (q : Quant) (shift : Nat) : Bool :=
  shift != 0 && !q.zero && decide (q.maxv * 2 ^ shift < topV c zp)
/-- MAXC of the status record: |code − z|, or the magnitude bits of the largest float code (R72). -/
def maxC (c : Nat) (maxv : Nat) : Nat := if intCode c then maxv else floatCode c false maxv
end Sys2Proof.Machine
end

