-- ==== Sys2Proof/Machine/Mac.lean ====
section
/-! DEFINITION. The MAC array and the window engine as arithmetic (R59-R65, R150-R164): geometry, block sums on the A96
grid, pooling, resampling, the fold, the bias and the forming of outputs. -/
namespace Sys2Proof.Machine
/-- The fields of a KDESC (Table 5.5), strides and group count as numbers. -/
structure Kern where
  kind : Nat
  kh : Nat
  kw : Nat
  sh : Nat
  sw : Nat
  dh : Nat
  dw : Nat
  g : Nat
  pt : Nat
  pb : Nat
  pl : Nat
  pr : Nat
  pmode : Nat
  pcode : Nat
def kernOf (ws : List Nat) : Kern :=
  let a := ws.getD 0 0; let b := ws.getD 1 0
  { kind := bits a 48 2, kh := bits a 42 6, kw := bits a 36 6, sh := bits a 32 4 + 1, sw := bits a 28 4 + 1,
    dh := bits a 22 6, dw := bits a 16 6, g := bits a 8 8 + 1, pt := bits b 0 8, pb := bits b 8 8, pl := bits b 16 8,
    pr := bits b 24 8, pmode := bits b 32 2, pcode := bits b 34 8 }
/-- Output extent along a padded axis (R150). -/
def outExt (inn lo hi dil k s : Nat) : Int :=
  ((inn : Int) + lo + hi - dil * (k - 1 : Nat) - 1).fdiv s + 1
/-- The source of a coordinate along an axis (R151); none is PAD. Modes: 0 ZERO, 1 CONST, 2 REPLICATE, 3 REFLECT. -/
def srcCoord (x : Int) (inn mode : Nat) : Option Nat :=
  if 0 ≤ x ∧ x < inn then some x.toNat
  else if mode = 2 then some (sat x 0 (inn - 1 : Nat)).toNat
  else if mode = 3 then
    if inn = 1 then some 0
    else
      let p := 2 * (inn - 1)
      let m := (x.fmod p).toNat
      some (if m < inn then m else p - m)
  else none
/-- The pixel that tap (kh, kw) of output (ox, oy) reads, or none for a pad tap without a source pixel (R151). -/
def tapPixel (k : Kern) (win hin ox oy kw kh : Nat) : Option (Nat × Nat) :=
  let x : Int := (ox * k.sw : Nat) - (k.pl : Int) + (kw * k.dw : Nat)
  let y : Int := (oy * k.sh : Nat) - (k.pt : Int) + (kh * k.dh : Nat)
  match srcCoord x win k.pmode, srcCoord y hin k.pmode with
  | some a, some b => some (a, b)
  | _, _ => none
/-- The value of a PAD position in one channel (Table 6.1): its parts, its base, and whether it decodes as non-finite. -/
def padValue (t : Ten) (k : Kern) : List M16 × Int × Bool :=
  if k.pmode = 0 then ([], 0, false)
  else if coded t.code then
    let v := k.pcode % 2 ^ codeWidth t.code
    (codedParts t.code t.zp v, t.bmax - 32 + lsbMin t.code, (elemVal t.code t.zp v).isNone)
  else
    let v := k.pcode * 256
    let tb := tBlk t.code t.bmax [v]
    ((w16 t.code tb v).1, tb - 16, (elemVal t.code 0 v).isNone)
/-- A running accumulator on the A96 grid with its counts (R60). -/
structure AccSt where
  acc : Int := 0
  wloss : Nat := 0
  a96 : Nat := 0
  nonfin : Nat := 0
/-- Place Σ × 2^sh on the grid, clamped to ±lim, and add it (R60). -/
def AccSt.place (a : AccSt) (sigma sh lim : Int) : AccSt :=
  let c := rneShift sigma sh
  let w := if exactShift sigma sh then 0 else 1
  let d := sat c (-lim) lim
  { a with acc := a.acc + d, wloss := a.wloss + w, a96 := a.a96 + (if d = c then 0 else 1) }
def a96Lim : Int := 2 ^ 76 - 1
/-- The accumulators of a command, in canonical order of its output, with the counts. -/
structure AccOut where
  accs : List Int
  wloss : Nat
  a96 : Nat
  nonfin : Nat
/-- The outcome of a command from those of its accumulators, the counts summed. [log entry 115 DEDUCED] -/
def gather (xs : List AccSt) : AccOut :=
  { accs := xs.map (fun a => a.acc), wloss := xs.foldl (fun n a => n + a.wloss) 0,
    a96 := xs.foldl (fun n a => n + a.a96) 0, nonfin := xs.foldl (fun n a => n + a.nonfin) 0 }
/-- Sum of the products of element pairs. -/
def blockSum (xs : List (List M16 × List M16)) : Int := xs.foldl (fun a p => a + partsMul p.1 p.2) 0

/-! The reductions (R122, R157-R160). -/

/-- K of a command's reduction: GEMM along D0; CONV 16 per channel block and kernel position; DWCONV its taps. -/
def redK (op : Nat) (a w : List Nat) (k : Kern) : Nat :=
  if op = 0x22 then ext a 0
  else if op = 0x20 then 16 * cdiv (ext w 0) 16 * k.kh * k.kw
  else k.kh * k.kw
/-- One product of a reduction: the activation element, none for a PAD position, and the weight element. -/
abbrev Tap := Option Nat × Nat
/-- The block pairs (R59) of one GEMM output over reduction elements [rs, re). -/
def gemmTaps (a w : List Nat) (rs re : Nat) (od : List Nat) (e : Nat) : List (List Tap) :=
  (List.range (cdiv re 16 - rs / 16)).map (fun i =>
    let lo := max rs ((rs / 16 + i) * 16)
    let hi := min re ((rs / 16 + i) * 16 + 16)
    (List.range (hi - lo)).map (fun j =>
      (some (canon a (lo + j) (coord od e 1) (coord od e 2) (coord od e 3)), canon w (lo + j) (coord od e 0) 0 0)))
/-- The block pairs of one CONV output (R157, R158): 16 input channels at a kernel position. -/
def convTaps (a w : List Nat) (k : Kern) (rs re : Nat) (od : List Nat) (e : Nat) : List (List Tap) :=
  let co := coord od e 0
  let cg := ext w 0
  let c0 := co * k.g / max 1 (ext od 0) * cg
  let cbn := cdiv cg 16
  (List.range (k.kh * k.kw)).flatMap (fun kp =>
    let px := tapPixel k (ext a 1) (ext a 2) (coord od e 1) (coord od e 2) (kp % k.kw) (kp / k.kw)
    ((List.range cbn).filter (fun cb => decide (rs ≤ (kp * cbn + cb) * 16 ∧ (kp * cbn + cb) * 16 < re))).map (fun cb =>
      (List.range (min 16 (cg - cb * 16))).map (fun j =>
        (px.map (fun p => canon a (c0 + cb * 16 + j) p.1 p.2 (coord od e 3)), canon w (cb * 16 + j) (kp % k.kw) (kp / k.kw) co))))
/-- The block pairs of one DWCONV output: each tap product is one of its own (R59, R124, R159, R160). -/
def dwTaps (a w : List Nat) (k : Kern) (rs re : Nat) (od : List Nat) (e : Nat) : List (List Tap) :=
  let co := coord od e 0
  let ci := co / max 1 (ext od 0 / max 1 (ext a 0))
  ((List.range (k.kh * k.kw)).filter (fun t => decide (rs ≤ t ∧ t < re))).map (fun t =>
    let px := tapPixel k (ext a 1) (ext a 2) (coord od e 1) (coord od e 2) (t % k.kw) (t / k.kw)
    [(px.map (fun p => canon a ci p.1 p.2 (coord od e 3)), canon w (t % k.kw) (t / k.kw) co 0)])
/-- The block pairs of one output element of CONV (0x20), DWCONV (0x21) or GEMM (0x22). -/
def macTaps (op : Nat) (a w : List Nat) (k : Kern) (rs re : Nat) (od : List Nat) (e : Nat) : List (List Tap) :=
  if op = 0x20 then convTaps a w k rs re od e else if op = 0x21 then dwTaps a w k rs re od e else gemmTaps a w rs re od e
/-- The elements of the activations and of the weights that enter a product of the command. -/
def macUsed (op : Nat) (a w : List Nat) (k : Kern) (rs re : Nat) (od : List Nat) : Array Bool × Array Bool :=
  let ts := (List.range (nElems od)).flatMap (fun e => (macTaps op a w k rs re od e).flatten)
  (marks (nElems a) (ts.filterMap (fun t => t.1)), marks (nElems w) (ts.map (fun t => t.2)))
/-- Add one block pair to an accumulator: its exact sum, placed once on the grid (R59, R60; the first row of Table 1.6, R25). -/
def AccSt.block (acc : AccSt) (wa ww : Wide) (pad : List M16 × Int × Bool) (g : Int) (ts : List Tap) : AccSt :=
  let act := fun (t : Tap) => match t.1 with | some i => wa.parts.getD i [] | none => pad.1
  let base := match ts.head? with
    | some t => (match t.1 with | some i => wa.base.getD i 0 | none => pad.2.1) + ww.base.getD t.2 0
    | none => 0
  let bad := if pad.2.2 then (ts.filter (fun t => t.1.isNone)).length else 0
  ({ acc with nonfin := acc.nonfin + bad }).place (blockSum (ts.map (fun t => (act t, ww.parts.getD t.2 [])))) (base - g) a96Lim
/-- All outputs of CONV, DWCONV or GEMM, with the counts of ALIGN_LOSS and NONFINITE_IN over the elements consumed. -/
def macAll (op : Nat) (ta tb : Ten) (k : Kern) (g : Int) (rs re : Nat) (od : List Nat) : AccOut × Nat :=
  let (ua, uw) := macUsed op ta.dims tb.dims k rs re od
  let wa := ta.widen 0 ua
  let ww := tb.widen (if op = 0x21 then 4 else 0) uw
  let o := gather ((List.range (nElems od)).map (fun e =>
    (macTaps op ta.dims tb.dims k rs re od e).foldl (fun a ts => a.block wa ww (padValue ta k) g ts) {}))
  ({ o with nonfin := o.nonfin + wa.nonfin + ww.nonfin }, wa.aloss + ww.aloss)

/-! Pooling (R161, R162). -/

/-- acc0 / d to nearest, ties to even (R162). -/
def divRne (acc : Int) (d : Nat) : Int := rneQ acc d
/-- The element that each tap of a POOL output reads; none at a PAD position. -/
def poolTaps (a : List Nat) (k : Kern) (od : List Nat) (e : Nat) : List (Option Nat) :=
  (List.range (k.kh * k.kw)).map (fun t =>
    (tapPixel k (ext a 1) (ext a 2) (coord od e 1) (coord od e 2) (t % k.kw) (t / k.kw)).map
      (fun p => canon a (coord od e 0) p.1 p.2 (coord od e 3)))
/-- One output element of a POOL: sub 0 MAX, 1 AVG, on the grid g = e_max − 80. -/
def poolElem (ta : Ten) (wa : Wide) (k : Kern) (sub : Nat) (e : Nat) (od : List Nat) : AccSt :=
  let g := ta.emax - 80
  let pad := padValue ta k
  let vals := (poolTaps ta.dims k od e).map (fun t =>
    match t with
    | some i => ({} : AccSt).place (partsVal (wa.parts.getD i [])) (wa.base.getD i 0 - g) (2 ^ 80 - 1)
    | none =>
      let a := ({} : AccSt).place (partsVal pad.1) (pad.2.1 - g) (2 ^ 80 - 1)
      if pad.2.2 = true then { a with nonfin := 1 } else a)
  let o := gather vals
  let r := if sub = 0 then
      (match o.accs with
      | [] => 0
      | x :: t => t.foldl max x)
    else divRne (o.accs.foldl (· + ·) 0) (k.kh * k.kw)
  { acc := r, wloss := o.wloss, a96 := o.a96, nonfin := o.nonfin }
/-- An image of the window register (R145): 15 × 15 taps of the last 32 channels, of the last tap group (R149), for the position of
output element `e`: the codes of the input elements. [log entry 260 DESIGN CHOICE] -/
def winImage (t : Ten) (k : Kern) (od : List Nat) (e : Nat) : List (Option Nat) :=
  let a := t.dims
  let gx := (k.kw - 1) / 15 * 15; let gy := (k.kh - 1) / 15 * 15
  let c0 := (ext a 0 - 1) / 32 * 32
  (List.range 225).flatMap (fun i =>
    let x := gx + i % 15; let y := gy + i / 15
    let px := if x < k.kw ∧ y < k.kh then tapPixel k (ext a 1) (ext a 2) (coord od e 1) (coord od e 2) x y else none
    (List.range 32).map (fun c => px.bind (fun p =>
      if c0 + c < ext a 0 then some (t.codes.getD (canon a (c0 + c) p.1 p.2 (coord od e 3)) 0) else none)))

/-! Resampling (R163, R164). -/

/-- The source coordinate of output `o` in 2^−24 pixels (R163). -/
def resampPos (o step : Nat) : Int := (((2 * o + 1) * step : Nat) - (2 ^ 24 : Int)).fdiv 2
/-- Catmull-Rom weights at u = w / 2^k, in units of 2^−14 (R164). -/
def cubicW (w k : Nat) : List Int :=
  let u : Int := w; let n : Int := (2 ^ k : Nat)
  let den := 2 * 2 ^ (3 * k)
  let wm := rneQ (2 ^ 14 * (-(u * u * u) + 2 * u * u * n - u * n * n)) den
  let w1 := rneQ (2 ^ 14 * (-3 * u * u * u + 4 * u * u * n + u * n * n)) den
  let w2 := rneQ (2 ^ 14 * (u * u * u - u * u * n)) den
  [wm, 2 ^ 14 - wm - w1 - w2, w1, w2]
/-- Source indices, clamped to the edge, and weights along one axis (R164); filters 0 NEAREST, 1 BILINEAR, 2 BICUBIC. -/
def resampTaps (filt o step inn : Nat) : List (Nat × Int) :=
  let s := resampPos o step
  let i := s.fdiv (2 ^ 24)
  let w : Nat := ((s - i * 2 ^ 24) / 2 ^ 12).toNat
  let cl := fun (x : Int) => (sat x 0 ((inn : Int) - 1)).toNat
  match filt with
  | 0 => [(cl ((s + 2 ^ 23).fdiv (2 ^ 24)), 1)]
  | 1 => [(cl i, 4096 - (w : Int)), (cl (i + 1), (w : Int))]
  | _ => ((cubicW w 12).zip [i - 1, i, i + 1, i + 2]).map (fun p => (cl p.2, p.1))
/-- The grid of a RESAMP's result. -/
def resampGrid (ta : Ten) (filt : Nat) : Int := ta.emax - 64 - (match filt with | 0 => 0 | 1 => 24 | _ => 28)
/-- The elements that a RESAMP output reads, with their weights. -/
def resampTaps2 (a : List Nat) (filt xs ys : Nat) (od : List Nat) (e : Nat) : List (Nat × Int) :=
  let tx := resampTaps filt (coord od e 1) xs (ext a 1)
  (resampTaps filt (coord od e 2) ys (ext a 2)).flatMap (fun y =>
    tx.map (fun x => (canon a (coord od e 0) x.1 y.1 (coord od e 3), x.2 * y.2)))
/-- One output element of a RESAMP. -/
def resampElem (ta : Ten) (wa : Wide) (filt xs ys : Nat) (e : Nat) (od : List Nat) : AccSt :=
  let ge := ta.emax - 64
  (resampTaps2 ta.dims filt xs ys od e).foldl (fun a p =>
    let v := ({} : AccSt).place (partsVal (wa.parts.getD p.1 [])) (wa.base.getD p.1 0 - ge) (2 ^ 64 - 1)
    { a with acc := a.acc + p.2 * v.acc, wloss := a.wloss + v.wloss, a96 := a.a96 + v.a96 }) {}

/-! The fold and the bias (R63, R64). -/

/-- m and n of the fold, with t1 = the quotient's numerator; none is SCALE_BAD. -/
def foldOf (t1 s2o : Nat) : Option (Nat × Int) :=
  match fval (fdiv t1 s2o) with
  | .fin false m e =>
    let x := e + 23
    if m = 0 ∨ x < -32 ∨ 31 < x then none else some (m * 2 ^ 8, 31 - x)
  | _ => none
/-- Whether an S2 is positive, finite and normal (R50, R63). -/
def s2Ok (v : Nat) : Bool :=
  match fval v with
  | .fin false m _ => m != 0
  | _ => false
/-- The bias on the grid, and whether it was clamped; none is SCALE_BAD (R64). -/
def biasOn (bias t1 : Nat) (g : Int) : Option (Int × Bool) :=
  match fval bias with
  | .fin _ _ _ =>
    (match fval (fdiv bias t1) with
    | .fin n m e =>
      let b := rneShift (fsgn n m) (e - g)
      let c := sat b (-a96Lim) a96Lim
      some (c, c ≠ b)
    | .inf n => some (if n then -a96Lim else a96Lim, true)
    | .nan => none)
  | _ => none
/-- An FP32 output of a MAC-path command (R67): never an infinity and never a negative zero. -/
def macF32 (m e : Int) : Nat × Bool :=
  let v := fdy m e false
  if v = fInf false then (0x7F7FFFFF, true)
  else if v = fInf true then (0xFF7FFFFF, true)
  else (if v = fZero true then 0 else v, false)
/-- A wide output element of a MAC-path command: code bits, and whether it counts OUT_SAT (R67). -/
def macWide (c : Nat) (m e : Int) : Nat × Bool :=
  if c = 11 then
    let x := rneShift m e
    let y := sat x (-2147483648) 2147483647
    (ofSigned 32 y, y ≠ x)
  else if c = 10 then macF32 m e
  else
    let q := toCode c 0 m e
    (q.code, q.sat)
end Sys2Proof.Machine
end

