-- ==== Sys2Proof/Machine/Tensor.lean ====
section
/-! DEFINITION. Tensors in the machine (R94, R95, R102, R118-R120): where a descriptor's data lies at a step, its channel
slot or pair half, the readiness of channel slots, and reading a tensor with its scale header. -/
namespace Sys2Proof.Machine
open Sys2Proof
/-- Further fields of a TDESC (Table 5.3). -/
def tdCode (ws : List Nat) : Nat := bits (word ws 0) 42 4
def tdZp (ws : List Nat) : Int := zpVal (tdCode ws) (bits (word ws 0) 34 8)
def tdRank (ws : List Nat) : Nat := bits (word ws 0) 32 2
def tdFlat (ws : List Nat) : Bool := bit (word ws 1) 48
def tdPitch (ws : List Nat) : Nat := bits (word ws 3) 32 32
/-- A step-relative address (R102). -/
def stepAddr (base stride ring ofs step : Nat) : Nat := base + (step + ofs) % max 1 ring * stride
/-- Address of an LPDDR or FSTORE descriptor's data at a step, device address for FSTORE. -/
def tdAddr (ws : List Nat) (step : Nat) : Nat :=
  (if tdKind ws = 1 then fsBase else 0)
    + stepAddr (bits (word ws 1) 0 48) (bits (word ws 3) 0 32 * 64) (bits (word ws 0) 16 16) (bits (word ws 0) 0 16) step
/-- Fields of an SDESC and its step-relative places (Table 5.4, R119). -/
def sdFloat (ws : List Nat) : Bool := bit (word ws 0) 48
def sdBmax (ws : List Nat) : Nat := bits (word ws 0) 42 6
def sdTopx (ws : List Nat) : Int := toSigned 8 (bits (word ws 0) 34 8)
def sdPolicy (ws : List Nat) : Nat := bits (word ws 0) 32 2
def sdRing (ws : List Nat) : Nat := bits (word ws 0) 16 16
def sdOfs (ws : List Nat) : Nat := bits (word ws 0) 0 16
def sdStream (ws : List Nat) (step : Nat) : Nat :=
  stepAddr (bits (word ws 1) 0 42 * 64) (bits (word ws 1) 42 22 * 64) (sdRing ws) (sdOfs ws) step
def sdS2 (ws : List Nat) (step : Nat) : Nat :=
  stepAddr (bits (word ws 2) 0 42 * 64) (bits (word ws 2) 42 22 * 64) (sdRing ws) (sdOfs ws) step
def sdStatus (ws : List Nat) (step : Nat) : Nat :=
  stepAddr (bits (word ws 3) 0 42 * 64) 32 (sdRing ws) (sdOfs ws) step
def sdAxis (ws : List Nat) : Nat := bits (word ws 3) 42 2
def sdRsv (ws : List Nat) : Nat := bits (word ws 3) 44 20 * 4096
/-- Where the retention reserve begins (R119). -/
def sdReserve (ws : List Nat) : Nat := cdiv (bits (word ws 3) 0 42 * 64 + sdRing ws * 32) 4096 * 4096
/-- The block axis that a command's output takes: flattened with FLAT, else BAXIS (R52). -/
def outAxis (td sd : List Nat) : Nat := if tdFlat td then 4 else sdAxis sd
/-- A slot or half: physical pavilion, first bank, banks. -/
structure Place where
  pav : Nat
  b0 : Nat
  n : Nat
  deriving DecidableEq, Repr
def Place.addr (x : Place) : Nat := bankAddr x.pav x.b0
def Place.key (x : Place) : Nat := bankKey x.pav x.b0
def Place.keys (x : Place) : List Nat := (List.range x.n).map (fun i => bankKey x.pav (x.b0 + i))
/-- Row of an operand's S2 table for an element (R120): a weight by its outermost dimension, any other operand by D1 at
RANK ≤ 1 and by the combined D2 and D3 above. -/
def s2Row (ds : List Nat) (rank e : Nat) : Nat :=
  if rank ≤ 1 then coord ds e 1 else coord ds e 2 + ext ds 2 * coord ds e 3
/-- A private pair by its banks: the first, and how many each half has. [log entry 258 DEDUCED] -/
def pairId (ws : List Nat) : Nat := tdBank0 ws + 32 * tdSb ws
namespace State
/-- The TDESC, SDESC or KDESC in a slot of a program; empty where the slot is. -/
def td (s : State) (k i : Nat) : List Nat := (s.prog k).tds.get [] i
def sd (s : State) (k i : Nat) : List Nat := (s.prog k).sds.get [] i
def kd (s : State) (k i : Nat) : List Nat := (s.prog k).kds.get [] i
/-- Half `h` of a PAIR of program `k`. -/
def pairPlace (s : State) (k : Nat) (ws : List Nat) (h : Nat) : Place :=
  ⟨(s.stagePhys (keyPlot k) (keyStage k)).getD 0, tdBank0 ws + h * tdSb ws, tdSb ws⟩
/-- Slot `i` of a CHAN of plot `p`. -/
def chanPlace (s : State) (p : Nat) (ws : List Nat) (i : Nat) : Place :=
  ⟨(s.stagePhys p (tdRstage ws)).getD 0, tdBank0 ws + i * tdSb ws, tdSb ws⟩
def chanKey (p : Nat) (ws : List Nat) : Nat := 256 * p + tdChid ws
/-- The half that readers of the PAIR of a descriptor see: a pair is known by its banks (R92). [log entry 258 DEDUCED] -/
def activeHalf (s : State) (k : Nat) (ws : List Nat) : Nat := (s.prog k).active.get 0 (pairId ws)
/-- The channel slot that program `k` reads next, and the one that a producer writes next (R469). -/
def readSlot (s : State) (k : Nat) (ws : List Nat) : Nat := (s.chan (chanKey (keyPlot k) ws)).rptr.get 0 k
def writeSlot (s : State) (k : Nat) (ws : List Nat) : Nat := (s.chan (chanKey (keyPlot k) ws)).wptr
/-- Mesh time from program `k`'s pavilion to the pavilion of a channel's slots; 0 in the same pavilion (R95, R115). -/
def chanM (s : State) (k : Nat) (ws : List Nat) : Nat :=
  match s.stageLog (keyPlot k) (keyStage k), s.stageLog (keyPlot k) (tdRstage ws) with
  | some a, some b => if a = b then 0 else meshPav a b
  | _, _ => 0
/-- Whether the slot that reader `k` reads next carries a token it sees and has not consumed (R90, R95). -/
def tokenReady (s : State) (k : Nat) (ws : List Nat) : Bool :=
  let c := s.chan (chanKey (keyPlot k) ws)
  let i := s.readSlot k ws
  s.fullOf (s.chanPlace (keyPlot k) ws i).key && decide (c.tokAt.get 0 i + s.chanM k ws ≤ s.fc)
    && !(c.consumed.get [] i).contains k
/-- Whether the slot that producer `k` writes next holds a credit it sees (R90, R95). -/
def creditReady (s : State) (k : Nat) (ws : List Nat) : Bool :=
  let key := chanKey (keyPlot k) ws
  let c := s.chan key
  let i := c.wptr
  !s.fullOf (s.chanPlace (keyPlot k) ws i).key && !s.par.tokens.any (fun f => f.chan == key && f.slot == i)
    && (c.credAt.get 0 i == 0 || decide (c.credAt.get 0 i + s.chanM k ws ≤ s.fc))
/-- S2 of row `r` of a table address plus 1; 1.0 where there is none. -/
def s2At (s : State) (tab r : Nat) : Nat := if tab = 0 then fOne else s.lpNat (tab - 1 + 4 * r) 4
/-- Read a tensor that stands at a device address under a header. -/
def readTen (s : State) (a : Nat) (h : Hdr) : Ten :=
  let cb := codeBytes h.code h.dims
  let nb := if coded h.code then blockCount h.dims h.axis else 0
  { code := h.code, zp := h.zp, rank := h.rank, dims := h.dims, axis := h.axis, bmax := h.bmax, s2tab := h.s2tab,
    codes := (unpackRun (codeWidth h.code) (nElems h.dims) (s.bytes a cb)).toArray,
    ents := (unpackEnts nb (s.bytes (a + cdiv cb 64 * 64) (2 * nb))).toArray }
/-- The place that input descriptor `i` of program `k` reads now. -/
def inPlace (s : State) (k i : Nat) : Place :=
  let ws := s.td k i
  if tdKind ws = 3 then s.pairPlace k ws (s.activeHalf k ws) else s.chanPlace (keyPlot k) ws (s.readSlot k ws)
/-- The place that output descriptor `i` of program `k` writes now: the inactive half, or the slot of its credit. -/
def outPlace (s : State) (k i : Nat) : Place :=
  let ws := s.td k i
  if tdKind ws = 3 then s.pairPlace k ws (1 - s.activeHalf k ws) else s.chanPlace (keyPlot k) ws (s.writeSlot k ws)
/-- The tensor of an input, by the header its producer wrote. -/
def inTen (s : State) (k i : Nat) : Option Ten :=
  let x := s.inPlace k i
  (s.hdrOf x.key).map (fun h => s.readTen x.addr h)
/-- The header check of an input when its command fires (R123): a code where it fails. `ax` is the block axis that R52
requires of the input, none for no requirement. [log entry 103 DEDUCED] -/
def hdrCheck (s : State) (k i : Nat) (ax : Option Nat) : Option Nat :=
  let ws := s.td k i
  match s.hdrOf (s.inPlace k i).key with
  | none => some 0x020D
  | some h =>
    if tdKind ws = 3 ∧ ¬ s.markOf (s.inPlace k i).key then some 0x020D
    else if h.code ≠ tdCode ws ∨ h.zp ≠ tdZp ws ∨ h.dims ≠ tdDims ws then some 0x020E
    else match ax with
      | some a => if h.axis ≠ a then some 0x020E else none
      | none => none
end State
/-- The bytes of a slot or half that a tensor fills: codes, then the scale stream at the next 64-byte boundary. -/
def tensorBytes (c : Nat) (codes ents : List Nat) : List Byte :=
  let cb := packRun (codeWidth c) codes
  if coded c then cb ++ List.replicate (cdiv cb.length 64 * 64 - cb.length) 0 ++ packRun 16 ents else cb
end Sys2Proof.Machine
end

