-- ==== Sys2Proof/Machine/BelImage.lean ====
section
/-! DEFINITION. Belvedere's images (R169-R174, R178): descriptor fields, formats, the layout of levels, bands, the
segments and banks an image touches, and the reading of an element. -/
namespace Sys2Proof.Machine
open Sys2Proof
/-- Fields of a sampled descriptor. -/
def BelImg.kind (i : BelImg) : Nat := bits i.w0 0 3
def BelImg.fmt (i : BelImg) : Nat := bits i.w0 4 4
def BelImg.consume (i : BelImg) : Bool := bit i.w0 8
def BelImg.blvl (i : BelImg) : Nat := bits i.w0 9 2
def BelImg.plv (i : BelImg) : Nat := bits i.w0 11 3
def BelImg.owner (i : BelImg) : Nat := bits i.w0 16 10
def BelImg.wd (i : BelImg) : Nat := bits i.w0 32 16
def BelImg.ht (i : BelImg) : Nat := bits i.w0 48 16
def BelImg.base (i : BelImg) : Nat := bits i.w1 0 48
def BelImg.bank0 (i : BelImg) : Nat := bits i.w1 0 5
def BelImg.depth (i : BelImg) : Nat := bits i.w1 5 3
def BelImg.sb (i : BelImg) : Nat := bits i.w1 8 2 + 1
def BelImg.stage (i : BelImg) : Nat := bits i.w1 10 8
def BelImg.chid (i : BelImg) : Nat := bits i.w1 18 8
def BelImg.ring (i : BelImg) : Nat := bits i.w2 0 16
def BelImg.ofs (i : BelImg) : Nat := bits i.w2 16 16
def BelImg.stride (i : BelImg) : Nat := bits i.w2 32 32
def BelImg.pitch0 (i : BelImg) : Nat := bits i.w3 0 24
def BelImg.brows (i : BelImg) : Nat := bits i.w3 24 16
def BelImg.cofs (i : BelImg) : Nat := bits i.w3 40 24
/-- Bytes per element at level 0 (Table 7.2). -/
def fmtBytes (f : Nat) : Nat := match f with | 0 | 5 => 1 | 1 | 4 => 2 | _ => 4
def isPyr (f : Nat) : Bool := f == 4 || f == 5
/-- The code and D0 of a slot's header (Table 7.2): RAW8 is code 13, RAW16 code 14. -/
def fmtHdr (f : Nat) : Nat × Nat := match f with | 0 => (13, 1) | 1 => (14, 1) | 2 => (13, 4) | _ => (14, 2)
/-- Bytes per row of level 0. -/
def BelImg.pitch (i : BelImg) : Nat := if i.kind = 3 ∨ i.pitch0 = 0 then i.wd * fmtBytes i.fmt else i.pitch0
/-- Extents of level `n` (R171). -/
def lvlExt (w n : Nat) : Nat := (List.range n).foldl (fun w _ => cdiv w 2) w
/-- Bytes of level `n`. [log entry 166 DEDUCED] -/
def BelImg.lvlBytes (i : BelImg) (n : Nat) : Nat := if n = 0 then i.pitch * i.ht else lvlExt i.wd n * lvlExt i.ht n
/-- Offset of level `n` from the image address (R171). -/
def BelImg.lvlOff (i : BelImg) : Nat → Nat
  | 0 => 0
  | n + 1 =>
    let e := i.lvlOff n + i.lvlBytes n
    if 0x40000 ≤ i.lvlBytes n then cdiv e 0x40000 * 0x40000 else cdiv e 64 * 64
/-- Offset of the confidence plane of FLOWV (R173, R178). -/
def BelImg.confOff (i : BelImg) : Nat := if i.kind = 3 then cdiv (i.wd * i.ht * 4) 64 * 64 else i.cofs * 64
/-- The byte ranges of an image, relative to its address. -/
def BelImg.parts (i : BelImg) : List (Nat × Nat) :=
  let l0 := (0, (i.ht - 1) * i.pitch + i.wd * fmtBytes i.fmt)
  if isPyr i.fmt then l0 :: (List.range (i.plv - 1)).map (fun n => (i.lvlOff (n + 1), i.lvlBytes (n + 1)))
  else if i.fmt = 6 then [l0, (i.confOff, i.wd * i.ht)]
  else [l0]
/-- The end of the image, relative to its address. -/
def BelImg.len (i : BelImg) : Nat := i.parts.foldl (fun m p => max m (p.1 + p.2)) 0
/-- The address at a step (R173). -/
def BelImg.at_ (i : BelImg) (step : Nat) : Nat :=
  (if i.kind = 2 then fsBase else 0) + stepAddr i.base (i.stride * 64) i.ring i.ofs step
/-- First row of the band written, and its rows (R174): the whole image without band fields. -/
def BelImg.band (i : BelImg) (row0 : Nat) : Nat × Nat :=
  if i.brows = 0 then (0, i.ht) else (row0, min (row0 + i.brows) i.ht - row0)
namespace State
/-- Sample descriptor `d` (R173). -/
def sampleImg (s : State) (d : Nat) : BelImg :=
  { idx := d, w0 := s.rd .BEL_IMG_W0 d, w1 := s.rd .BEL_IMG_W1 d, w2 := s.rd .BEL_IMG_W2 d, w3 := s.rd .BEL_IMG_W3 d }
/-- Place a sampled image for a program of plot `p` at `step`: its address for memory, its pavilion for a slot. -/
def placeImg (s : State) (p step : Nat) (i : BelImg) : BelImg :=
  if i.kind = 3 then { i with pav := (s.stagePhys p i.stage).getD 0 } else { i with addr := i.at_ step }
/-- The slot that a SLOT image's descriptor names now (R178). [log entry 168 DEDUCED] -/
def imgSlot (s : State) (i : BelImg) : Place :=
  ⟨i.pav, i.bank0 + (s.fld BEL_IMG_W0_RPTR i.idx % (i.depth + 1)) * i.sb, i.sb⟩
/-- The image with the address of the slot it uses now. -/
def atSlot (s : State) (i : BelImg) : BelImg := if i.kind = 3 then { i with addr := (s.imgSlot i).addr } else i
end State
/-- Control keys of the segments of a frame-store image, or of the banks of all slots of a SLOT image; none for LPDDR. -/
def BelImg.keys (i : BelImg) : List Nat :=
  if i.kind = 2 then (i.parts.flatMap (fun p => State.storeKeys (i.addr + p.1) p.2)).eraseDups
  else if i.kind = 3 then (List.range ((i.depth + 1) * i.sb)).map (fun n => bankKey i.pav (i.bank0 + n))
  else []
/-- Control keys of the segments or of the one slot that the image uses now. -/
def BelImg.keysNow (i : BelImg) : List Nat :=
  if i.kind = 3 then State.storeKeys i.addr (i.sb * 0x10000) else i.keys
/-- An element of level 0, as a number. -/
def BelImg.px (i : BelImg) (s : State) (who : Asker) (x y : Nat) : Nat :=
  let a := i.addr + y * i.pitch + x * fmtBytes i.fmt
  if i.kind = 3 then s.leAt a (fmtBytes i.fmt) else leNat (s.devRead who none a (fmtBytes i.fmt)).1
/-- A sample of level `n` of a pyramid or luma image in 8 bits (R184). -/
def BelImg.sample (i : BelImg) (s : State) (who : Asker) (n : Nat) (x y : Int) : Nat :=
  let w := lvlExt i.wd n; let h := lvlExt i.ht n
  let cx := (sat x 0 ((w : Int) - 1)).toNat; let cy := (sat y 0 ((h : Int) - 1)).toNat
  if n = 0 then
    let v := i.px s who cx cy
    if fmtBytes i.fmt = 2 then (sat (rneQ v 256) 0 255).toNat else v
  else leNat (s.devRead who none (i.addr + i.lvlOff n + cy * w + cx) 1).1
/-- The components of a vector element (R193): signed, in S10.5. -/
def vecXY (v : Nat) : Int × Int := (toSigned 16 (v % 65536), toSigned 16 (v / 65536))
/-- Channels of an element: the pieces of a pixel as numbers, lowest bits first, with their widths. -/
def chanBits (f : Nat) : List (Nat × Nat) :=
  match f with
  | 0 => [(0, 8)]
  | 1 => [(0, 16)]
  | 2 => [(0, 8), (8, 8), (16, 8), (24, 8)]
  | _ => [(0, 10), (10, 10), (20, 10), (30, 2)]
end Sys2Proof.Machine
end

