-- ==== Sys2Proof/Machine/BelAlg.lean ====
section
/-! DEFINITION. Belvedere's algorithms: pyramid and resize (R181-R183), optical flow (R184-R188), disparity (R189-R192),
warp (R193, R194), and the durations of requests (R195). -/
namespace Sys2Proof.Machine
open Sys2Proof
/-! Pyramid and resize (R181-R183). -/

/-- Luma of an element in the output format (R181, R182): 8 or 16 bits. -/
def lumaOf (f out : Nat) (v : Nat) : Nat :=
  let w8 := fmtBytes out = 1
  let y16 : Int :=
    match f with
    | 2 => rneQ (13933 * bits v 16 8 + 46871 * bits v 8 8 + 4732 * bits v 0 8 : Nat) 256
    | 3 => rneQ (13933 * bits v 20 10 + 46871 * bits v 10 10 + 4732 * bits v 0 10 : Nat) 1024
    | _ => v
  if f = 0 then v else if w8 then (sat (rneQ y16 256) 0 255).toNat else y16.toNat
/-- The next level of a pyramid from the samples of one, rows in order (R182); `d` is 1024 from a PYR16 level 0, else 4. -/
def nextLevel (d w h : Nat) (px : List Nat) : List Nat :=
  (List.range (cdiv h 2)).flatMap (fun y => (List.range (cdiv w 2)).map (fun x =>
    let at_ := fun (i j : Nat) => px.getD (min j (h - 1) * w + min i (w - 1)) 0
    (sat (rneQ (at_ (2 * x) (2 * y) + at_ (2 * x + 1) (2 * y) + at_ (2 * x) (2 * y + 1) + at_ (2 * x + 1) (2 * y + 1) : Nat) d) 0 255).toNat))
/-- Levels 1 to `n` of a pyramid, as (level, bytes). -/
def levelsFrom (d w h : Nat) (px : List Nat) (lvl : Nat) : Nat → List (Nat × List Byte)
  | 0 => []
  | n + 1 =>
    let q := nextLevel d w h px
    (lvl, q.map (BitVec.ofNat 8)) :: levelsFrom 4 (cdiv w 2) (cdiv h 2) q (lvl + 1) n
/-- What PYRAMID writes (R182). -/
def pyramid (s : State) (who : Asker) (a o : BelImg) : List (Nat × List Byte) :=
  let w := o.wd; let h := o.ht
  let eb := fmtBytes o.fmt
  let rows := (List.range h).map (fun y => (List.range w).map (fun x => lumaOf a.fmt o.fmt (a.px s who x y)))
  (rows.zip (List.range h)).map (fun r => (o.addr + r.2 * o.pitch, r.1.flatMap (leBytes eb)))
    ++ (levelsFrom (if eb = 2 then 1024 else 4) w h rows.flatten 1 (o.plv - 1)).map (fun l => (o.addr + o.lvlOff l.1, l.2))
/-- Steps of RESIZE (R183). -/
def resizeStep (win wout : Nat) : Nat := (rneQ (2 ^ 24 * win : Nat) wout).toNat
/-- The element of RESIZE at (x, y) (R183). -/
def resizePx (s : State) (who : Asker) (a o : BelImg) (filt x y : Nat) : Nat :=
  let tx := resampTaps filt x (resizeStep a.wd o.wd) a.wd
  let ty := resampTaps filt y (resizeStep a.ht o.ht) a.ht
  let taps := ty.flatMap (fun q => tx.map (fun p => (a.px s who p.1 q.1, p.2 * q.2)))
  (chanBits a.fmt).foldl (fun v c =>
    let sum : Int := taps.foldl (fun acc t => acc + t.2 * bits t.1 c.1 c.2) 0
    v + (if filt = 0 then sum.toNat else (rneQ sum (2 ^ 24)).toNat) * 2 ^ c.1) 0
/-- The rows a banded request writes, from a function of the element at (x, y). -/
def bandRows (o : BelImg) (row0 rows : Nat) (f : Nat → Nat → Nat) : List (Nat × List Byte) :=
  (List.range rows).map (fun r =>
    (o.addr + (row0 + r) * o.pitch, (List.range o.wd).flatMap (fun x => leBytes (fmtBytes o.fmt) (f x (row0 + r)))))

/-! Census and cost (R184, R185). -/

/-- The 24 neighbours of the census, in order. -/
def censusAt : List (Int × Int) :=
  (List.range 25).filterMap (fun i => if i = 12 then none else some ((i % 5 : Nat) - 2, (i / 5 : Nat) - 2))
/-- The census bits of a pixel of a sampled level. -/
def census (f : Int → Int → Nat) (x y : Int) : List Bool := censusAt.map (fun d => decide (f x y < f (x + d.1) (y + d.2)))
/-- Cost of matching one pixel (R185). `f` and `g` clamp their coordinates. -/
def pixCost (f g : Int → Int → Nat) (cw clip : Nat) (x y u v : Int) : Nat :=
  let hd := ((census f x y).zip (census g u v)).foldl (fun n p => if p.1 = p.2 then n else n + 1) 0
  cw * hd + min (Int.natAbs ((f x y : Int) - g u v)) clip

/-! Optical flow (R185-R188). -/

/-- The support of a block. -/
def support (bx b_y : Nat) : List (Int × Int) :=
  (List.range 64).map (fun i => (4 * bx + (i % 8 : Nat) - 2, 4 * b_y + (i / 8 : Nat) - 2))
/-- Cost of a candidate of a block (R185). -/
def blockCost (f g : Int → Int → Nat) (cw clip bx b_y : Nat) (d : Int × Int) : Nat :=
  (support bx b_y).foldl (fun n p => n + pixCost f g cw clip p.1 p.2 (p.1 + d.1) (p.2 + d.2)) 0
/-- The candidates around a predictor, and their choice by the keys of R186. -/
def candidates (sr : Nat) (p : Int × Int) : List (Int × Int) :=
  (List.range ((2 * sr + 1) * (2 * sr + 1))).map (fun i =>
    (p.1 + (i % (2 * sr + 1) : Nat) - sr, p.2 + (i / (2 * sr + 1) : Nat) - sr))
/-- Lexicographic order of lists of integers. -/
def lexLt : List Int → List Int → Bool
  | a :: s, b :: t => decide (a < b) || (a == b && lexLt s t)
  | _, _ => false
/-- The least element by a key; the first of equals. -/
def leastBy {α : Type} (key : α → List Int) : List α → Option α
  | [] => none
  | a :: t => match leastBy key t with
    | none => some a
    | some b => if lexLt (key b) (key a) then some b else some a
/-- The best integer vector of a block at level `n`, where `up` levels lie above it (R186); and its predictor. -/
def bestVec (s : State) (who : Asker) (a b : BelImg) (sr cw clip : Nat) : Nat → Nat → Nat → Nat → (Int × Int) × (Int × Int)
  | 0, n, bx, b_y => choose n bx b_y (0, 0)
  | up + 1, n, bx, b_y =>
    let px := min (bx / 2) (cdiv (lvlExt a.wd (n + 1)) 4 - 1)
    let py := min (b_y / 2) (cdiv (lvlExt a.ht (n + 1)) 4 - 1)
    let v := (bestVec s who a b sr cw clip up (n + 1) px py).1
    choose n bx b_y (2 * v.1, 2 * v.2)
where
  /-- The choice among the candidates of one block. -/
  choose (n bx b_y : Nat) (p : Int × Int) : (Int × Int) × (Int × Int) :=
    let f := a.sample s who n; let g := b.sample s who n
    ((leastBy (fun (d : Int × Int) => [(blockCost f g cw clip bx b_y d : Int), (Int.natAbs (d.1 - p.1) + Int.natAbs (d.2 - p.2) : Nat), d.2, d.1])
      (candidates sr p)).getD p, p)
/-- Sub-pixel offset from three costs, in 1/`u` of a pixel of `lim` each way (R187, R190). -/
def subPel (edge : Bool) (k lim : Int) (cm c0 cp : Nat) : Int :=
  let den : Int := (cm : Int) - 2 * c0 + cp
  if edge ∨ den = 0 then 0
  else
    let num := k * ((cm : Int) - cp)
    sat (if 0 < den then rneQ num den.toNat else rneQ (-num) (-den).toNat) (-lim) lim
/-- The vector, confidence and validity of a level-0 block (R187, R188). -/
def flowBlock (s : State) (who : Asker) (a b : BelImg) (ps : Nat) (bx b_y : Nat) : (Nat × Nat) × Bool :=
  let levels := bits ps 0 3; let sr := bits ps 3 4; let cw := bits ps 7 4; let clip := bits ps 11 8
  let (d, p) := bestVec s who a b sr cw clip (levels - 1) 0 bx b_y
  let f := a.sample s who 0; let g := b.sample s who 0
  let cost := blockCost f g cw clip bx b_y
  let c1 := cost d
  let far := (candidates sr p).filter (fun e => decide (2 ≤ max (Int.natAbs (e.1 - d.1)) (Int.natAbs (e.2 - d.2))))
  let c2 := (far.map cost).foldl min 0xFFFFFFFF
  let conf := if c2 = 0 then 0 else 255 * (c2 - c1) / c2
  let out := (support bx b_y).all (fun q => decide (q.1 + d.1 < 0 ∨ (b.wd : Int) ≤ q.1 + d.1 ∨ q.2 + d.2 < 0 ∨ (b.ht : Int) ≤ q.2 + d.2))
  if bits ps 32 16 < c1 ∨ conf < bits ps 19 8 ∨ out then ((0x80008000, 0), false)
  else
    let ox := subPel (Int.natAbs (d.1 - p.1) == sr) 16 16 (cost (d.1 - 1, d.2)) c1 (cost (d.1 + 1, d.2))
    let oy := subPel (Int.natAbs (d.2 - p.2) == sr) 16 16 (cost (d.1, d.2 - 1)) c1 (cost (d.1, d.2 + 1))
    ((ofSigned 16 (32 * d.1 + ox) + 65536 * ofSigned 16 (32 * d.2 + oy), conf), true)
/-- What FLOW writes, and its FLOW_INVALID count. -/
def flow (s : State) (who : Asker) (a b o : BelImg) (ps : Nat) : List (Nat × List Byte) × Nat :=
  let rs := (List.range o.ht).map (fun y => (List.range o.wd).map (fun x => flowBlock s who a b ps x y))
  let z := rs.zip (List.range o.ht)
  (z.map (fun r => (o.addr + r.2 * o.pitch, r.1.flatMap (fun v => leBytes 4 v.1.1)))
    ++ z.map (fun r => (o.addr + o.confOff + r.2 * o.wd, r.1.map (fun v => BitVec.ofNat 8 v.1.2))),
   (rs.flatten.filter (fun v => !v.2)).length)

/-! Disparity (R189-R192). -/

/-- The eight paths (R190). -/
def paths : List (Int × Int) := [(1, 0), (-1, 0), (0, 1), (0, -1), (1, 1), (1, -1), (-1, 1), (-1, -1)]
/-- Costs along one path up to a pixel (R190): the list over d of lr(p, d). `fuel` bounds the path's length; `c` gives
the pixel costs of a pixel's candidates. -/
def pathCosts (w h p1 p2 : Nat) (c : Int → Int → List Nat) (r : Int × Int) : Nat → Int → Int → List Nat
  | 0, x, y => c x y
  | fuel + 1, x, y =>
    let qx := x - r.1; let qy := y - r.2
    if qx < 0 ∨ (w : Int) ≤ qx ∨ qy < 0 ∨ (h : Int) ≤ qy then c x y
    else
      let l := pathCosts w h p1 p2 c r fuel qx qy
      let m := l.foldl min 0xFFFFFFFF
      ((c x y).zip (List.range (c x y).length)).map (fun p =>
        let d := p.2
        let ts := (l[d]?.toList) ++ (if d = 0 then [] else (l[d - 1]?.toList).map (· + p1)) ++ ((l[d + 1]?.toList).map (· + p1)) ++ [m + p2]
        (sat ((p.1 : Int) + (ts.foldl min 0xFFFFFFFF : Nat) - m) 0 65535).toNat)
/-- s(p, d) over the candidates of a pixel (R190). -/
def aggCosts (w h p1 p2 : Nat) (c : Int → Int → List Nat) (x y : Int) : List Nat :=
  let ls := paths.map (fun r => pathCosts w h p1 p2 c r (w + h) x y)
  (List.range (c x y).length).map (fun d => ls.foldl (fun n l => n + l.getD d 0) 0)
/-- The place of the least element, the first of equals. -/
def leastAt (l : List Nat) : Nat :=
  ((leastBy (fun (p : Nat × Nat) => [(p.1 : Int), (p.2 : Int)]) (l.zip (List.range l.length))).map (fun p => p.2)).getD 0
/-- The record of a pixel, whether it is occluded and whether textureless (R189-R192, Table 7.4). -/
def dispPx (s : State) (who : Asker) (a b : BelImg) (ps vth : Nat) (x y : Nat) : Nat × Bool × Bool :=
  let w := a.wd; let h := a.ht
  let dmax := bits ps 0 8; let cw := bits ps 9 4; let clip := bits ps 13 8; let thr := bits ps 21 11
  let p1 := bits ps 32 12; let p2 := bits ps 44 12
  let f := a.sample s who 0; let g := b.sample s who 0
  let c := fun (u v : Int) => (List.range (min dmax u.toNat + 1)).map (fun d => pixCost f g cw clip u v (u - (d : Nat)) v)
  let agg := aggCosts w h p1 p2 c
  let sv := agg x y
  let d := leastAt sv
  let last := sv.length - 1
  let off := subPel (d == 0 || d == last) 8 8 (sv.getD (d - 1) 0) (sv.getD d 0) (sv.getD (d + 1) 0)
  let dl := (sat (16 * (d : Int) + off) 0 4095).toNat
  let far := (sv.zip (List.range sv.length)).filter (fun p => decide (p.2 + 2 ≤ d ∨ d + 2 ≤ p.2))
  let c2 := (far.map (fun p => p.1)).foldl min 0xFFFFFFFF
  let conf := if far.isEmpty ∨ c2 = 0 then 0 else 255 * (c2 - sv.getD d 0) / c2
  let xr : Int := (x : Int) - ((dl + 8) / 16 : Nat)
  let dr := leastAt ((List.range (min dmax (w - 1 - xr.toNat) + 1)).map (fun e => (agg (xr + (e : Nat)) y).getD e 0))
  let fails := bit ps 8 && decide (xr < 0 ∨ thr < Int.natAbs ((dl : Int) - 16 * dr))
  let win := (List.range 25).map (fun i => f ((x : Int) + (i % 5 : Nat) - 2) ((y : Int) + (i / 5 : Nat) - 2))
  let sum := win.foldl (· + ·) 0
  let v := 25 * (win.map (fun q => q * q)).foldl (· + ·) 0 - sum * sum
  let low := decide (v < vth)
  let cf := if fails || low then 0 else conf
  ((if fails then 0xFFFF else dl) + cf * 2 ^ 16 + b2n fails * 2 ^ 24 + b2n low * 2 ^ 25, fails, low)
/-- What DISP writes, with its DISP_OCC and DISP_LOWTEX counts. -/
def disparity (s : State) (who : Asker) (a b o : BelImg) (ps vth : Nat) : List (Nat × List Byte) × Nat × Nat :=
  let rs := (List.range o.ht).map (fun y => (List.range o.wd).map (fun x => dispPx s who a b ps vth x y))
  ((rs.zip (List.range o.ht)).map (fun r => (o.addr + r.2 * o.pitch, r.1.flatMap (fun v => leBytes 4 v.1))),
   (rs.flatten.filter (fun v => v.2.1)).length, (rs.flatten.filter (fun v => v.2.2)).length)

/-! Warp (R193, R194). -/

/-- The taps of a warp along one axis: source index, clamped, and weight (R194). -/
def warpTaps (filt : Nat) (sx : Int) (n : Nat) : List (Nat × Int) :=
  let i := sx.fdiv 32
  let fx := (sx - 32 * i).toNat
  let cl := fun (x : Int) => (sat x 0 ((n : Int) - 1)).toNat
  match filt with
  | 0 => [(cl ((sx + 16).fdiv 32), 1)]
  | 1 => [(cl i, 32 - (fx : Int)), (cl (i + 1), (fx : Int))]
  | _ => ((cubicW fx 5).zip [i - 1, i, i + 1, i + 2]).map (fun p => (cl p.2, p.1))
/-- The vector of an output pixel, scaled, and whether it was bad (R193). -/
def warpVec (s : State) (who : Asker) (b : BelImg) (ps x y : Nat) : (Int × Int) × Bool :=
  let vg := bits ps 4 6 + 1
  let v := vecXY (b.px s who (x / vg) (y / vg))
  let bad := v.1 = -32768 ∨ v.2 = -32768
  let sc := toSigned 16 (bits ps 16 16)
  let v := if bad then (0, 0) else v
  ((rneQ (v.1 * sc) 4096, rneQ (v.2 * sc) 4096), decide bad)
/-- An output pixel of a warp (R193, R194). -/
def warpPx (s : State) (who : Asker) (a b : BelImg) (ps x y : Nat) : Nat :=
  let filt := bits ps 0 2
  let v := (warpVec s who b ps x y).1
  let tx := warpTaps filt (32 * (x : Int) + v.1) a.wd
  let ty := warpTaps filt (32 * (y : Int) + v.2) a.ht
  let taps := ty.flatMap (fun q => tx.map (fun p => (a.px s who p.1 q.1, p.2 * q.2)))
  (chanBits a.fmt).foldl (fun acc c =>
    let sum : Int := taps.foldl (fun n t => n + t.2 * bits t.1 c.1 c.2) 0
    acc + (match filt with
      | 0 => sum.toNat
      | 1 => (rneQ sum 1024).toNat
      | _ => (sat (rneQ sum (2 ^ 28)) 0 (2 ^ c.2 - 1)).toNat) * 2 ^ c.1) 0
/-- What a warp writes, and its WARP_BADVEC count: one for each vector that the rows written use (DEDUCED: the register
counts vectors). [log entry 167 DEDUCED] -/
def warp (s : State) (who : Asker) (a b o : BelImg) (ps row0 rows : Nat) : List (Nat × List Byte) × Nat :=
  let vg := bits ps 4 6 + 1
  let cells := (List.range ((row0 + rows - 1) / vg + 1 - row0 / vg)).flatMap (fun j =>
    (List.range (cdiv o.wd vg)).filter (fun i =>
      let v := vecXY (b.px s who i (row0 / vg + j))
      decide (v.1 = -32768 ∨ v.2 = -32768)))
  (bandRows o row0 rows (warpPx s who a b ps), if rows = 0 then 0 else cells.length)

/-- Duration of a request in cb (R195, Table 7.5). -/
def belCb (op : Nat) (a o : BelImg) (rows : Nat) : Nat :=
  match op with
  | 0 => 1800 + cdiv (9 * (a.wd * a.ht)) 10
  | 1 => 2400 + cdiv (9 * (a.wd * a.ht)) 10
  | 2 => 600 + cdiv (o.wd * rows) 4
  | 3 => 800 + cdiv (a.wd * a.ht) 4
  | _ => 600 + cdiv (o.wd * rows * max (2 ^ 24) (resizeStep a.wd o.wd) * max (2 ^ 24) (resizeStep a.ht o.ht)) (2 ^ 50)
/-- A duration of `t` cb in fc (R195). [log entry 162 DEDUCED] -/
def cbFc (t : Nat) : Nat := cdiv (11 * t) 9
end Sys2Proof.Machine
end

