-- ==== Sys2Proof/Machine/Switch.lean ====
section
/-! DEFINITION. The switchable-function state machine (R266, R267), one operation for every function that has EN, STATE
and PENDING_ON. States are 0 OFF, 1 STARTING, 2 ON, 3 STOPPING. -/
namespace Sys2Proof.Machine
open Sys2Proof
/-- The EN, STATE and PENDING_ON fields of a function, and its instance number. -/
def fnFlds : FnId → Fld × Fld × Fld × Nat
  | .plot n => (PLT_CTRL_EN, PLT_STAT_STATE, PLT_STAT_PENDING_ON, n)
  | .stream n => (PLT_STRM_CFG_EN, PLT_STRM_CFG_STATE, PLT_STRM_CFG_PENDING_ON, n)
  | .head n => (BST_HCTRL_EN, BST_HCTRL_STATE, BST_HCTRL_PENDING_ON, n)
  | .batch n => (PLT_BAT_CFG_EN, PLT_BAT_CFG_STATE, PLT_BAT_CFG_PENDING_ON, n)
  | .bel n => (BEL_PWR_CTRL_EN, BEL_PWR_CTRL_STATE, BEL_PWR_CTRL_PENDING_ON, n)
  | .link n => (ZHL_LNK_CTRL_EN, ZHL_LNK_CTRL_STATE, ZHL_LNK_CTRL_PENDING_ON, n)
  | .port n => (ETH_PORT_CFG_EN, ETH_PORT_CFG_STATE, ETH_PORT_CFG_PENDING_ON, n)
  | .rx n => (ETH_RX_CFG_EN, ETH_RX_CFG_STATE, ETH_RX_CFG_PENDING_ON, n)
  | .tx n => (ETH_TX_CFG_EN, ETH_TX_CFG_STATE, ETH_TX_CFG_PENDING_ON, n)
  | .dma n => (PCI_DMA_CTRL_EN, PCI_DMA_CTRL_STATE, PCI_DMA_CTRL_PENDING_ON, n)
  | .pwr n => (PWR_DOM_CTRL_EN, PWR_DOM_CTRL_STATE, PWR_DOM_CTRL_PENDING_ON, n)
/-- What a write of EN or the end of a state's work makes begin: nothing, the STARTING work, the STOPPING work. -/
inductive SwWork | none | start | stop
  deriving DecidableEq, Repr
namespace State
def fnState (s : State) (f : FnId) : Nat := s.fld (fnFlds f).2.1 (fnFlds f).2.2.2
def fnEn (s : State) (f : FnId) : Bool := s.on (fnFlds f).1 (fnFlds f).2.2.2
def fnPending (s : State) (f : FnId) : Bool := s.on (fnFlds f).2.2.1 (fnFlds f).2.2.2
def setFnState (s : State) (f : FnId) (v : Nat) : State := s.setFld (fnFlds f).2.1 v (fnFlds f).2.2.2
def setFnEn (s : State) (f : FnId) (b : Bool) : State := s.setFld (fnFlds f).1 (b2n b) (fnFlds f).2.2.2
def setFnPending (s : State) (f : FnId) (b : Bool) : State := s.setFld (fnFlds f).2.2.1 (b2n b) (fnFlds f).2.2.2
/-- A write of EN (Table 11.1, R267): EN reads the value last written; a stop latched in STARTING is EN = 0 there. In the OFF that
PENDING_ON is to end, EN = 0 takes the request back. [log entry 265 DEDUCED] -/
def enWrite (s : State) (f : FnId) (b : Bool) : State × SwWork :=
  let s := s.setFnEn f b
  let again := s.restart.any (fun x => x.1 == f)
  match s.fnState f with
  | 0 =>
    if b then (if again then (s, .none) else (s.setFnState f 1, .start))
    else if again then ({ s.setFnPending f false with restart := s.restart.filter (fun x => x.1 != f) }, .none)
    else (s, .none)
  | 1 => (s, .none)
  | 2 => if b then (s, .none) else ({ s.setFnState f 3 with brief := s.brief.erase f }, .stop)
  | _ => (s.setFnPending f b, .none)
/-- The STARTING work completes (Table 11.1): ON, with a stop latched for one cycle only; a failure goes to OFF and discards the latched
stop. -/
def startDone (s : State) (f : FnId) (ok : Bool) : State :=
  if s.fnState f ≠ 1 then s
  else if ok then
    if s.fnEn f then s.setFnState f 2 else { s.setFnState f 2 with brief := s.brief ++ [f] }
  else s.setFnState f 0
/-- The STOPPING work completes (Table 11.1): OFF, from which PENDING_ON starts the function again. -/
def stopDone (s : State) (f : FnId) : State :=
  if s.fnState f ≠ 3 then s
  else if s.fnPending f then { s.setFnState f 0 with restart := s.restart.filter (fun x => x.1 != f) ++ [(f, s.tick)] }
  else s.setFnState f 0
/-- The function holds ON for the one cycle before a latched stop: it dispatches nothing (R266). -/
def fnBrief (s : State) (f : FnId) : Bool := s.brief.contains f
end State
end Sys2Proof.Machine
end

