-- ==== Sys2Proof/Machine/Bel.lean ====
section
/-! DEFINITION. Belvedere's requests (R128, R129, R167-R180, R195, R196): the checks at issue, sampling at fire, acceptance,
start, completion and their abort. -/
namespace Sys2Proof.Machine
open Sys2Proof
/-- Fields of FLOW, DISP and WARP (R128). -/
def bUnit (w : Nat) : Nat := bits w 51 3
def bImgA (w : Nat) : Nat := bits w 43 8
def bImgB (w : Nat) : Nat := bits w 35 8
def bImgO (w : Nat) : Nat := bits w 27 8
def bPset (w : Nat) : Nat := bits w 23 4
def bWdone (w : Nat) : Nat := bits w 6 17
/-- The engine that a request names (Table 7.1); none where UNIT is invalid. -/
def bEngine (w : Nat) : Option Nat :=
  match opc w with
  | 0x30 => if bUnit w ≤ 1 then some (bUnit w) else none
  | 0x31 => if bUnit w = 0 then some 2 else none
  | _ => if bUnit w ≤ 3 then some (3 + bUnit w) else if bUnit w = 4 then some 7 else none
/-- The power domain of an engine (Table 7.1). -/
def engDomain (e : Nat) : Nat := [0, 1, 2, 3, 3, 4, 4, 5].getD e 0
namespace State
def eng (s : State) (e : Nat) : BelEng := s.bel.eng.get {} e
/-- Replace an engine, and show QDEPTH and BUSY. -/
def setEng (s : State) (e : Nat) (g : BelEng) : State :=
  let s := { s with bel := { s.bel with eng := s.bel.eng.set {} e g } }
  (s.setFld BEL_ENG_STAT_QDEPTH g.queue.length e).setFld BEL_ENG_STAT_BUSY (b2n g.cur.isSome) e
/-- The parameter set word of a request, and the texture threshold. -/
def psetWord (s : State) (op j : Nat) : Nat :=
  match op with
  | 0 => s.rd .BEL_FPSET j
  | 1 => s.rd .BEL_DPSET j
  | _ => s.rd .BEL_WPSET j
/-- The operation of a request: OP of the parameter set chooses on the pyramid and resize engine. -/
def belOp (s : State) (w : Nat) : Nat :=
  match opc w with
  | 0x30 => 0
  | 0x31 => 1
  | _ => if bUnit w = 4 then (if s.on BEL_WPSET_OP (bPset w) then 4 else 3) else 2
/-- Warp unit `n` is reserved for the pacer of a stream with FB = 1 that is not OFF (R209). [log entry 170 DEDUCED] -/
def warpReserved (s : State) (n : Nat) : Bool :=
  (List.range 16).any (fun i => s.strmState i != 0 && (s.strm i).fb && bit (s.strm i).heads n)
/-- The images of a request that its form uses. -/
def belImgs (op : Nat) (a b o : BelImg) : List BelImg := if op ≤ 2 then [a, b, o] else [a, o]
/-- Formats the form allows (R175, Table 7.3). -/
def belFmtOk (op : Nat) (a b o : BelImg) : Bool :=
  match op with
  | 0 => isPyr a.fmt && b.fmt == a.fmt && o.fmt == 6
  | 1 => a.fmt ≤ 1 && b.fmt == a.fmt && o.fmt == 7
  | 2 => a.fmt ≤ 3 && b.fmt == 6 && o.fmt == a.fmt
  | 3 => a.fmt ≤ 3 && isPyr o.fmt && !(a.fmt == 0 && o.fmt == 4)
  | _ => a.fmt ≤ 3 && o.fmt == a.fmt
/-- KINDs that the form allows (R129, Table 7.3). -/
def belKindOk (op : Nat) (a b o : BelImg) : Bool :=
  let any := fun (i : BelImg) => 1 ≤ i.kind && i.kind ≤ 3
  match op with
  | 0 | 1 => a.kind == 2 && b.kind == 2 && any o
  | 2 => (a.kind == 1 || a.kind == 2) && any b && any o
  | _ => any a && any o
/-- Extents and room (R174, R175): each image 1 to 8192, the form's size rule, the whole ring of an FSTORE image within
the store, a slot with room for image and header, a band that starts in the image. -/
def belSizeOk (op ps : Nat) (a b o : BelImg) (row0 : Nat) : Bool :=
  let ext1 := fun (i : BelImg) => 1 ≤ i.wd && i.wd ≤ 8192 && 1 ≤ i.ht && i.ht ≤ 8192
  let room := fun (i : BelImg) =>
    match i.kind with
    | 2 => decide (i.base + (i.ring - 1) * (i.stride * 64) + i.len ≤ 0x6000000)
    | 3 => !isPyr i.fmt && decide (i.len + 64 ≤ i.sb * 0x10000)
    | _ => true
  let frame := decide (64 ≤ a.wd ∧ a.wd ≤ 4096 ∧ 64 ≤ a.ht ∧ a.ht ≤ 4096) && b.wd == a.wd && b.ht == a.ht
  let l := bits ps 0 3
  let vg := bits ps 4 6 + 1
  (belImgs op a b o).all (fun i => ext1 i && room i) && decide (o.brows = 0 ∨ row0 < o.ht) &&
  (match op with
   | 0 => frame && o.wd == cdiv a.wd 4 && o.ht == cdiv a.ht 4 && l ≤ a.plv && l ≤ b.plv
          && decide (16 ≤ lvlExt a.wd (l - 1) ∧ 16 ≤ lvlExt a.ht (l - 1))
   | 1 => frame && o.wd == a.wd && o.ht == a.ht
   | 2 => o.wd == a.wd && o.ht == a.ht && decide (cdiv a.wd vg ≤ b.wd ∧ cdiv a.ht vg ≤ b.ht)
   | 3 => o.wd == a.wd && o.ht == a.ht
   | _ => true)
/-- Parameter sets, rings, alignment and misplaced bands (R174, R175, R183, R190); `depth` is how many loops are open.
[log entry 164 DEDUCED] -/
def belParamOk (op ps : Nat) (a b o : BelImg) (depth : Nat) : Bool :=
  let mem := fun (i : BelImg) => i.kind == 3 || (i.ring != 0 && i.base % 64 == 0)
  let plv := fun (i : BelImg) => !isPyr i.fmt || i.plv != 0
  let plain := fun (i : BelImg) => i.blvl == 0 && i.brows == 0
  (belImgs op a b o).all (fun i => mem i && plv i) &&
  (if op = 2 ∨ op = 4 then plain a && (op = 4 || plain b) && o.blvl ≤ depth else (belImgs op a b o).all plain) &&
  (match op with
   | 0 => bits ps 0 3 != 0 && decide (2 ≤ bits ps 3 4 ∧ bits ps 3 4 ≤ 8)
   | 1 => bits ps 0 8 != 0 && decide (bits ps 32 12 ≤ bits ps 44 12)
   | 4 => bits ps 0 2 ≤ 1
   | _ => bits ps 0 2 != 3)
/-- Whether an output and an input share a segment, a bank or a byte (R175). -/
def belOverlap (i o : BelImg) : Bool :=
  if i.kind = 1 ∧ o.kind = 1 then
    i.parts.any (fun p => o.parts.any (fun q => hits (i.addr + p.1) p.2 (o.addr + q.1) q.2))
  else i.keys.any (fun k => o.keys.contains k)
/-- The band index of an output image for a program (R174): the index of loop level BLVL, and the first row. -/
def bandRow (g : Prog) (o : BelImg) : Nat := if o.blvl = 0 ∨ o.brows = 0 then 0 else loopIdx g o.blvl * o.brows
/-- The output as it takes effect: without BLVL or BROWS the whole image is written (R174). -/
def bandOut (o : BelImg) : BelImg := if o.blvl = 0 then { o with w3 := setBits o.w3 24 16 0 } else o
/-- The ranked checks of a Belvedere request at issue (R129, R175, R196): the code of the first that fails. [log entry 165 DEDUCED] -/
def belCheck (s : State) (k : Nat) (ws : List Nat) : Option Nat :=
  let w := word ws 0
  let g := s.prog k
  let p := keyPlot k
  match bEngine w with
  | none => some 0x020D
  | some e =>
    let op := s.belOp w
    let im := fun d => s.placeImg p g.step (s.sampleImg d)
    let a := im (bImgA w); let b := im (bImgB w); let o := im (bImgO w)
    let ps := s.psetWord op (bPset w)
    if (3 ≤ e ∧ e ≤ 6 ∧ s.warpReserved (e - 3)) ∨ ¬ belKindOk op a b o then some 0x020D
    else if (belImgs op a b o).any (fun i => i.owner != s.plotCtx p) then some 0x0401
    else if ¬ belFmtOk op a b o then some 0x0402
    else if ¬ belSizeOk op ps a b (bandOut o) (bandRow g o) then some 0x0403
    else if ¬ belParamOk op ps a b o g.loops.length then some 0x0404
    else if belOverlap a o ∨ (op ≤ 2 ∧ belOverlap b o = true) then some 0x0405
    else none
/-- Free entries of an engine's queue, those promised to fired requests taken (R129). -/
def belRoom (s : State) (e : Nat) : Bool :=
  (s.eng e).queue.length + (s.bel.wait.filter (fun x => x.req.eng == e)).length < 8
/-- The request that a program's command fires (R173, R179). [log entry 171 DEDUCED] -/
def belRequest (s : State) (k step : Nat) (ws : List Nat) : BelReq :=
  let w := word ws 0
  let p := keyPlot k
  let g := s.prog k
  let op := s.belOp w
  let im := fun d => s.placeImg p step (s.sampleImg d)
  let o := im (bImgO w)
  let oo := bandOut o
  let bd := oo.band (bandRow g o)
  { eng := (bEngine w).getD 0, op := op, a := im (bImgA w), b := if op ≤ 2 then im (bImgB w) else {}, o := oo,
    pset := s.psetWord op (bPset w), vth := s.fld BEL_DVTH_VTH (bPset w), prog := k, plot := p, ctx := s.plotCtx p,
    cgen := s.cgen (s.plotCtx p), gen := s.fld PLT_GEN_GEN p, step := step, idx := g.loops.map (fun f => if f.outer then g.step else f.idx),
    wdone := bWdone w, row0 := bd.1, rows := bd.2, tags := o.keys.map (fun x => (x, s.tagOf x)), pacer := none }
/-- Who a request's reads are (R206). -/
def belWho (r : BelReq) : Asker :=
  match r.pacer with
  | some (n, f, b) => .pacer n f b
  | none => .prog r.plot r.step r.idx
/-- Key of a SLOT image's channel, and Belvedere's number among its readers. -/
def imgChan (r : BelReq) (i : BelImg) : Nat := 256 * r.plot + i.chid
def imgReader (i : BelImg) : Nat := 100000 + i.idx
/-- READERS of a channel, from a stage's descriptor that names it; 1 where none does. -/
def chanK (s : State) (p chid : Nat) : Nat :=
  let hit := (List.range (s.plot p).stages).findSome? (fun st =>
    (s.prog (progKey p st)).tds.findSome? (fun x => if tdKind x.2 = 2 ∧ tdChid x.2 = chid then some (tdReaders x.2) else none))
  hit.getD 1
/-- Whether an input may be read: memory always, a segment FULL, a slot with a token Belvedere sees (R176, R178). -/
def belInReady (s : State) (r : BelReq) (i : BelImg) : Bool :=
  match i.kind with
  | 2 => i.keys.all s.fullOf
  | 3 =>
    let sl := s.fld BEL_IMG_W0_RPTR i.idx % (i.depth + 1)
    let c := s.chan (imgChan r i)
    s.fullOf (s.imgSlot i).key && decide (c.tokAt.get 0 sl + meshBel ≤ s.fc) && !(c.consumed.get [] sl).contains (imgReader i)
  | _ => !s.devWait (belWho r) i.addr
/-- Whether an output may be written: segments EMPTY and not reserved, a slot with a credit (R176, R178). -/
def belOutReady (s : State) (r : BelReq) : Bool :=
  let o := r.o
  match o.kind with
  | 2 => o.keys.all (fun k => !s.fullOf k && s.bel.rsv.get 0 k == 0)
  | 3 =>
    let sl := s.fld BEL_IMG_W0_RPTR o.idx % (o.depth + 1)
    let c := s.chan (imgChan r o)
    let key := (s.imgSlot o).key
    !s.fullOf key && s.bel.rsv.get 0 key == 0 && !s.par.tokens.any (fun f => f.chan == imgChan r o && f.slot == sl)
      && (c.credAt.get 0 sl == 0 || decide (c.credAt.get 0 sl + meshBel ≤ s.fc))
  | _ => true
/-- A request that must be discarded unrun (R179): its plot generation has moved on, or its context was torn down. -/
def belStale (s : State) (r : BelReq) : Bool :=
  (r.pacer.isNone && r.gen != s.fld PLT_GEN_GEN r.plot) || !s.ctxActive r.ctx || r.cgen != s.cgen r.ctx
/-- The queue head of an engine that could start now. -/
def belCanStart (s : State) (e : Nat) : Option BelReq :=
  let g := s.eng e
  if s.fld BEL_PWR_CTRL_STATE (engDomain e) = 2 ∧ ¬ s.fnBrief (.bel (Fin.ofNat 6 (engDomain e))) ∧ g.cur.isNone then
    match g.queue with
    | r :: _ =>
      if s.belStale r then none
      else if ((belImgs r.op r.a r.b r.o).dropLast.all (s.belInReady r)) && s.belOutReady r then some r else none
    | [] => none
  else none
/-- BEL_REQUEST_ACCEPT: the requests that an engine accepts now, in the order of R129: the earliest, then plot number, a
stage before its conductor; and the rest of those on their way. [log entry 173 DEDUCED] -/
def belTurn (s : State) (e : Nat) : Option BelWait :=
  leastBy (fun x => [(x.due : Int), (x.req.prog : Int), (x.seq : Int)])
    (s.bel.wait.filter (fun x => x.req.eng == e && decide (x.due ≤ s.fc)))
/-- The engine accepts a request (R129). -/
def belAccept (s : State) (e : Nat) (x : BelWait) : State :=
  if 8 ≤ (s.eng e).queue.length then s
  else
    let s := { s with bel := { s.bel with wait := s.bel.wait.filter (fun y => y != x) } }
    let g := s.eng e
    let s := s.setEng e { g with queue := g.queue ++ [x.req] }
    if x.req.pacer.isSome then s
    else
      let p := s.prog x.req.prog
      s.setProg x.req.prog { p with cmds := p.cmds.map (fun c => if c.seq = x.seq then { c with phase := .finished, due := x.due } else c) }
/-- A request with the slots its SLOT descriptors name at its start (R178). -/
def belSampled (s : State) (r : BelReq) : BelReq := { r with a := s.atSlot r.a, b := s.atSlot r.b, o := s.atSlot r.o }
/-- An engine of a lower number that could start now wants an output of this request (R176). -/
def belClash (s : State) (e : Nat) (r : BelReq) : Bool :=
  (List.range e).any (fun f => match s.belCanStart f with
    | some q => (s.atSlot q.o).keysNow.any (fun k => r.o.keysNow.contains k)
    | none => false)
/-- The trace of a request's start (kind 5) or completion (kind 6), by engine (R443). [log entry 292 DEDUCED] -/
def belTrace (s : State) (kind e : Nat) (r : BelReq) : State := s.trace 3 kind e (e * 2 ^ 24 + r.step % 2 ^ 24)
/-- Start a request (R176): its outputs are reserved, the tags its reads carry are taken, and it runs for its duration. -/
def belBegin (s : State) (e : Nat) (r : BelReq) : State :=
  let s := { s with bel := { s.bel with rsv := r.o.keysNow.foldl (fun t k => t.set 0 k (e + 1)) s.bel.rsv } }
  let ins := ((belImgs r.op r.a r.b r.o).dropLast.flatMap BelImg.keysNow).map (fun k => (k, s.tagOf k))
  (s.setEng e { queue := (s.eng e).queue.drop 1, cur := some { r with inTags := ins }, due := s.fc + cbFc (belCb r.op r.a r.o r.rows),
                began := s.fc }).belTrace 5 e r
/-- Discard the stale head of a queue (R179), or start the head (R176). -/
def belStart (s : State) (e : Nat) : State :=
  let g := s.eng e
  match g.queue with
  | [] => s
  | r :: t =>
    if g.cur.isNone ∧ s.fld BEL_PWR_CTRL_STATE (engDomain e) = 2 ∧ s.belStale r then (s.setEng e { g with queue := t }).staleTag
    else match s.belCanStart e with
    | none => s
    | some r => if s.belClash e (s.belSampled r) then s else s.belBegin e (s.belSampled r)
/-- Writes that waited for reserved segments go on where nothing reserves them any more (R176). -/
def belRelease (s : State) (e : Nat) : State :=
  let s := { s with bel := { s.bel with rsv := s.bel.rsv.filter (fun x => x.2 != e + 1) } }
  let free := fun (x : HeldWrite) => x.tags.all (fun t => s.bel.rsv.get 0 t.1 == 0)
  let go := s.bel.held.filter free
  let s := { s with bel := { s.bel with held := s.bel.held.filter (fun x => !free x) } }
  go.foldl (fun s x => s.taggedPut x.tags x.addr x.bytes) s
/-- Whether a started request of another engine reads segment `k`. -/
def belReading (s : State) (e k : Nat) : Bool :=
  s.bel.eng.any (fun x => x.1 != e && (match x.2.cur with
    | some r => (belImgs r.op r.a r.b r.o).dropLast.any (fun i => i.kind == 2 && i.keys.contains k)
    | none => false))
/-- Deferred EMPTYs whose last reader has completed (R177). -/
def belDeferred (s : State) : State :=
  let go := s.bel.deferred.filter (fun k => !s.belReading 99 k)
  let s := { s with bel := { s.bel with deferred := s.bel.deferred.filter (fun k => s.belReading 99 k) } }
  go.foldl (fun s k => s.setFull k false) s
/-- The next slot of a SLOT descriptor, in a channel of plot `p` (R178). -/
def belStepPtr (s : State) (p : Nat) (i : BelImg) : State :=
  { s with bel := { s.bel with stepped := s.bel.stepped.set 0 i.idx (p + 1) } }.setFld BEL_IMG_W0_RPTR
    ((s.fld BEL_IMG_W0_RPTR i.idx + 1) % (i.depth + 1)) i.idx
/-- A CONSUME input turns EMPTY (R177, R178): a segment at once or deferred, a slot as one of its channel's readers.
[log entry 97 DEDUCED] -/
def belConsume (s : State) (e : Nat) (r : BelReq) (i : BelImg) : State :=
  if ¬ i.consume then s
  else match i.kind with
  | 2 => i.keys.foldl (fun s k =>
      if s.belReading e k then { s with bel := { s.bel with deferred := s.bel.deferred ++ [k] } } else s.setFull k false) s
  | 3 =>
    let sl := s.fld BEL_IMG_W0_RPTR i.idx % (i.depth + 1)
    let x := s.imgSlot i
    let c := s.chan (imgChan r i)
    let got := (c.consumed.get [] sl) ++ [imgReader i]
    let s := s.setChan (imgChan r i) { c with consumed := c.consumed.set [] sl got }
    let s := if s.chanK r.plot i.chid ≤ got.length then
        { s with par := { s.par with credits := s.par.credits ++ [⟨imgChan r i, sl, x.key, x.n, s.tagOf x.key, s.fc + meshBel⟩] } }
      else s
    s.belStepPtr r.plot i
  | _ => s
/-- What a request writes, with its counts: FLOW_INVALID, DISP_OCC, DISP_LOWTEX, WARP_BADVEC. -/
def belRun (s : State) (r : BelReq) : List (Nat × List Byte) × (Nat × Nat × Nat × Nat) :=
  let who := belWho r
  match r.op with
  | 0 => let (x, n) := flow s who r.a r.b r.o r.pset; (x, n, 0, 0, 0)
  | 1 => let (x, n, m) := disparity s who r.a r.b r.o r.pset r.vth; (x, 0, n, m, 0)
  | 2 => let (x, n) := warp s who r.a r.b r.o r.pset r.row0 r.rows; (x, 0, 0, 0, n)
  | 3 => (pyramid s who r.a r.o, 0, 0, 0, 0)
  | _ => (bandRows r.o r.row0 r.rows (resizePx s who r.a r.o (bits r.pset 0 2)), 0, 0, 0, 0)
/-- What a request writes where it read a segment or bank that was wiped after its start: a read with the old tag counts as STALE_TAG
and gives no data (R20, R22), so the bytes written are free. -/
def belBlind (s : State) (r : BelReq) (ws : List (Nat × List Byte)) : List (Nat × List Byte) × State :=
  let n := (r.inTags.filter (fun t => t.2 != s.tagOf t.1)).length
  if n = 0 then (ws, s)
  else (ws.map (fun x => (x.1, (List.range x.2.length).map (fun i => Config.freeByte s.freeN (x.1 + i)))),
        { s with freeN := s.freeN + 1 }.staleTag n)
/-- Completion of the request in progress (R177, R178, R271), its pacer post apart. How many bursts of LPDDR an
engine moves is open (R399). [log entry 163 DESIGN CHOICE] -/
def belComplete (s : State) (e : Nat) (r : BelReq) : State :=
  let (ws, n0, n1, n2, n3) := s.belRun r
  let (ws, s) := s.belBlind r ws
  let o := r.o
  let s := if o.kind = 1 then ws.foldl (fun s x => s.ctxPut r.ctx r.cgen x.1 x.2) s
    else ws.foldl (fun s x => s.taggedPut r.tags x.1 x.2) s
  let good := fun (s : State) (k : Nat) => match r.tags.find? (fun t => t.1 == k) with | some t => t.2 == s.tagOf k | none => true
  let s := match o.kind with
    | 2 => o.keys.foldl (fun s k => if good s k then s.setFull k true else s) s
    | 3 =>
      let x := s.imgSlot o
      if good s x.key then
        let (c, d0) := fmtHdr o.fmt
        let h : Hdr := { code := c, zp := 0, rank := 2, dims := [d0, o.wd, o.ht, 1], axis := 0, bmax := 0, s2tab := 0 }
        let sl := s.fld BEL_IMG_W0_RPTR o.idx % (o.depth + 1)
        let fl : Flight := ⟨imgChan r o, sl, x.key, x.n, s.tagOf x.key, s.fc + meshBel⟩
        let s := { s with par := { s.par with hdr := s.par.hdr.set none x.key (some h), mark := s.par.mark.set false x.key true,
                                              tokens := s.par.tokens ++ [fl] } }
        s.belStepPtr r.plot o
      else s
    | _ => s
  let (nb, s) := if (belImgs r.op r.a r.b r.o).any (fun i => i.kind == 1) then s.freeBits 16 else (0, s)
  let s := s.resvWait (32 + e) nb
  let s := s.belRelease e
  let s := (belImgs r.op r.a r.b r.o).dropLast.foldl (fun s i => s.belConsume e r i) s
  let s := (s.setEng e { s.eng e with cur := none }).belDeferred.belTrace 6 e r
  let s := s.addWrap BEL_ENG_STAT_DONE 1 e
  let s := (((s.addSat BEL_CNT_FLOWINV n0).addSat BEL_CNT_OCC n1).addSat BEL_CNT_LOWTEX n2).addSat BEL_CNT_BADVEC n3
  let s := s.addSat PTR_CTX_BCYC_COUNT (belCb r.op r.a r.o r.rows) r.ctx
  let g := s.prog r.prog
  let s := if r.pacer.isNone ∧ r.gen = s.fld PLT_GEN_GEN r.plot then s.setProg r.prog { g with belPend := g.belPend - 1 } else s
  if r.pacer.isSome then s else s.signalHw r.wdone r.ctx 1
/-- A stopping domain turns OFF once its engines run nothing (R168). -/
def belDomainQuiet (s : State) (d : Nat) : Bool := (List.range 8).all (fun e => engDomain e != d || (s.eng e).cur.isNone)
/-- REQ_DROPPED (R180): the alarm, and a record that names the issuing context, the plot and the step counter of the request.
[log entry 250 DEDUCED] -/
def reqDropped (s : State) (e : Nat) (r : BelReq) : State :=
  (s.alarm (0x30 + e) 0x040A).logNamed 0x040A 5 e r.ctx (leBytes 2 r.ctx ++ leBytes 1 r.plot ++ leBytes 4 r.step)
/-- Every request of an engine is dropped: the one in progress is aborted, its reservations end, and each raises REQ_DROPPED. -/
def belAbort (s : State) (e : Nat) : State :=
  let g := s.eng e
  let rs := (match g.cur with | some r => [r] | none => []) ++ g.queue
    ++ (s.bel.wait.filter (fun x => x.req.eng == e)).map (fun x => x.req)
  let s := { s with bel := { s.bel with wait := s.bel.wait.filter (fun x => x.req.eng != e) } }
  let s := ((s.setEng e {}).belRelease e).belDeferred
  rs.foldl (fun s r => s.reqDropped e r) s
/-- The reset of an engine (R180): the segments it held are wiped, and its requests dropped. -/
def belReset (s : State) (e : Nat) : State :=
  (((s.bel.rsv.filter (fun x => x.2 == e + 1)).map (fun x => x.1)).foldl wipeStore s).belAbort e
end State
end Sys2Proof.Machine
end

