-- ==== Sys2Proof/Machine/Vector.lean ====
section
/-! DEFINITION. The vector unit's commands as arithmetic (R75-R77, R126), the Vesper generator (R253, R254), digests
(R256) and statistics (R143). -/
namespace Sys2Proof.Machine
open Sys2Proof
/-- A coded or 16-bit float element as FP32, before its scales; a non-finite encoding reads as IEEE 754 has it. [log entry 114 PRESUMED] -/
def elemF32 (c : Nat) (zp : Int) (v : Nat) (bx : Int) : Nat :=
  match elemVal c zp v with
  | some (m, e) => fdy m (e + bx) (bit v (codeWidth c - 1) && !intCode c)
  | none => if c ≠ 4 ∧ bits v 0 (manBits c) = 0 then fInf (bit v (codeWidth c - 1)) else fNan
/-- An element of a vector input as FP32 (R126): fmul(x × 2^(bexp − 32), S2); FP32 as it is; I32 converted. [log entry 255 DEDUCED] -/
def Ten.f32 (t : Ten) (s2 : Nat → Nat) (e : Nat) : Nat :=
  let v := t.codes.getD e 0
  if t.code = 10 then fread v
  else if t.code = 11 then fOfInt (toSigned 32 v)
  else if coded t.code then fmul (elemF32 t.code t.zp v ((t.bexp e : Int) - 32)) (s2 (s2Row0 t e))
  else if half16 t.code then fmul (elemF32 t.code 0 v 0) (s2 (s2Row0 t e))
  else fOfInt v
where
  /-- The row of an element (R120). -/
  s2Row0 (t : Ten) (e : Nat) : Nat :=
    if t.rank ≤ 1 then coord t.dims e 1 else coord t.dims e 2 + ext t.dims 2 * coord t.dims e 3
/-- A vector result: FP32 bits, or an exact I32. -/
inductive VRes
  | f (v : Nat)
  | i (x : Int)
/-- The FP32 of a result. -/
def VRes.f32 : VRes → Nat
  | .f v => v
  | .i x => fOfInt x
/-- ELT on FP32 (Table 5.7): ADD, SUB, MUL, MAX, MIN; ADDIMM and MULIMM take the immediate as `b`. -/
def eltF (sub a b : Nat) : Nat :=
  match sub with
  | 0 => fadd a b
  | 1 => fsub a b
  | 2 => fmul a b
  | 3 => fmax a b
  | 4 => fmin a b
  | 5 => fadd a b
  | _ => fmul a b
/-- ELT on two I32 inputs: sums, differences and products wrap modulo 2^32 (R75). [log entry 108 DEDUCED] -/
def eltI (sub : Nat) (a b : Int) : Int :=
  match sub with
  | 0 => wrapI32 (a + b)
  | 1 => wrapI32 (a - b)
  | 2 => wrapI32 (a * b)
  | 3 => max a b
  | _ => min a b
/-- ACT (Table 5.7). RELU is max(x, +0); CLAMP is min(max(x, LO), HI). -/
def actF (sub lo hi x : Nat) : Nat :=
  match sub with
  | 0 => fmax x 0
  | 1 => fmin (fmax x lo) hi
  | 2 => exp2F x
  | 3 => log2F x
  | 4 => rsqrtF x
  | 5 => tanhF x
  | 6 => sigmoidF x
  | _ => siluF x
/-- The elements along axis `ax` through element `e` of a tensor, in index order (R76). -/
def alongAxis (ds : List Nat) (ax e : Nat) : List Nat :=
  let c := coord ds e
  (List.range (ext ds ax)).map (fun i =>
    match ax with
    | 0 => canon ds i (c 1) (c 2) (c 3)
    | 1 => canon ds (c 0) i (c 2) (c 3)
    | 2 => canon ds (c 0) (c 1) i (c 3)
    | _ => canon ds (c 0) (c 1) (c 2) i)
/-- REDUCE over a list with P partitions: SUM, MAX, MIN, MEAN, the mean being the sum divided by the count.
[log entries 107 DEDUCED, 256 DEDUCED] -/
def reduceF (sub p : Nat) (xs : List Nat) : Nat :=
  match sub with
  | 0 => fsum p xs
  | 1 => (match xs with
    | [] => 0
    | x :: t => t.foldl fmax x)
  | 2 => (match xs with
    | [] => 0
    | x :: t => t.foldl fmin x)
  | _ => fdiv (fsum p xs) (fOfInt xs.length)
/-- The group that NORM normalises element `e` over, in canonical order: LAYER D0 of its row, INSTANCE D1 and D2 of its
channel. -/
def normGroup (sub : Nat) (ds : List Nat) (e : Nat) : List Nat :=
  if sub = 0 then alongAxis ds 0 e
  else
    let c := coord ds e
    (List.range (ext ds 1 * ext ds 2)).map (fun i => canon ds (c 0) (i % ext ds 1) (i / ext ds 1) (c 3))
/-- The place of `e` in a list of indices. -/
def placeIn (xs : List Nat) (e : Nat) : Nat := (xs.takeWhile (fun x => x != e)).length
/-- What the vector unit quantises or writes: an FP32 quotient as a dyadic number; an infinity lies beyond every grid; a
NaN is none. -/
def qOfF32 (v : Nat) : QVal :=
  match fval v with
  | .nan => none
  | .inf n => some (if n then -1 else 1, 1000)
  | .fin n m e => some (fsgn n m, e)
/-- A 16-bit float output of the vector unit: to nearest even, an infinity past the largest finite value; none for a
NaN. -/
def vecHalf (c v : Nat) : Option Nat :=
  let w := codeWidth c
  let infBits := fun (n : Bool) => ((2 ^ (w - 1 - manBits c) - 1) * 2 ^ manBits c) + (if n then 2 ^ (w - 1) else 0)
  match fval v with
  | .nan => none
  | .inf n => some (infBits n)
  | .fin n m e =>
    let q := toCode c 0 (fsgn n m) e
    some (if q.sat then infBits n else if q.code = 0 ∧ n then 2 ^ (w - 1) else q.code)

/-! Vesper (R253, R254). -/

def m64 (x : Nat) : Nat := x % 2 ^ 64
def rotl64 (x n : Nat) : Nat := m64 (x * 2 ^ n) + x / 2 ^ (64 - n)
/-- One round of Vesper with rotation `r`. -/
def vesperRound (r : Nat) (ab : Nat × Nat) : Nat × Nat :=
  let a := m64 (ab.1 + ab.2)
  (a, rotl64 ab.2 r ^^^ a)
/-- The injection of key `j`. -/
def vesperKey (ks : List Nat) (j : Nat) (ab : Nat × Nat) : Nat × Nat :=
  (m64 (ab.1 + ks.getD (j % 3) 0), m64 (ab.2 + ks.getD ((j + 1) % 3) 0 + j))
/-- vesper(s, k, t, e) (R253). -/
def vesper (seed k t e : Nat) : Nat × Nat :=
  let k0 := m64 seed
  let k1 := m64 (seed / 2 ^ 64) ^^^ t
  let ks := [k0, k1, k0 ^^^ k1 ^^^ 0xD05CE1B74A9326F5]
  let ab := (m64 (k + k0), m64 (e + k1))
  let ab := vesperKey ks 1 (vesperRound 13 (vesperRound 24 ab))
  let ab := vesperKey ks 2 (vesperRound 8 (vesperRound 47 ab))
  vesperKey ks 3 (vesperRound 19 (vesperRound 35 ab))
/-- n × 2^−24 as FP32. -/
def unit24 (n : Nat) : Nat := fpack false n 1 (-24)
/-- A normal element by Box-Muller (R254). -/
def rngNormal (a b : Nat) : Nat :=
  let u1 := unit24 (a / 2 ^ 40 + 1)
  let t := fmul (log2F u1) 0xBFB17218
  let r := if 0 < fkey t then fmul t (rsqrtF t) else 0
  let n2 := b / 2 ^ 40
  let q := n2 / 2 ^ 22
  let m0 := n2 % 2 ^ 22
  let m := if q % 2 = 1 then 2 ^ 22 - m0 else m0
  let i := m / 2 ^ 14
  let f := fpack false (m % 2 ^ 14) 1 (-14)
  let c0 := tabCt.getD i 0
  let c := fma f (fsub (tabCt.getD (i + 1) 0) c0) c0
  fmul r (if q = 1 ∨ q = 2 then fneg c else c)
/-- An element of RNG under DIST (R254). -/
def rngElem (dist : Nat) (ab : Nat × Nat) : Nat :=
  match dist with
  | 0 => ab.1 % 2 ^ 32
  | 1 => unit24 (ab.1 / 2 ^ 40)
  | _ => rngNormal ab.1 ab.2

/-! Digests (R256). -/

/-- Bytes of an element's unit (Table 10.4). -/
def unitBytes (c : Nat) : Nat := if coded c then 6 else cdiv (codeWidth c) 8
/-- The canonical byte stream of a tensor. -/
def Ten.stream (t : Ten) (s2 : Nat → Nat) : List Byte :=
  (List.range (nElems t.dims)).flatMap (fun e =>
    let v := t.codes.getD e 0
    if coded t.code then leBytes 1 v ++ leBytes 1 (t.bexp e) ++ leBytes 4 (s2 (Ten.f32.s2Row0 t e))
    else leBytes (unitBytes t.code) v)
/-- A digest record (R141). -/
def digestRec (t : Ten) (s2 : Nat → Nat) (tid step : Nat) : List Byte :=
  let len := nElems t.dims * unitBytes t.code
  leBytes 8 (crc64 (t.stream s2)) ++ leBytes 4 tid ++ leBytes 4 step ++ leBytes 8 (bits tid 0 16 * len) ++ leBytes 8 len
/-- A STAT record (R143): count, minimum, maximum, sum with P = 1, OUT_SAT-range count, 4 bytes of 0. The last count is of
elements that hold an extreme code of their range. [log entry 116 DEDUCED] -/
def statRec (t : Ten) (s2 : Nat → Nat) : List Byte :=
  let xs := (List.range (nElems t.dims)).map (t.f32 s2)
  let ext := (t.codes.toList.filter (fun v =>
    if intCode t.code then
      (elemVal t.code 0 v == some (codeLo t.code, 0)) || (elemVal t.code 0 v == some (codeHi t.code, 0))
    else if coded t.code ∨ half16 t.code then
      (match elemVal t.code 0 v with
      | some (m, e) => m.natAbs * 2 ^ (e - lsbMin t.code).toNat == maxMag t.code
      | none => false)
    else false)).length
  leBytes 8 xs.length ++ leBytes 4 (reduceF 2 1 xs) ++ leBytes 4 (reduceF 1 1 xs) ++ leBytes 4 (fsum 1 xs)
    ++ leBytes 8 ext ++ leBytes 4 0
end Sys2Proof.Machine
end

