-- ==== Sys2Proof/Machine/Compute.lean ====
section
/-! DEFINITION. Compute commands (R122-R127, R142, R145-R165): the checks at issue, the durations, the line buffer, and
the results with their quantised outputs, policies and status records (R63-R74). -/
namespace Sys2Proof.Machine
open Sys2Proof
/-- Fields of compute word 0 (Table 5.6) and of words 1 and 2 (Table 5.8). -/
def cTO (w : Nat) : Nat := bits w 48 6
def cSO (w : Nat) : Nat := bits w 43 5
def cSOV (w : Nat) : Bool := bit w 42
def cTA (w : Nat) : Nat := bits w 36 6
def cTB (w : Nat) : Nat := bits w 30 6
def cKS (w : Nat) : Nat := bits w 26 4
def cSUB (w : Nat) : Nat := bits w 18 8
def cRstart (ws : List Nat) : Nat := bits (word ws 1) 0 23
def cRcount (ws : List Nat) : Nat := bits (word ws 1) 23 23
def cTP (ws : List Nat) : Nat := bits (word ws 1) 46 6
def cPIN (ws : List Nat) : Bool := bit (word ws 1) 52
def cPOUT (ws : List Nat) : Bool := bit (word ws 1) 53
def cBiasEn (ws : List Nat) : Bool := bit (word ws 1) 54
def cBias (ws : List Nat) : Nat := bits (word ws 2) 0 42 * 64
/-- CONV, DWCONV, GEMM; POOL, RESAMP; commands with a line buffer; commands that read TB. -/
def isMac (o : Nat) : Bool := o == 0x20 || o == 0x21 || o == 0x22
def isWin (o : Nat) : Bool := o == 0x20 || o == 0x21 || o == 0x23 || o == 0x24
def macPath (o : Nat) : Bool := isMac o || o == 0x23 || o == 0x24
/-- Whether a command reads TB (R122, Table 5.6): the MAC path, and ELT but for its immediate forms. [log entry 281 DEDUCED] -/
def readsTB (ws : List Nat) : Bool :=
  let o := opc (word ws 0)
  isMac o || (o == 0x25 && cSUB (word ws 0) ≤ 4)
/-- RNG writes TD; every other compute command TO. Both stand in W0[53:48]. -/
def isRng (o : Nat) : Bool := o == 0x79
/-- The partition count P of a vector command (R125). -/
def cP (ws : List Nat) : Nat := if opc (word ws 0) = 0x27 then bits (word ws 1) 32 16 else bits (word ws 1) 0 16
def cAxis (ws : List Nat) : Nat := bits (word ws 1) 16 2
/-- A narrow output code. -/
def narrow (c : Nat) : Bool := coded c
/-- The first code of a ranked list of checks (R144, R165). -/
def firstFault : List (Bool × Nat) → Option Nat
  | [] => none
  | (b, c) :: t => if b then some c else firstFault t
/-- Reduction range of a MAC command: first and end element. -/
def redRange (ws : List Nat) (k : Nat) : Nat × Nat :=
  (cRstart ws, if cRcount ws = 0 then k else cRstart ws + cRcount ws)
/-- Output extents that a command's operands give; none where an extent falls below 1 (R122, R150, R160, R163). -/
def outDims (o : Nat) (a w tgt : List Nat) (k : Kern) (ax : Nat) : List Int :=
  let wn : Int := outExt (ext a 1) k.pl k.pr k.dw k.kw k.sw
  let hn : Int := outExt (ext a 2) k.pt k.pb k.dh k.kh k.sh
  match o with
  | 0x20 => [(ext w 3 : Int), wn, hn, ext a 3]
  | 0x21 => [(ext w 2 : Int), wn, hn, ext a 3]
  | 0x22 => [(ext w 1 : Int), ext a 1, ext a 2, ext a 3]
  | 0x23 => [(ext a 0 : Int), wn, hn, ext a 3]
  | 0x24 => [(ext a 0 : Int), ext tgt 1, ext tgt 2, ext a 3]
  | 0x29 => (List.range 4).map (fun i => if i = ax then (1 : Int) else ext a i)
  | _ => (List.range 4).map (fun i => (ext a i : Int))
/-- Whether the extents of weights and groups agree with the operation (R122, R158, R160). -/
def weightsOk (o : Nat) (a w : List Nat) (wr : Nat) (k : Kern) : Bool :=
  match o with
  | 0x20 =>
    ext w 1 == k.kw && ext w 2 == k.kh &&
      (if k.kind = 2 then
        ext a 0 == k.g * ext w 0 && ext w 3 % k.g == 0 &&
          (ext w 0 % 16 == 0 || ext w 0 == 1 || ext w 0 == 2 || ext w 0 == 4 || ext w 0 == 8)
      else ext a 0 == ext w 0)
  | 0x21 =>
    ext w 0 == k.kw && ext w 1 == k.kh && ext w 3 == 1 &&
      (if k.kind = 2 then k.g == ext a 0 && ext w 2 % k.g == 0 && ext w 2 != 0 else k.g == 1 && ext w 2 == ext a 0)
  | 0x22 => wr ≤ 1 && ext a 0 == ext w 0
  | _ => true
/-- LB of a window command in bytes (R146). -/
def lineBuf (o : Nat) (code : Nat) (a : List Nat) (k : Kern) (filt ystep : Nat) : Nat :=
  let rb := cdiv (ext a 0 * codeWidth code) 8 + (if coded code then 2 * cdiv (ext a 0) 16 else 0)
  let rows := if o = 0x24 then min ((match filt with | 0 => 1 | 1 => 2 | _ => 4) + ystep / 2 ^ 24 + 1) (ext a 2)
    else min (k.dh * (k.kh - 1) + 1 + k.sh) (ext a 2)
  rows * ext a 1 * rb
/-- The rate of a pairing of codes, applied to a count of array slots (R23, R115). -/
def rho (ca cb n : Nat) : Nat :=
  let four := fun c => c == 2 || c == 3 || c == 7
  if half16 ca ∨ half16 cb then 4 * n else if four ca ∧ four cb then cdiv n 2 else n
/-- Tap groups of a kernel (R149). -/
def tapGroups (k : Kern) : Nat := cdiv k.kh 15 * cdiv k.kw 15
/-- Array, window or vector time of a command without its fixed parts (Table 5.9): the body fc, and what else it takes. -/
def bodyFc (ws : List Nat) (ca cb : Nat) (a w tgt : List Nat) (k : Kern) : Nat × Nat :=
  let o := opc (word ws 0)
  let sub := cSUB (word ws 0)
  let px := ext tgt 1 * ext tgt 2 * ext tgt 3
  let n64 := cdiv (nElems (if o = 0x29 then a else tgt)) 64
  let lg := 4 * clog2 (cP ws)
  match o with
  | 0x20 => (rho ca cb (k.g * cdiv (ext w 3 / k.g) 32 * cdiv (ext w 0) 32 * k.kh * k.kw * px), 32 * (tapGroups k - 1))
  | 0x21 => (rho ca cb (cdiv (ext tgt 0) 32 * cdiv (k.kh * k.kw) 32 * px), 32 * (tapGroups k - 1))
  | 0x22 => (rho ca cb (cdiv (ext w 1) 32 * cdiv (ext a 0) 32 * (ext a 1 * ext a 2 * ext a 3)), 0)
  | 0x23 => (cdiv (ext tgt 0) 64 * cdiv (k.kh * k.kw) 8 * px, 0)
  | 0x24 => (cdiv (ext tgt 0) 64 * px * (if sub = 2 then 4 else 1), 0)
  | 0x25 => (n64, 0)
  | 0x26 => ((match sub with | 0 | 1 => 1 | 2 | 3 => 6 | 4 | 6 => 9 | 7 => 10 | _ => 12) * n64, 0)
  | 0x27 => (3 * n64 + 16 * (if sub = 0 then nElems a / max 1 (ext a 0) else ext a 0 * ext a 3) + lg, 0)
  | 0x28 => (9 * n64 + 16 * (nElems a / max 1 (ext a (cAxis ws))) + lg, 0)
  | 0x29 => (n64 + 8 + lg, 0)
  | 0x2A => (2 * n64, 0)
  | _ => ((if bits (word ws 0) 42 3 = 2 then 8 else 2) * n64, 0)
/-- The fixed part F_a or F_v (R115). -/
def fixedFc (o : Nat) : Nat := if macPath o then 160 else 96
/-- Activity weight of a command (Table 10.3). -/
def weightOf (o : Nat) : Nat :=
  if isMac o then 8 else if o = 0x23 ∨ o = 0x24 then 4 else if (0x25 ≤ o ∧ o ≤ 0x2A) ∨ o = 0x79 then 3 else 2
namespace State
/-- Whether descriptor slot `i` holds an operand that compute may read: a PAIR, or a CHAN reader whose slots lie in the
stage itself (R95, R123). [log entry 92 DEDUCED] -/
def okIn (s : State) (k i : Nat) : Bool :=
  let ws := s.td k i
  tdKind ws == 3 || (tdKind ws == 2 && tdReader ws && tdRstage ws == keyStage k)
/-- Whether it holds an output: a PAIR or a CHAN producer. -/
def okOut (s : State) (k i : Nat) : Bool :=
  let ws := s.td k i
  tdKind ws == 3 || (tdKind ws == 2 && !tdReader ws)
/-- A CHAN whose slots lie outside the plot (R96). -/
def chanOut (s : State) (k i : Nat) : Bool :=
  let ws := s.td k i
  tdKind ws == 2 && (s.plot (keyPlot k)).stages ≤ tdRstage ws
/-- Descriptor slots that a compute command reads: TA, then TB, then TP. -/
def computeIns (ws : List Nat) : List Nat :=
  let w := word ws 0
  if isRng (opc w) then []
  else cTA w :: ((if readsTB ws then [cTB w] else []) ++ (if isMac (opc w) ∧ cPIN ws then [cTP ws] else []))
/-- Whether SO applies: SOV, but not beside POUT (R124). RNG has none. -/
def useSO (ws : List Nat) : Bool :=
  let o := opc (word ws 0)
  !isRng o && cSOV (word ws 0) && !(isMac o && cPOUT ws)
def hasKern (o : Nat) : Bool := o == 0x20 || o == 0x21 || o == 0x23
/-- Banks that a line buffer of `nb` banks takes: the highest outside the bank mask (R147); none where it does not fit. -/
def lbufBanks (s : State) (k nb : Nat) : Option (List Nat) :=
  let free := (List.range 24).reverse.filter (fun b => !bit (s.prog k).mask b)
  if 4 < nb ∨ free.length < nb then none else some (free.take nb)
/-- The line-buffer banks of a window command. -/
def cmdLbuf (s : State) (k : Nat) (ws : List Nat) : Option (List Nat) :=
  let w := word ws 0
  let o := opc w
  if isWin o then
    let kn := kernOf (if o = 0x24 then [] else s.kd k (cKS w))
    let ta := s.td k (cTA w)
    s.lbufBanks k (cdiv (lineBuf o (tdCode ta) (tdDims ta) kn (cSUB w) (bits (word ws 1) 32 32)) 65536)
  else some []
/-- The ranked checks of a compute command at issue (R58, R61, R62, R71, R122-R125, R142, R144, R147, R150, R156-R165): the
code of the fault, none where it passes. [log entries 104 DEDUCED, 109 DEDUCED] -/
def computeCheck (s : State) (k : Nat) (ws : List Nat) : Option Nat :=
  let w := word ws 0
  let o := opc w
  let ta := s.td k (cTA w); let tb := s.td k (cTB w); let tgt := s.td k (cTO w); let tp := s.td k (cTP ws)
  let sd := s.sd k (cSO w)
  let kn := kernOf (if hasKern o then s.kd k (cKS w) else [])
  let ins := computeIns ws
  let da := tdDims ta; let dw := tdDims tb; let dt := tdDims tgt
  let co := tdCode tgt; let ca := tdCode ta; let cb := tdCode tb
  let mac := isMac o
  let pout := mac && cPOUT ws
  let empty := tgt.isEmpty || ins.any (fun i => (s.td k i).isEmpty) || (useSO ws && sd.isEmpty)
    || (hasKern o && (s.kd k (cKS w)).isEmpty)
  let macIn := fun c => coded c || half16 c
  let dist := bits w 42 3
  let operand :=
    !s.okOut k (cTO w) || ins.any (fun i => !s.okIn k i)
    || (macPath o && !macIn ca) || (mac && !macIn cb)
    || (!macPath o && !isRng o && (12 ≤ ca || (readsTB ws && 12 ≤ cb)))
    || (mac && cPIN ws && (tdCode tp != 12 || tdKind tp != 2))
    || (narrow co && !pout && !isRng o && !cSOV w)
    || (mac && ((co == 12) != cPOUT ws)) || (co == 13 || co == 14) || (!mac && co == 12)
    || (hasKern o && (match o with
      | 0x20 => kn.kind != 0 && kn.kind != 2
      | 0x21 => kn.kind != 1 && kn.kind != 2
      | _ => kn.kind != 3))
    || ((o == 0x27 || o == 0x28 || o == 0x29) && cP ws == 0)
    || (isRng o && co != (if dist = 0 then 11 else 10))
  let od := outDims o da dw dt kn (cAxis ws)
  let emptyWin := hasKern o && od.any (fun x => x < 1)
  let kk := redK o da dw kn
  let rs := (redRange ws kk).1
  let re := (redRange ws kk).2
  let ax := outAxis tgt sd
  let shape := !isRng o && (
    !(weightsOk o da dw (tdRank tb) kn) || od != dt.map Int.ofNat
    || (o == 0x20 && kn.kind == 2 && ext dt 0 % kn.g != 0)
    || (readsTB ws && !mac && dw != da)
    || (mac && cPIN ws && tdDims tp != dt)
    || (narrow co && !pout && ax != 4 && tdRank tgt < ax)
    || (mac && (decide (kk ≤ rs) || decide (kk < re))))
  let lb := isWin o && (s.cmdLbuf k ws).isNone
  let pair := mac && ca == 5 && cb == 5
  let long := mac && decide (524287 < (if o = 0x21 then re - rs else cdiv re 16 - rs / 16))
  let cut := mac && ((rs % 16 != 0 && rs != kk) || (re % 16 != 0 && re != kk))
  let rsv := useSO ws && narrow co && sdPolicy sd == 1 && decide (sdRsv sd < (if macPath o then 12 else 4) * nElems dt)
  firstFault [(empty, 0x020C), ((cTO w :: ins).any (s.chanOut k), 0x0209), (operand, 0x020D), (emptyWin, 0x0301),
    (shape, 0x020E), (lb, 0x0302), (pair, 0x0109), (long, 0x010A), (cut, 0x010B), (rsv, 0x010C)]
/-- The checks of a compute command when it fires (R52, R123). [log entry 102 DEDUCED] -/
def computeFire (s : State) (k : Nat) (ws : List Nat) : Option Nat :=
  let o := opc (word ws 0)
  let ax := [if macPath o then some 0 else none, if isMac o then some (if o = 0x21 then 4 else 0) else none, none]
  let chk := ((computeIns ws).zip ax).map (fun i => s.hdrCheck k i.1 i.2)
  if chk.any (· == some 0x020D) then some 0x020D else (chk.find? Option.isSome).getD none
/-- Duration of a compute command in fc without an armed digest: total, and the body fc that the activity bucket is
charged for (R127, R249). -/
def computeFc (s : State) (k : Nat) (ws : List Nat) : Nat × Nat :=
  let w := word ws 0
  let o := opc w
  let ta := s.td k (cTA w); let tb := s.td k (cTB w); let tgt := s.td k (cTO w)
  let kn := kernOf (if hasKern o then s.kd k (cKS w) else [])
  let (b, x) := bodyFc ws (tdCode ta) (tdCode tb) (tdDims ta) (tdDims tb) (tdDims tgt) kn
  let far := if tdKind tgt = 2 ∧ tdRstage tgt ≠ keyStage k then s.chanM k tgt + 12 else 0
  let n := nElems (tdDims tgt)
  let resc := if useSO ws ∧ narrow (tdCode tgt) ∧ sdPolicy (s.sd k (cSO w)) = 1 then
      96 + 2 * cdiv n 64 + 2 * cdiv ((if macPath o then 12 else 4) * n) 64 else 0
  (fixedFc o + b + x + far + resc, b)

/-! Results. -/

/-- The S2_out of every output row (R63, R126): from SO's table, or 1.0. -/
def s2Outs (s : State) (k : Nat) (ws : List Nat) (step : Nat) (r : Nat) : Nat :=
  if useSO ws then s.s2At (sdS2 (s.sd k (cSO (word ws 0))) step + 1) r else fOne
/-- Rows of a tensor's S2 table other than a weight's (R120). -/
def s2Rows (ds : List Nat) (rank : Nat) : Nat := if rank ≤ 1 then ext ds 1 else ext ds 2 * ext ds 3
/-- The tensor status record (Table 3.5). [log entries 119 DEDUCED, 254 DEDUCED] -/
def statusRec (sat maxc flags : Nat) (kv sug : Int) (wloss a96 aloss : Nat) : List Byte :=
  leBytes 8 sat ++ leBytes 4 maxc ++ leBytes 2 flags ++ leBytes 1 (ofSigned 8 kv) ++ leBytes 1 (ofSigned 8 sug)
    ++ leBytes 8 wloss ++ leBytes 4 (min a96 0xFFFFFFFF) ++ leBytes 4 (min aloss 0xFFFFFFFF)
/-- SUGGEST_K (R72). -/
def suggestK (j : Option Int) : Int := match j with | none => 0 | some x => sat (x - 24) (-128) 127
/-- The header of an output (R118): code, zero point, extents, block axis, BEXP_MAX or TOPX, S2 table of the step. Without
an SDESC the spec states no TOPX: a free value, the same for the same operands (R243). -/
def outHdr (s : State) (k : Nat) (ws : List Nat) (step : Nat) (codes : List Nat) : Hdr :=
  let tgt := s.td k (cTO (word ws 0))
  let sd := s.sd k (cSO (word ws 0))
  let c := tdCode tgt
  { code := c, zp := tdZp tgt, rank := tdRank tgt, dims := tdDims tgt,
    axis := if useSO ws then outAxis tgt sd else if tdFlat tgt then 4 else 0,
    bmax := if useSO ws then (if sdFloat sd then sdTopx sd else (sdBmax sd : Int)) else toSigned 8 (Config.openTopx ws tgt codes),
    s2tab := if useSO ws then sdS2 sd step + 1 else 0 }
/-- What a command publishes for output codes and entries, with its LPDDR records and counts.
[log entries 118 DEDUCED, 120 DESIGN CHOICE] -/
def outResult (s : State) (k : Nat) (ws : List Nat) (step : Nat) (codes ents : List Nat)
    (recs : List (Nat × List Byte)) (stats : List Nat) : CmdResult :=
  let x := s.outPlace k (cTO (word ws 0))
  let h := s.outHdr k ws step codes
  { writes := (x.addr, tensorBytes h.code codes ents) :: recs, hdrs := [(x.key, h)], stats := stats }
/-- Quantise a narrow output under the policy of its SDESC (R66-R72). `vals k'` gives the values divided by S2_out × 2^k'.
The thresholds of R78 are those sampled at issue. The counts are WLOSS, A96SAT, NONFIN, ALOSS; `rec` says that a status record is
written; `kept` is what the retention reserve keeps of each element. [log entries 110 DEDUCED, 111 DESIGN CHOICE] -/
def narrowOut (s : State) (k : Nat) (ws : List Nat) (step : Nat) (thr : Nat × Nat) (vals : Int → List QVal) (kept : List Byte)
    (wloss a96 nonfin aloss : Nat) (rec : Bool) : Except Nat CmdResult :=
  let tgt := s.td k (cTO (word ws 0))
  let sd := s.sd k (cSO (word ws 0))
  let c := tdCode tgt; let zp := tdZp tgt; let ds := tdDims tgt; let n := nElems ds
  let ax := outAxis tgt sd
  let fr := Config.nanCode c zp (vals 0)
  let q := quantise c zp ds ax (vals 0) fr
  let hi := missHigh q n thr.1
  let lo := missLow c zp q thr.2
  let miss := hi || lo
  let pol := sdPolicy sd
  let flag := fun (a : Nat) (b : Bool) => if b then 2 ^ a else 0
  let res := fun (q : Quant) (fl : Nat) (kv : Int) (extra : List (Nat × List Byte)) =>
    let st := statusRec q.sat (maxC c q.maxv) (fl + flag 3 (a96 != 0) + flag 4 q.zero) kv (suggestK q.jmax) wloss a96 aloss
    s.outResult k ws step q.codes q.ents (extra ++ (if rec then [(sdStatus sd step, st)] else []))
      [a96, if miss then 1 else 0, nonfin, wloss, aloss, q.sat]
  let keep := if pol = 1 then [(sdReserve sd, kept)] else []
  if miss ∧ pol = 2 then .error 0x0106
  else if miss ∧ pol = 1 then
    match q.jmax with
    | none => .ok (res q (flag 0 hi + flag 1 lo) 0 keep)
    | some j =>
      let kk := j - 24
      let rows := s2Rows ds (tdRank tgt)
      let news := (List.range rows).map (fun r => fscale (s.s2Outs k ws step r) kk)
      if news.all s2Ok then
        let q2 := quantise c zp ds ax (vals kk) fr
        let lo2 := missLow c zp q2 thr.2
        .ok (res q2 (flag 0 hi + flag 1 (lo || lo2) + flag 2 true) kk
          (keep ++ [(sdS2 sd step, news.flatMap (leBytes 4))]))
      else .error 0x0108
  else .ok (res q (flag 0 hi + flag 1 lo) 0 keep)
/-- The elements that a POOL or RESAMP reads. -/
def winUsed (ws : List Nat) (a od : List Nat) (k : Kern) : Array Bool :=
  let w := word ws 0
  marks (nElems a) ((List.range (nElems od)).flatMap (fun e =>
    if opc w = 0x23 then (poolTaps a k od e).filterMap id
    else (resampTaps2 a (cSUB w) (bits (word ws 1) 0 32) (bits (word ws 1) 32 32) od e).map (fun x => x.1)))
/-- The first mismatch of a scale entry's tag among the blocks that a compute command consumes (R73): the tensor's descriptor slot, the
canonical block index, the tag expected and the tag found. [log entry 257 DEDUCED] -/
def skewOf (s : State) (k : Nat) (ws : List Nat) : Option (Nat × Nat × Nat × Nat) :=
  let w := word ws 0
  let o := opc w
  let od := tdDims (s.td k (cTO w))
  let kn := kernOf (if hasKern o then s.kd k (cKS w) else [])
  let da := tdDims (s.td k (cTA w)); let db := tdDims (s.td k (cTB w))
  let used := if isMac o then
      (let (rs, re) := redRange ws (redK o da db kn)
       macUsed o da db kn rs re od)
    else (if macPath o then winUsed ws da od kn else Array.replicate (nElems da) true, Array.replicate (nElems db) true)
  let look := fun (i : Nat) (u : Array Bool) => (s.inTen k i).bind (fun t => (t.skewAt u).map (fun x => (i, x)))
  if isRng o then none
  else match look (cTA w) used.1 with
  | some x => some x
  | none => if readsTB ws then look (cTB w) used.2 else none
/-- The accumulators of a MAC-path command with the grid exponent and the operands' ALIGN_LOSS count. -/
def macAccs (s : State) (k : Nat) (ws : List Nat) (ta tb : Ten) : AccOut × Int × Nat :=
  let w := word ws 0
  let o := opc w
  let od := tdDims (s.td k (cTO w))
  let kn := kernOf (if hasKern o then s.kd k (cKS w) else [])
  if isMac o then
    let g := ta.emax + tb.emax - 72
    let (rs, re) := redRange ws (redK o ta.dims tb.dims kn)
    let (a, al) := macAll o ta tb kn g rs re od
    (a, g, al)
  else
    let wa := ta.widen 0 (winUsed ws ta.dims od kn)
    let f := if o = 0x23 then poolElem ta wa kn (cSUB w)
      else resampElem ta wa (cSUB w) (bits (word ws 1) 0 32) (bits (word ws 1) 32 32)
    let a := gather ((List.range (nElems od)).map (fun e => f e od))
    ({ a with nonfin := a.nonfin + wa.nonfin }, if o = 0x23 then ta.emax - 80 else resampGrid ta (cSUB w), wa.aloss)
/-- s2a of output element `e` (R63, R153): the row of the output in TA's table, or the image's first row for a window
command. [log entry 105 DEDUCED] -/
def s2aOf (s : State) (o : Nat) (ta : Ten) (od : List Nat) (rank e : Nat) : Nat :=
  s.s2At ta.s2tab (if isWin o then coord od e 3 * ext ta.dims 2 else s2Row od rank e)
/-- Run a MAC-path command (R59-R74, R157-R164): its result, or the code of its fault. [log entries 253 DEDUCED, 254 DEDUCED] -/
def runMac (s : State) (k : Nat) (ws : List Nat) (step : Nat) (thr : Nat × Nat) : Except Nat CmdResult :=
  let w := word ws 0
  let o := opc w
  let tgt := s.td k (cTO w)
  let od := tdDims tgt
  let n := nElems od
  match s.inTen k (cTA w), (if isMac o then s.inTen k (cTB w) else s.inTen k (cTA w)) with
  | some ta, some tb =>
    let t1 := fun e =>
      let a := s.s2aOf o ta od (tdRank tgt) e
      if isMac o then fmul (s.s2At tb.s2tab (coord od e 0)) a else a
    let so := fun e => s.s2Outs k ws step (s2Row od (tdRank tgt) e)
    let s2bad := (List.range n).any (fun e =>
      !s2Ok (s.s2aOf o ta od (tdRank tgt) e) || !s2Ok (so e) || (isMac o && !s2Ok (s.s2At tb.s2tab (coord od e 0))))
    let folds := (List.range n).map (fun e => foldOf (t1 e) (so e))
    let (a, g, aloss) := s.macAccs k ws ta tb
    let useBias := isMac o && cBiasEn ws && cRstart ws == 0
    let biases := (List.range n).map (fun e =>
      if useBias then biasOn (s.lpNat (cBias ws + 4 * coord od e 0) 4) (t1 e) g else some (0, false))
    if s2bad ∨ biases.any Option.isNone ∨ (¬ (isMac o ∧ cPOUT ws = true) ∧ folds.any Option.isNone) then .error 0x0108
    else if (s.skewOf k ws).isSome then .error 0x0107
    else
      let part := if isMac o ∧ cPIN ws then
          (match s.inTen k (cTP ws) with
          | some t => t.codes.toList.map (toSigned 96)
          | none => [])
        else []
      let bs := (biases.map (fun b => b.getD (0, false))).toArray
      let pa := part.toArray
      let accs := (a.accs.zip (List.range n)).map (fun p => p.1 + pa.getD p.2 0 + (bs.getD p.2 (0, false)).1)
      let a96 := a.a96 + (bs.toList.filter (fun b => b.2)).length
      let fa : Array (Nat × Int) := (folds.map (fun f => f.getD ((0, 0) : Nat × Int))).toArray
      let vals := fun (kk : Int) => (accs.zip (List.range n)).map (fun p =>
        let f : Nat × Int := fa.getD p.2 (0, 0)
        (some (p.1 * (f.1 : Int), g - f.2 - kk) : QVal))
      if isMac o ∧ cPOUT ws then
        .ok (s.outResult k ws step (accs.map (ofSigned 96)) [] [] [a96, 0, a.nonfin, a.wloss, aloss, 0])
      else if narrow (tdCode tgt) then
        s.narrowOut k ws step thr vals (accs.flatMap (fun x => leBytes 12 (ofSigned 96 x))) a.wloss a96 a.nonfin aloss true
      else
        let os := (vals 0).map (fun v => match v with | some (m, e) => macWide (tdCode tgt) m e | none => (0, false))
        let sat := (os.filter (fun x => x.2)).length
        let mags := os.map (fun x => if tdCode tgt = 11 then (toSigned 32 x.1).natAbs else bits x.1 0 (codeWidth (tdCode tgt) - 1))
        let fl := (if a96 != 0 then 8 else 0) + (if mags.all (· == 0) then 16 else 0)
        let st := statusRec sat (mags.foldl max 0) fl 0 0 a.wloss a96 aloss
        .ok (s.outResult k ws step (os.map (fun x => x.1)) []
          (if useSO ws then [(sdStatus (s.sd k (cSO w)) step, st)] else []) [a96, 0, a.nonfin, a.wloss, aloss, sat])
  | _, _ => .error 0x020D
/-- The results of a vector command, element by element of its output (R126). [log entry 255 DEDUCED] -/
def vecAll (s : State) (ws : List Nat) (ta tb : Ten) (od : List Nat) : List VRes :=
  let w := word ws 0
  let o := opc w
  let sub := cSUB w
  let fa := ((List.range (nElems ta.dims)).map (ta.f32 (s.s2At ta.s2tab))).toArray
  let at_ := fun e => fa.getD e 0
  let imm := bits (word ws 1) 0 32
  (List.range (nElems od)).map (fun e =>
    match o with
    | 0x25 =>
      if 5 ≤ sub then .f (eltF sub (at_ e) imm)
      else if ta.code = 11 ∧ tb.code = 11 then
        .i (eltI sub (toSigned 32 (ta.codes.getD e 0)) (toSigned 32 (tb.codes.getD e 0)))
      else .f (eltF sub (at_ e) (tb.f32 (s.s2At tb.s2tab) e))
    | 0x26 => .f (actF sub imm (bits (word ws 1) 32 32) (at_ e))
    | 0x27 =>
      let gr := normGroup sub ta.dims e
      .f (Config.norm sub (cP ws) imm (gr.map at_) (placeIn gr e)).toNat
    | 0x28 =>
      let gr := alongAxis ta.dims (cAxis ws) e
      .f (Config.softmax (cP ws) (gr.map at_) (placeIn gr e)).toNat
    | 0x29 => .f (reduceF sub (cP ws) ((alongAxis ta.dims (cAxis ws) (redSrc od ta.dims (cAxis ws) e)).map at_))
    | _ => if ta.code = 11 then .i (toSigned 32 (ta.codes.getD e 0)) else .f (at_ e))
where
  /-- The input element at place 0 of the axis that output element `e` reduces. -/
  redSrc (od ds : List Nat) (ax e : Nat) : Nat :=
    let c := fun i => if i = ax then 0 else coord od e i
    canon ds (c 0) (c 1) (c 2) (c 3)
/-- Run a vector command other than RNG (R126): its result, or the code of its fault. -/
def runVec (s : State) (k : Nat) (ws : List Nat) (step : Nat) (thr : Nat × Nat) : Except Nat CmdResult :=
  let w := word ws 0
  let tgt := s.td k (cTO w)
  let od := tdDims tgt
  let c := tdCode tgt
  match s.inTen k (cTA w), (if readsTB ws then s.inTen k (cTB w) else s.inTen k (cTA w)) with
  | some ta, some tb =>
    if (s.skewOf k ws).isSome then .error 0x0107
    else
      let rs := s.vecAll ws ta tb od
      let ys := rs.map VRes.f32
      let so := fun e => s.s2Outs k ws step (s2Row od (tdRank tgt) e)
      if narrow c then
        let vals := fun (kk : Int) => (ys.zip (List.range ys.length)).map (fun p => qOfF32 (fdiv p.1 (fscale (so p.2) kk)))
        s.narrowOut k ws step thr vals (ys.flatMap (leBytes 4)) 0 0 0 0 false
      else if c = 11 then
        let os := rs.map (fun r => match r with | .i x => (x, false) | .f v => fToInt v)
        .ok (s.outResult k ws step (os.map (fun x => ofSigned 32 x.1)) [] [] [0, 0, 0, 0, 0, (os.filter (fun x => x.2)).length])
      else if c = 10 then .ok (s.outResult k ws step ys [] [] [])
      else
        let qs := (ys.zip (List.range ys.length)).map (fun p => fdiv p.1 (so p.2))
        let os := (qs.zip (List.range qs.length)).map (fun p => (vecHalf c p.1).getD (Config.nanHalf c qs p.2 % 2 ^ 16))
        .ok (s.outResult k ws step os [] [] [])
  | _, _ => .error 0x020D
/-- Run an RNG (R142, R252-R254). -/
def runRng (s : State) (k : Nat) (ws : List Nat) (step : Nat) : Except Nat CmdResult :=
  let w := word ws 0
  let p := keyPlot k
  let tgt := s.td k (cTO w)
  let tid := bits (word ws 1) 0 32
  let i := bits w 45 3
  let seed := s.fld PLT_SEED_LO_SEED p i + 2 ^ 64 * s.fld PLT_SEED_HI_SEED p i
  let n := nElems (tdDims tgt)
  .ok (s.outResult k ws step
    ((List.range n).map (fun e => rngElem (bits w 42 3) (vesper seed (m64 step) (tid / 65536) (m64 (tid % 65536 * n + e)))))
    [] [] [])
end State
end Sys2Proof.Machine
end

