-- ==== Sys2Proof/Machine/Move.lean ====
section
/-! DEFINITION. Movement commands, records, digests and statistics (R130-R132, R136, R141, R143): checks at issue, durations
and results. HALO's frames are in Halo. -/
namespace Sys2Proof.Machine
open Sys2Proof
/-- Fields of LOAD, STORE, SEND, RECV and ATOM (R130). -/
def mTD (w : Nat) : Nat := bits w 48 6
def mTS (w : Nat) : Nat := bits w 42 6
def mSS (w : Nat) : Nat := bits w 37 5
def mSSV (w : Nat) : Bool := bit w 36
def mCONS (w : Nat) : Bool := bit w 35
/-- The LPDDR record descriptor of TIME, DIGEST and STAT, and the tensor of DIGEST and STAT. -/
def recTD (w : Nat) : Nat := if opc w = 0x62 then bits w 44 6 else bits w 41 6
def recTT (w : Nat) : Nat := bits w 47 6
/-- The scale descriptor rule of LOAD and STORE (R130): coded, SSV and FLOAT = 0; a LOAD of a 16-bit float, SSV and
FLOAT = 1; else SSV = 0. -/
def scaleOk (load : Bool) (c : Nat) (ssv fl : Bool) : Bool :=
  if coded c then ssv && !fl else if load ∧ half16 c then ssv && fl else !ssv
/-- Frame-store segments that a device range touches. -/
def segsOf (a n : Nat) : List Nat :=
  if n = 0 ∨ a < fsBase then []
  else (List.range (((a - fsBase) + n - 1) / 0x40000 + 1 - (a - fsBase) / 0x40000)).map (fun i => (a - fsBase) / 0x40000 + i)
/-- Rows of D0 elements of a tensor of pitch `p` from byte 0: the codes in canonical order. -/
def rowsIn (c : Nat) (ds : List Nat) (p : Nat) (bs : List Byte) : List Nat :=
  if p = 0 then unpackRun (codeWidth c) (nElems ds) bs
  else (List.range (ext ds 1 * ext ds 2 * ext ds 3)).flatMap (fun r => unpackRun (codeWidth c) (ext ds 0) (bs.drop (r * p)))
/-- The writes that lay codes out in rows of pitch `p` at an address. -/
def rowsOut (c : Nat) (ds : List Nat) (p a : Nat) (codes : List Nat) : List (Nat × List Byte) :=
  if p = 0 then [(a, packRun (codeWidth c) codes)]
  else (List.range (ext ds 1 * ext ds 2 * ext ds 3)).map (fun r =>
    (a + r * p, packRun (codeWidth c) ((codes.drop (r * ext ds 0)).take (ext ds 0))))
namespace State
/-- Bytes of a device address that a command reads on behalf of its context: zero beyond what exists (R206, R393, R431). -/
def devBytes (s : State) (who : Asker) (c a n : Nat) : List Byte := (s.devRead who (some c) a n).1
/-- Descriptor slots that a movement command reads as tensors, and the one it writes. -/
def moveIns (ws : List Nat) : List Nat :=
  let w := word ws 0
  match opc w with
  | 0x41 | 0x42 | 0x43 | 0x45 => [mTS w]
  | 0x78 => [recTT w]
  | 0x7A => if bit w 53 then [] else [recTT w]
  | _ => []
def moveOut (ws : List Nat) : Option Nat :=
  let w := word ws 0
  match opc w with
  | 0x40 | 0x41 | 0x42 | 0x43 | 0x44 | 0x45 => some (mTD w)
  | _ => none
/-- A source of STORE, SEND, DIGEST or STAT: a PAIR or a CHAN reader. -/
def srcOk (s : State) (k i : Nat) : Bool :=
  let ws := s.td k i
  tdKind ws == 3 || (tdKind ws == 2 && tdReader ws)
/-- Whether tensor descriptor `i` may be digested or measured: a PAIR or CHAN, or memory whose elements carry no scale. -/
def readable (s : State) (k i : Nat) : Bool := 2 ≤ tdKind (s.td k i) || !coded (tdCode (s.td k i))
/-- A conductor's record goes to the plot record ring: its TD must be 0; a stage's TD names LPDDR (R136, R143). -/
def recBad (s : State) (k : Nat) (w : Nat) : Bool :=
  if isCond k then recTD w != 0 else tdKind (s.td k (recTD w)) != 0
/-- The ranked checks of a movement command at issue (R96, R130, R132, R136, R141, R143). [log entry 123 DEDUCED] -/
def moveCheck (s : State) (k : Nat) (ws : List Nat) : Option Nat :=
  let w := word ws 0
  let o := opc w
  let d := s.td k (mTD w); let t := s.td k (mTS w); let sd := s.sd k (mSS w)
  let dif := tdCode d != tdCode t || tdDims d != tdDims t
  let here := fun (x : List Nat) => tdKind x == 2 && tdRstage x == keyStage k
  match o with
  | 0x40 | 0x41 | 0x42 | 0x43 | 0x45 =>
    let ld := o == 0x40
    let mem := o == 0x40 || o == 0x41
    firstFault [
      (d.isEmpty || t.isEmpty || (mem && mSSV w && sd.isEmpty), 0x020C),
      (s.chanOut k (mTD w) || s.chanOut k (mTS w), 0x0209),
      ((match o with
        | 0x40 => !s.okOut k (mTD w) || tdKind t != 0
        | 0x41 => tdKind d != 0 || !s.srcOk k (mTS w)
        | 0x42 => !((tdKind d == 2 && !tdReader d) || tdKind d == 1) || here d || !s.srcOk k (mTS w)
        | 0x43 => !s.okOut k (mTD w) || !((tdKind t == 2 && tdReader t) || tdKind t == 1) || here t
        | _ => tdKind d != 0 || tdKind t != 3 || tdCode d != 10 || tdCode t != 10)
        || (mem && !scaleOk ld (tdCode t) (mSSV w) (sdFloat sd)), 0x020D),
      (dif, 0x020E)]
  | 0x62 => firstFault [(!isCond k && (s.td k (recTD w)).isEmpty, 0x020C), (s.recBad k w, 0x020D)]
  | 0x78 =>
    firstFault [((s.td k (recTT w)).isEmpty || (s.td k (recTD w)).isEmpty, 0x020C),
      (s.recBad k w || (bit w 53 && !s.readable k (recTT w)), 0x020D)]
  | 0x7A =>
    let smp := bit w 53
    firstFault [(!isCond k && ((s.td k (recTD w)).isEmpty || (!smp && (s.td k (recTT w)).isEmpty)), 0x020C),
      (s.recBad k w || (isCond k && !smp) || (!smp && !isCond k && !s.readable k (recTT w)), 0x020D)]
  | _ => none
/-- The block axis of an LPDDR or frame-store tensor (R52). [log entry 280 DEDUCED] -/
def memAxis (s : State) (k : Nat) (td : List Nat) (w : Nat) : Nat :=
  if tdFlat td then 4 else if (s.sd k (mSS w)).isEmpty then 0 else sdAxis (s.sd k (mSS w))
/-- B of a movement command (R115): code bytes and scale-stream bytes. -/
def moveB (s : State) (k : Nat) (ws : List Nat) : Nat :=
  let w := word ws 0
  let t := s.td k (mTS w)
  let d := s.td k (mTD w)
  let ax := match opc w with
    | 0x40 => s.memAxis k t w
    | 0x41 => s.memAxis k d w
    | _ => if tdKind t = 1 then s.memAxis k t w else ((s.hdrOf (s.inPlace k (mTS w)).key).map (fun h => h.axis)).getD 0
  codeBytes (tdCode t) (tdDims t) + streamBytes (tdCode t) (tdDims t) ax
/-- Duration of a movement command in fc (Tables 5.10, R136, R141, R143): total and body. -/
def moveFc (s : State) (k : Nat) (ws : List Nat) : Nat × Nat :=
  let w := word ws 0
  let b := s.moveB k ws
  let far := fun (i : Nat) => let x := s.td k i; if tdKind x = 1 then meshBel else s.chanM k x
  let tt := s.td k (recTT w)
  match opc w with
  | 0x40 => (536 + cdiv b 64 + cdiv b 6144, cdiv b 64)
  | 0x41 => (236 + cdiv b 64 + cdiv b 6144, cdiv b 64)
  | 0x42 => (24 + far (mTD w) + cdiv b 64, cdiv b 64)
  | 0x43 => (24 + 2 * far (mTS w) + cdiv b 64, cdiv b 64)
  | 0x45 => (236 + cdiv b 32 + cdiv b 6144, cdiv b 32)
  | 0x62 => (238, 0)
  | 0x78 =>
    let ax := ((s.hdrOf (s.inPlace k (recTT w)).key).map (fun h => h.axis)).getD 0
    let n := codeBytes (tdCode tt) (tdDims tt) + streamBytes (tdCode tt) (tdDims tt) ax
    (238 + 32 + cdiv n 64, cdiv n 64)
  | _ => if bit w 53 then (238, 0) else (96 + cdiv (nElems (tdDims tt)) 64 + 238, cdiv (nElems (tdDims tt)) 64)

/-! Results. -/

/-- A tensor in LPDDR or the frame store, with the scale stream named by the caller. -/
def memTen (s : State) (who : Asker) (cx : Nat) (td : List Nat) (step ax : Nat) (ents : List Nat) (bmax : Int) (tab : Nat) : Ten :=
  let c := tdCode td
  { code := c, zp := tdZp td, rank := tdRank td, dims := tdDims td, axis := ax, bmax := bmax, s2tab := tab,
    codes := (rowsIn c (tdDims td) (tdPitch td) (s.devBytes who cx (tdAddr td step) (tdBytes td))).toArray, ents := ents.toArray }
/-- Where the scale stream of a frame-store tensor stands: the next 64-byte boundary after its codes. [log entry 121 DEDUCED] -/
def fsStream (td : List Nat) (step : Nat) : Nat := tdAddr td step + cdiv (tdBytes td) 64 * 64
/-- The tensor that LOAD, RECV, SEND or STORE moves, as read from its source. [log entry 280 DEDUCED] -/
def movedTen (s : State) (who : Asker) (k : Nat) (ws : List Nat) (step : Nat) : Option Ten :=
  let w := word ws 0
  let t := s.td k (mTS w)
  let sd := s.sd k (mSS w)
  if 2 ≤ tdKind t then s.inTen k (mTS w)
  else
    let ax := s.memAxis k t w
    let n := if coded (tdCode t) then blockCount (tdDims t) ax else 0
    let sa := if tdKind t = 1 then fsStream t step else sdStream sd step
    let bmax : Int := if mSSV w then (if sdFloat sd then sdTopx sd else (sdBmax sd : Int)) else if coded (tdCode t) then 63 else 0
    let tab := if mSSV w then sdS2 sd step + 1 else 0
    some (s.memTen who (s.plotCtx (keyPlot k)) t step ax
      (unpackEnts n (s.devBytes who (s.plotCtx (keyPlot k)) sa (2 * n))) bmax tab)
/-- The header that a moved tensor arrives with. -/
def tenHdr (t : Ten) (zp : Int) : Hdr :=
  { code := t.code, zp := zp, rank := t.rank, dims := t.dims, axis := t.axis, bmax := t.bmax, s2tab := t.s2tab }
/-- LOAD and RECV: into a pair or slot (R130). -/
def runToBank (s : State) (who : Asker) (k : Nat) (ws : List Nat) (step : Nat) : CmdResult :=
  let w := word ws 0
  match s.movedTen who k ws step with
  | some t =>
    let x := s.outPlace k (mTD w)
    { writes := [(x.addr, tensorBytes t.code t.codes.toList t.ents.toList)], hdrs := [(x.key, tenHdr t (tdZp (s.td k (mTD w))))] }
  | none => {}
/-- The bytes that STORE and SEND to the frame store write: codes by rows, and the scale stream of the destination's block
axis. -/
def memWrites (s : State) (who : Asker) (k : Nat) (ws : List Nat) (step : Nat) : List (Nat × List Byte) :=
  let w := word ws 0
  let d := s.td k (mTD w)
  match s.movedTen who k ws step with
  | some t =>
    let n := if coded t.code then blockCount (tdDims d) (s.memAxis k d w) else 0
    let x := s.inPlace k (mTS w)
    let raw := s.bytes (x.addr + cdiv (codeBytes t.code t.dims) 64 * 64) (2 * n)
    let sa := if tdKind d = 1 then fsStream d step else sdStream (s.sd k (mSS w)) step
    rowsOut t.code t.dims (tdPitch d) (tdAddr d step) t.codes.toList ++ (if n = 0 then [] else [(sa, raw)])
  | none => []
/-- SEND: to a slot in another stage, or to the frame store. -/
def runSend (s : State) (who : Asker) (k : Nat) (ws : List Nat) (step : Nat) : CmdResult :=
  let d := s.td k (mTD (word ws 0))
  if tdKind d = 1 then { writes := s.memWrites who k ws step } else s.runToBank who k ws step
/-- STORE: its LPDDR writes on behalf of the context; they are acknowledged before the commit (R92). [log entry 122 DEDUCED] -/
def runStore (s : State) (who : Asker) (k : Nat) (ws : List Nat) (step gen : Nat) : State :=
  (s.memWrites who k ws step).foldl (fun s x => s.ctxDev (s.plotCtx (keyPlot k)) gen x.1 x.2) s
/-- Element `e` of an ATOM is added into LPDDR, visible as it lands (R132). -/
def runAtom (s : State) (k : Nat) (ws : List Nat) (step gen e : Nat) : State :=
  let w := word ws 0
  let d := s.td k (mTD w)
  match s.inTen k (mTS w) with
  | some t =>
    let r := if tdPitch d = 0 then 4 * e else e / max 1 (ext t.dims 0) * tdPitch d + 4 * (e % max 1 (ext t.dims 0))
    let a := tdAddr d step + r
    s.ctxDev (s.plotCtx (keyPlot k)) gen a (leBytes 4 (fadd (s.lpNat a 4) (t.codes.getD e 0)))
  | none => s
/-- The tensor that DIGEST or STAT reads. -/
def readTT (s : State) (who : Asker) (k i step : Nat) : Option Ten :=
  let td := s.td k i
  if 2 ≤ tdKind td then s.inTen k i else some (s.memTen who (s.plotCtx (keyPlot k)) td step 0 [] 0 0)
/-- Put a 16-byte record in the plot record ring (R136): discarded, but counted, when SIZE is 0. -/
def plotRecord (s : State) (p gen : Nat) (bs : List Byte) : State :=
  let c := s.fld PLT_RECIDX_COUNT p
  let sz := s.fld PLT_REC_SIZE p * 4096
  let s := if sz = 0 then s else s.ctxPut (s.plotCtx p) gen (s.fld PLT_REC_BASE p * 64 + c * 16 % sz) bs
  s.addWrap PLT_RECIDX_COUNT 1 p
/-- A 16-byte record in the format of R136. -/
def rec16 (v step src : Nat) : List Byte := leBytes 8 v ++ leBytes 4 step ++ leBytes 1 src ++ leBytes 3 0
/-- The value TIME samples (R136). [log entry 117 DEDUCED] -/
def timeValue (s : State) (w : Nat) : Nat :=
  if bit w 53 then s.tb16 (bits w 50 3) % 2 ^ 64 else s.lcPosReg (bits w 50 3)
/-- The counters of STAT.SAMPLE (R143); those of LATE_WARN and DUE_MISS are kept per plot controller (R45). An unassigned CSEL does not
load. -/
def sampleValue (s : State) (k csel : Nat) : Nat :=
  let g := s.prog k
  match csel with
  | 0 => s.fc - (s.plot (keyPlot k)).onAt
  | 1 => g.tokWait
  | 2 => g.credWait
  | 3 => g.stalls
  | 4 => s.cnt.get 0 (0x0604 * 65536 + keyPlot k)
  | _ => s.cnt.get 0 (0x0605 * 65536 + keyPlot k)
/-- The record that TIME and STAT.SAMPLE write. -/
def sampleRec (s : State) (k : Nat) (ws : List Nat) (step : Nat) : List Byte :=
  let w := word ws 0
  if opc w = 0x62 then rec16 (s.timeValue w) step (bits w 50 4) else rec16 (s.sampleValue k (bits w 33 8)) step (bits w 33 8)
/-- DIGEST in its read pass and STAT with SAMPLE = 0: the record, at TD's ring position for the step. -/
def runRead (s : State) (who : Asker) (k : Nat) (ws : List Nat) (step : Nat) : CmdResult :=
  let w := word ws 0
  match s.readTT who k (recTT w) step with
  | some t =>
    let r := if opc w = 0x78 then digestRec t (s.s2At t.s2tab) (bits (word ws 1) 0 32) step else statRec t (s.s2At t.s2tab)
    { writes := [(tdAddr (s.td k (recTD w)) step, r)] }
  | none => {}
/-- The device ranges that a movement command or record reads through memory descriptors: address, bytes. -/
def moveReads (s : State) (k : Nat) (ws : List Nat) (step : Nat) : List (Nat × Nat) :=
  let w := word ws 0
  let t := s.td k (mTS w)
  let sd := s.sd k (mSS w)
  let tt := s.td k (recTT w)
  match opc w with
  | 0x40 =>
    let n := if coded (tdCode t) then blockCount (tdDims t) (s.memAxis k t w) else 0
    (tdAddr t step, tdBytes t) :: (if n = 0 then [] else [(sdStream sd step, 2 * n)])
  | 0x78 => if bit w 53 ∧ tdKind tt = 0 then [(tdAddr tt step, tdBytes tt)] else []
  | 0x7A => if ¬ bit w 53 ∧ tdKind tt = 0 then [(tdAddr tt step, tdBytes tt)] else []
  | _ => []
end State
end Sys2Proof.Machine
end

