-- ==== Sys2Proof/Machine/Fire.lean ====
section
/-! DEFINITION. The life of a slot command (R89-R96, R141, R249, R469): issue and dispatch, the check of the channels, firing,
running, commit, and the landing of tokens and credits. -/
namespace Sys2Proof.Machine
open Sys2Proof
/-- Belvedere requests, compute commands, and the slot that executes a command (R89): 0 compute, 1 movement. -/
def isBel (o : Nat) : Bool := 0x30 ≤ o && o ≤ 0x32
def isCompute (o : Nat) : Bool := (0x20 ≤ o && o ≤ 0x2A) || o == 0x79
def slotOf (o : Nat) : Nat := if isCompute o then 0 else 1
namespace State
/-- Tensor slots that a command reads, and the one it writes. -/
def cmdIns (ws : List Nat) : List Nat := if isCompute (opc (word ws 0)) then computeIns ws else moveIns ws
def cmdOut (ws : List Nat) : Option Nat := if isCompute (opc (word ws 0)) then some (cTO (word ws 0)) else moveOut ws
/-- Whether a CHAN input is consumed (R95): by compute, STORE, SEND, RECV and HALO; a DIGEST or STAT only looks. [log entry 79 DEDUCED] -/
def consumes (o : Nat) : Bool := !(o == 0x78 || o == 0x7A)

/-! Issue and dispatch (R89, R144). -/

/-- HALO's checks at issue (R131): ROWS of 0, rows that no D2 can hold, a CHIP outside the group. D2 of the remote slot is
checked where it is known, by the producer. -/
def haloBad (s : State) (k : Nat) (ws : List Nat) : Option Nat :=
  let w := word ws 0
  let d := s.td k (mTD w)
  let rows := bits (word ws 1) 16 16; let row0 := bits (word ws 1) 0 16
  let chip := bits w 43 5
  if d.isEmpty then some 0x020C
  else if s.chanOut k (mTD w) then some 0x0209
  else if ¬ s.okOut k (mTD w) ∨ s.zhl.gid = 0 ∨ ¬ bit s.zhl.members chip then some 0x020D
  else if rows = 0 ∨ 65535 < row0 + rows then some 0x020E
  else none
/-- The ranked checks of a command at issue: the code of the fault. -/
def issueCheck (s : State) (k : Nat) (ws : List Nat) : Option Nat :=
  let o := opc (word ws 0)
  if isCompute o then s.computeCheck k ws
  else if isBel o then s.belCheck k ws
  else if o = 0x44 then s.haloBad k ws
  else s.moveCheck k ws
/-- The slot holds an earlier command that has not fired. -/
def slotWaits (g : Prog) (o : Nat) : Bool :=
  g.cmds.any (fun c => c.phase == .dispatched && slotOf (opc (word c.words 0)) == slotOf o)
/-- A window-check rejection counts in PAV_WIN_CNT (R166). -/
def countWin (s : State) (k code : Nat) : State :=
  match s.stagePhys (keyPlot k) (keyStage k) with
  | some p => if code = 0x0301 then s.addSat PAV_WIN_CNT_EMPTY 1 p else if code = 0x0302 then s.addSat PAV_WIN_CNT_LBSHORT 1 p else s
  | none => s
/-- Dispatch the instruction at PC to its slot; the thresholds of R78 are sampled now. [log entry 78 DEDUCED] -/
def dispatch (s : State) (k : Nat) (ws : List Nat) : State :=
  let g := s.prog k
  let thr := match s.stagePhys (keyPlot k) (keyStage k) with
    | some p => (s.fld PTR_ARITH_CFG_SAT_SHIFT p, s.fld PTR_ARITH_CFG_LOW_SHIFT p)
    | none => (0, 0)
  let c : Cmd := { pc := g.pc, words := ws, step := g.step, seq := g.seqNext,
                   idx := g.loops.map (fun f => if f.outer then g.step else f.idx), atFc := s.fc, thr := thr }
  (s.setProg k { g with cmds := g.cmds ++ [c], seqNext := g.seqNext + 1 }).advance k
/-- The ranked checks of a slot instruction, and its dispatch where it passes them (R89, R144). -/
def issueChecked (s : State) (k : Nat) (ws : List Nat) : State :=
  match s.issueCheck k ws with
  | some c => (s.countWin k c).cmdFault k c
  | none => s.dispatch k ws
/-- A slot instruction issues (R89, R96, R144): it waits for its slot, and a stage also for every descriptor section of the
plot; the channels are then checked once; a failed check faults, and a command that passes is dispatched. -/
def issueSlot (s : State) (k : Nat) (ws : List Nat) : State :=
  let g := s.prog k
  let p := keyPlot k
  if slotWaits g (opc (word ws 0)) ∨ (¬ isCond k ∧ ¬ s.allDesc p) then s
  else if isCond k ∨ (s.plot p).chanOk then s.issueChecked k ws
  else match s.chanFault p with
    | some (st, pc) => s.cmdFaultAt (progKey p st) pc 0x0209
    | none => (s.setPlot p { s.plot p with chanOk := true }).issueChecked k ws
/-- DIGEST in its arming form (R141): a second arm of one TT replaces the first. [log entry 80 DEDUCED] -/
def armDigest (s : State) (k : Nat) (ws : List Nat) : State :=
  let g := s.prog k
  let tt := recTT (word ws 0)
  match s.issueCheck k ws with
  | some c => s.cmdFault k c
  | none =>
    (s.setProg k { g with arms := g.arms.filter (fun a => a.1 != tt) ++ [(tt, recTD (word ws 0), bits (word ws 1) 0 32)] }).advance k

/-! Firing (R90, R102, R123, R129). -/

/-- Frame-store segments that a command reads, and those it writes (R130): the whole tensor at its step, with its stream. -/
def fsRange (s : State) (k : Nat) (td : List Nat) (w step : Nat) : List Nat :=
  let n := if coded (tdCode td) then 2 * blockCount (tdDims td) (s.memAxis k td w) else 0
  segsOf (tdAddr td step) (if n = 0 then tdBytes td else cdiv (tdBytes td) 64 * 64 + n)
def segsIn (s : State) (k : Nat) (ws : List Nat) (step : Nat) : List Nat :=
  (cmdIns ws).flatMap (fun i => let t := s.td k i; if tdKind t = 1 then s.fsRange k t (word ws 0) step else [])
def segsOut (s : State) (k : Nat) (ws : List Nat) (step : Nat) : List Nat :=
  match cmdOut ws with
  | some i => let t := s.td k i; if tdKind t = 1 then s.fsRange k t (word ws 0) step else []
  | none => []
/-- Two descriptors are private pairs with banks in common (R90, R92). [log entry 258 DEDUCED] -/
def samePair (a b : List Nat) : Bool :=
  tdKind a == 3 && tdKind b == 3 && decide (tdBank0 a < tdBank0 b + 2 * tdSb b ∧ tdBank0 b < tdBank0 a + 2 * tdSb a)
/-- Whether a command must still wait for an earlier one of its program: for the commit of one that writes a private pair it reads (R90),
readable from the next fc (R116); and for one that uses a channel of it in the same direction. [log entry 259 DESIGN CHOICE] -/
def blocked (s : State) (k : Nat) (c : Cmd) : Bool :=
  let g := s.prog k
  let t := s.td k
  let same := fun (i j : Nat) => tdKind (t i) == 2 && tdKind (t j) == 2 && tdChid (t i) == tdChid (t j)
  (cmdIns c.words).any (fun i => tdKind (t i) == 3 && g.pairAt.get 0 (pairId (t i)) == s.fc + 1)
    || (g.cmds.filter (fun e => decide (e.seq < c.seq))).any (fun e =>
    (cmdIns c.words).any (fun i => (cmdOut e.words).any (fun j => samePair (t i) (t j)) || (cmdIns e.words).any (same i))
      || (match cmdOut c.words, cmdOut e.words with | some i, some j => same i j | _, _ => false))
/-- The operands of a command stand ready (R90, R129, R130). -/
def cmdReady (s : State) (k : Nat) (c : Cmd) : Bool :=
  let ws := c.words
  let o := opc (word ws 0)
  if isBel o then s.belRoom ((bEngine (word ws 0)).getD 0)
  else
    (cmdIns ws).all (fun i => tdKind (s.td k i) != 2 || s.tokenReady k (s.td k i))
      && (match cmdOut ws with | some i => tdKind (s.td k i) != 2 || s.creditReady k (s.td k i) | none => true)
      && (s.segsIn k ws c.step).all (fun n => s.fullOf (segKey n))
      && (s.segsOut k ws c.step).all (fun n => !s.fullOf (segKey n) && s.bel.rsv.get 0 (segKey n) == 0)
      && !s.blocked k c
/-- The checks of scale headers at fire (R123). -/
def fireCheck (s : State) (k : Nat) (ws : List Nat) : Option Nat :=
  let o := opc (word ws 0)
  if isCompute o then s.computeFire k ws
  else if isBel o then none
  else ((cmdIns ws).filter (fun i => 2 ≤ tdKind (s.td k i))).findSome? (fun i => s.hdrCheck k i none)
/-- A command of `body` fc at weight `w` draws on the bucket of its pavilion from its fire on (R249). -/
def draw (s : State) (k seq body w : Nat) : State :=
  match s.stageLog (keyPlot k) (keyStage k) with
  | none => s
  | some q =>
    let s := s.settle q
    let d : Draw := ⟨k, seq, s.fc, w * 16, body⟩
    let ds := s.par.draws.get [] q
    { s with par := { s.par with draws := s.par.draws.set [] q (if w = 2 then ds ++ [d] else d :: ds) } }
/-- D of the route to a chip, in half fc (R302): H × (RTT_MAX + 96). -/
def routeD2 (s : State) (d : Nat) : Nat :=
  max (if s.on ZHL_ROUTE_PV d then s.fld ZHL_ROUTE_HPRI d else 0) (if s.on ZHL_ROUTE_AV d then s.fld ZHL_ROUTE_HALT d else 0)
    * (s.fld ZHL_GRP_TIMING_RTT_MAX + 96)
/-- Duration of a HALO whose rows, with their scale entries, are `b` bytes (R131). -/
def haloFc (s : State) (ws : List Nat) (b : Nat) : Nat := 96 + s.routeD2 (bits (word ws 0) 43 5) + cdiv b 23
/-- Duration of a command: total and body fc (R115, R127); that of a HALO is known when its rows arrive with their block axis (R131). -/
def cmdFc (s : State) (k : Nat) (ws : List Nat) : Nat × Nat :=
  let o := opc (word ws 0)
  if isCompute o then s.computeFc k ws else if isBel o then (meshBel + 8, 0) else if o = 0x44 then (0, 0) else s.moveFc k ws
/-- The fc at which a reader or producer sees a channel slot's flag. [log entry 81 DEDUCED] -/
def seenAt (s : State) (k : Nat) (ws : List Nat) (tok : Bool) : Nat :=
  let c := s.chan (chanKey (keyPlot k) ws)
  (if tok then c.tokAt.get 0 (s.readSlot k ws) else c.credAt.get 0 (s.writeSlot k ws)) + s.chanM k ws
/-- The command as it fires: what it reads, consumes and writes, its tags, its duration. -/
def firedCmd (s : State) (k : Nat) (c : Cmd) : Cmd :=
  let ws := c.words
  let o := opc (word ws 0)
  let chanIns := (cmdIns ws).filter (fun i => tdKind (s.td k i) == 2)
  let outTd := (cmdOut ws).map (fun i => (i, s.td k i))
  let place := match outTd with | some (i, t) => if 2 ≤ tdKind t then some (s.outPlace k i) else none | none => none
  let segs := s.segsOut k ws c.step
  { c with
    phase := .fired, firedAt := s.fc, cgen := s.cgen (s.plotCtx (keyPlot k)),
    tags := (match place with | some x => x.keys.map (fun b => (b, s.tagOf b)) | none => []) ++ segs.map (fun n => (segKey n, s.tagOf (segKey n))),
    ins := if consumes o then chanIns.map (fun i => (chanKey (keyPlot k) (s.td k i), s.readSlot k (s.td k i))) else [],
    outc := match outTd, place with
      | some (_, t), some x => if tdKind t = 2 then some (chanKey (keyPlot k) t, s.writeSlot k t, x.key, x.n) else none
      | _, _ => none,
    outp := match outTd with
      | some (_, t) => if tdKind t = 3 then some (pairId t, 1 - s.activeHalf k t) else none
      | none => none,
    segIn := if o = 0x43 ∧ mCONS (word ws 0) then s.segsIn k ws c.step else [],
    segOut := segs,
    dig := match cmdOut ws with
      | some i => ((s.prog k).arms.find? (fun a => a.1 == i)).map (fun a => (a.2.1, a.2.2))
      | none => none,
    res := if o = 0x62 ∨ (o = 0x7A ∧ bit (word ws 0) 53) then { writes := [(0, s.sampleRec k ws c.step)] } else {} }
/-- Fire a command whose checks have passed (R90, R129): a Belvedere request is sampled and sent to its engine, any other runs for its
duration. -/
def fireDo (s : State) (k : Nat) (c : Cmd) : State :=
  let ws := c.words
  let o := opc (word ws 0)
  let p := keyPlot k
  let c2 := s.firedCmd k c
  let (tot, body) := s.cmdFc k ws
  let dur := if isBel o ∧ isCond k then meshPlot + 8 else tot + (if c2.dig.isSome then 40 else 0)
  let g := s.prog k
  let toks := ((cmdIns ws).filter (fun i => tdKind (s.td k i) == 2)).map (fun i => s.seenAt k (s.td k i) true - c.atFc)
  let creds := (((cmdOut ws).toList).filter (fun i => tdKind (s.td k i) == 2)).map (fun i => s.seenAt k (s.td k i) false - c.atFc)
  let c2 := { c2 with due := s.fc + dur }
  let g := { g with
    cmds := g.cmds.map (fun e => if e.seq = c.seq then c2 else e),
    arms := if c2.dig.isSome then g.arms.filter (fun a => some a.1 != cmdOut ws) else g.arms,
    tokWait := g.tokWait + toks.foldl max 0, credWait := g.credWait + creds.foldl max 0,
    belPend := g.belPend + (if isBel o then 1 else 0) }
  let t := s.setProg k g
  let t := if isBel o ∨ isCond k ∨ body = 0 then t else t.draw k c.seq body (weightOf o)
  let t := if isBel o then
      { t with bel := { t.bel with wait := t.bel.wait ++ [⟨c.seq, c2.due, { s.belRequest k c.step ws with idx := c.idx }⟩] } }
    else if isWin o then t.showLbuf k ((s.cmdLbuf k ws).getD []) else t
  t.trace 2 2 p (keyStage k * 2 ^ 24 + c.step % 2 ^ 24)
/-- Fire a ready command (R90): a failed check of scale headers faults (R123). -/
def fireCmd (s : State) (k : Nat) (c : Cmd) : State :=
  match s.fireCheck k c.words with
  | some code => s.cmdFaultAt k c.pc code
  | none => s.fireDo k c
/-- The command of slot `sl` that may fire next: its oldest one dispatched, with no command in progress in that slot (R89, R116). -/
def nextToFire (s : State) (k sl : Nat) : Option Cmd :=
  let mine := (s.prog k).cmds.filter (fun c => slotOf (opc (word c.words 0)) == sl)
  if mine.any (fun c => c.phase != .dispatched) then none else mine.find? (fun c => c.phase == .dispatched)
/-! Running. -/

/-- Who a program's command reads as (R206). -/
def cmdWho (k : Nat) (c : Cmd) : Asker := .prog (keyPlot k) c.step c.idx
/-- Replace a command of a program. -/
def setCmd (s : State) (k : Nat) (c : Cmd) : State :=
  let g := s.prog k
  s.setProg k { g with cmds := g.cmds.map (fun e => if e.seq = c.seq then c else e) }
/-- Finish a command with its result. -/
def finish (s : State) (k : Nat) (c : Cmd) (r : CmdResult) : State := s.setCmd k { c with phase := .finished, res := r }
/-- What the record of a SCALE_SKEW names (R73). [log entry 257 DEDUCED] -/
def skewNames (x : Option (Nat × Nat × Nat × Nat)) : List Byte :=
  match x with
  | some (i, b, want, got) => leBytes 1 i ++ leBytes 4 b ++ leBytes 1 want ++ leBytes 1 got
  | none => []
/-- A fault of a running command, counted in the fc in which it is raised (R74, R79); `names` is what its record names. -/
def runFault (s : State) (k : Nat) (c : Cmd) (code : Nat) (names : List Byte := []) : State :=
  let s := match s.stagePhys (keyPlot k) (keyStage k) with
    | some p => if code = 0x0107 then s.addSat PAV_ARITH_CNT_SKEW 1 p
                else if code = 0x0106 then s.addSat PAV_ARITH_CNT_MISS 1 p else s
    | none => s
  s.cmdFaultAt k c.pc code names
/-- The fired command of a program whose instruction has opcode `o`. -/
def firedOf (s : State) (k o : Nat) : Option Cmd :=
  (s.prog k).cmds.find? (fun c => c.phase == .fired && opc (word c.words 0) == o)
/-- The window register holds the last two windows of a window command's last channels (R145). [log entry 260 DESIGN CHOICE] -/
def showWin (s : State) (k : Nat) (ws : List Nat) : State :=
  match s.stagePhys (keyPlot k) (keyStage k), s.inTen k (cTA (word ws 0)) with
  | some p, some t =>
    let od := tdDims (s.td k (cTO (word ws 0)))
    let kn := kernOf (if hasKern (opc (word ws 0)) then s.kd k (cKS (word ws 0)) else [])
    let n := nElems od / max 1 (ext od 0)
    let img := fun (i : Nat) => winImage t kn od ((n - i) * ext od 0)
    { s with par := { s.par with win := s.par.win.set ([], []) p (img 2, img 1) } }
  | _, _ => s
/-- A compute command runs: its result, or its fault. -/
def runCompute (s : State) (k : Nat) (c : Cmd) : State :=
  let o := opc (word c.words 0)
  let r := if isRng o then s.runRng k c.words c.step
    else if macPath o then s.runMac k c.words c.step c.thr else s.runVec k c.words c.step c.thr
  let s := if isWin o then s.showWin k c.words else s
  match r with
  | .ok x => s.finish k c x
  | .error e => s.runFault k c e (if e = 0x0107 then skewNames (s.skewOf k c.words) else [])
/-- A movement command may run: LPDDR is read and written only once trained (R392), and a read of a band not yet latched waits
(R206). -/
def moveMay (s : State) (k : Nat) (c : Cmd) : Bool :=
  s.trained && !(s.moveReads k c.words c.step).any (fun r => s.devWait (cmdWho k c) r.1)
/-- A movement command reads poisoned data (R335). -/
def movePoison (s : State) (k : Nat) (c : Cmd) : Bool :=
  (s.moveReads k c.words c.step).any (fun r => s.devPoisoned (cmdWho k c) r.1 r.2)
/-- What a movement command other than ATOM does: its result, and the state with what it has written to LPDDR itself. -/
def moveDo (s : State) (k : Nat) (c : Cmd) : CmdResult × State :=
  let ws := c.words
  let who := cmdWho k c
  match opc (word ws 0) with
  | 0x40 => (s.runToBank who k ws c.step, s)
  | 0x43 => (s.runToBank who k ws c.step, s)
  | 0x42 => (s.runSend who k ws c.step, s)
  | 0x41 => ({}, s.runStore who k ws c.step c.cgen)
  | 0x78 => (s.runRead who k ws c.step, s)
  | 0x7A => (if bit (word ws 0) 53 then c.res else s.runRead who k ws c.step, s)
  | _ => (c.res, s)
/-- The record of an armed DIGEST of a tensor in memory (R141): of what STORE or SEND moves there, or of what ATOM's adds have left. -/
def memDigest (s : State) (k : Nat) (c : Cmd) : List (Nat × List Byte) :=
  let o := opc (word c.words 0)
  let t := if o = 0x45 then
      some (s.memTen (cmdWho k c) (s.plotCtx (keyPlot k)) (s.td k (mTD (word c.words 0))) c.step 0 [] 0 0)
    else s.movedTen (cmdWho k c) k c.words c.step
  match c.dig, t with
  | some (td, tid), some t =>
    if (cmdOut c.words).any (fun i => decide (tdKind (s.td k i) < 2)) then
      [(tdAddr (s.td k td) c.step, digestRec t (s.s2At t.s2tab) tid c.step)] else []
  | _, _ => []
/-- The memory traffic of a movement command: its reads, and its requester's bandwidth. -/
def moveTraffic (s : State) (k : Nat) (c : Cmd) (t : State) : State :=
  let ws := c.words
  let o := opc (word ws 0)
  let rds := s.moveReads k ws c.step
  let t := rds.foldl (fun t x => (t.devRead (cmdWho k c) (some (s.plotCtx (keyPlot k))) x.1 x.2).2) t
  let wr := if o = 0x41 ∨ o = 0x45 then
      (let d := s.td k (mTD (word ws 0)); bursts (tdAddr d c.step) (tdBytes d)) else 0
  t.resvWait (keyPlot k) (rds.foldl (fun n x => n + bursts x.1 x.2) wr)
/-- The first scale entry that LOAD consumes whose tag is not that of its own block count (R53, R73), named as `skewOf` does. DEDUCED:
LOAD is one of the movers of Table 1.2. [log entry 101 DEDUCED] -/
def loadSkew (s : State) (k : Nat) (c : Cmd) : Option (Nat × Nat × Nat × Nat) :=
  if opc (word c.words 0) ≠ 0x40 then none
  else (s.movedTen (cmdWho k c) k c.words c.step).bind (fun t => (t.skewAt t.whole).map (fun x => (mTS (word c.words 0), x)))
/-- A movement command finishes with a result: its traffic, and the record of a DIGEST armed for its tensor in memory. -/
def moveFinish (s : State) (k : Nat) (c : Cmd) (r : CmdResult) (t : State) : State :=
  (s.moveTraffic k c t).finish k c { r with writes := r.writes ++ t.memDigest k c }
/-- The next add of an ATOM lands (R132); with the last one the command finishes. Its adds so far are its count in `stats`. -/
def runAdd (s : State) (k : Nat) (c : Cmd) : State :=
  let e := c.res.stats.headD 0
  let n := nElems (tdDims (s.td k (mTD (word c.words 0))))
  let t := s.runAtom k c.words c.step c.cgen e
  if e + 1 < n then t.setCmd k { c with res := { c.res with stats := [e + 1] } }
  else s.moveFinish k c { c.res with stats := [n] } t
/-- A movement command runs: poisoned data faults MEM_POISON (R335); a LOAD's mismatched tag faults SCALE_SKEW (R73); an aborted
ATOM's adds stay (R132). -/
def runMove (s : State) (k : Nat) (c : Cmd) : State :=
  if ¬ s.moveMay k c then s
  else if s.movePoison k c then s.runFault k c 0x0908
  else if (s.loadSkew k c).isSome then s.runFault k c 0x0107 (skewNames (s.loadSkew k c))
  else if opc (word c.words 0) = 0x45 then s.runAdd k c
  else s.moveFinish k c (s.moveDo k c).1 (s.moveDo k c).2
/-- The run of the fired command of opcode `o`. -/
def runSlot (s : State) (k o : Nat) : State :=
  if ¬ s.ctxActive (s.plotCtx (keyPlot k)) then s
  else match s.firedOf k o with
  | some c => if isCompute o then s.runCompute k c else s.runMove k c
  | none => s

/-! Commit (R91, R92, R95, R141, R469). -/

/-- Readers of the channel of key `key` (R94). -/
def readersOf (s : State) (key : Nat) : Nat := s.chanK (key / 256) (key % 256)
/-- DEPTH + 1 of a channel, from a declaration. -/
def ringOf (s : State) (key : Nat) : Nat :=
  match s.chanDecls (key / 256) (key % 256) with
  | x :: _ => tdDepth x.2.1 + 1
  | [] => 1
/-- Mesh time from the pavilion of program `k` to the pavilion of a channel's slots; 1 fc in the same pavilion (R95). -/
def landIn (s : State) (k key : Nat) : Nat :=
  match s.chanDecls (key / 256) (key % 256) with
  | x :: _ => max 1 (s.chanM k x.2.1)
  | [] => 1
/-- A reader consumes a slot: its read pointer advances, and the k-th reader's EMPTY is on its way. -/
def consumeSlot (s : State) (reader key slot due : Nat) : State :=
  let c := s.chan key
  let got := c.consumed.get [] slot ++ [reader]
  let s := s.setChan key { c with consumed := c.consumed.set [] slot got,
                                  rptr := c.rptr.set 0 reader ((c.rptr.get 0 reader + 1) % s.ringOf key) }
  if s.readersOf key ≤ got.length then
    match s.chanDecls (key / 256) (key % 256) with
    | x :: _ =>
      let pl := s.chanPlace (key / 256) x.2.1 slot
      let fl : Flight := ⟨key, slot, pl.key, pl.n, s.tagOf pl.key, due⟩
      { s with par := { s.par with credits := s.par.credits ++ [fl] } }
    | [] => s
  else s
/-- A producer's token is on its way (R95), for the step it commits. -/
def produceSlot (s : State) (key slot bank n step due : Nat) : State :=
  let c := s.chan key
  let fl : Flight := ⟨key, slot, bank, n, s.tagOf bank, due⟩
  let s := s.setChan key { c with wptr := (c.wptr + 1) % s.ringOf key, steps := c.steps.set 0 slot step }
  { s with par := { s.par with tokens := s.par.tokens ++ [fl] } }
/-- Whether the tag that a command sampled of a bank or segment still holds. -/
def tagHolds (s : State) (tags : List (Nat × Nat)) (b : Nat) : Bool :=
  match tags.find? (fun t => t.1 == b) with
  | some t => t.2 == s.tagOf b
  | none => true
/-- Publish the writes of a result: banks and segments by tag, LPDDR by context generation; a conductor's record goes to the
plot record ring (R136). The spec gives the scale header of R118 no layout: it is held beside memory, and the 64 bytes where it stands
keep what they held. [log entry 261 DESIGN CHOICE] -/
def publish (s : State) (k : Nat) (c : Cmd) : State :=
  let cx := s.plotCtx (keyPlot k)
  let smp := opc (word c.words 0) = 0x62 ∨ (opc (word c.words 0) = 0x7A ∧ bit (word c.words 0) 53 = true)
  if smp then
    match c.res.writes with
    | (_, bs) :: _ =>
      if isCond k then s.plotRecord (keyPlot k) c.cgen bs
      else s.ctxDev cx c.cgen (tdAddr (s.td k (recTD (word c.words 0))) c.step) bs
    | [] => s
  else
    let s := c.res.writes.foldl (fun s x =>
      if pavBase ≤ x.1 then s.taggedPut c.tags x.1 x.2 else s.ctxDev cx c.cgen x.1 x.2) s
    c.res.hdrs.foldl (fun s x =>
      if s.tagHolds c.tags x.1 then
        { s with par := { s.par with hdr := s.par.hdr.set none x.1 (some x.2), mark := s.par.mark.set false x.1 true } }
      else s) s
/-- The record of an armed DIGEST, with the commit of the tensor (R141, R256). -/
def publishDigest (s : State) (k : Nat) (c : Cmd) : State :=
  match c.dig, c.res.hdrs with
  | some (td, tid), (b, h) :: _ =>
    let (a, _) := storeOf b
    let r := digestRec (s.readTen a h) (s.s2At h.s2tab) tid c.step
    s.ctxDev (s.plotCtx (keyPlot k)) c.cgen (tdAddr (s.td k td) c.step) r
  | _, _ => s
/-- Count the events of a committed command (R79). -/
def countArith (s : State) (k : Nat) (c : Cmd) : State :=
  match s.stagePhys (keyPlot k) (keyStage k), c.res.stats with
  | some p, [a96, miss, nonfin, wloss, aloss, sat] =>
    let s := (if sat = 0 then s else s.bump 0x0105 p sat)
    let s := ((s.addSat PAV_ARITH_CNT_A96SAT a96 p).addSat PAV_ARITH_CNT_MISS miss p).addSat PAV_ARITH_CNT_NONFIN nonfin p
    (s.addSat PAV_ARITH_LOSS_WLOSS wloss p).addSat PAV_ARITH_LOSS_ALOSS aloss p
  | _, _ => s
/-- The effects of a commit, in one fc. -/
def commitCmd (s : State) (k : Nat) (c : Cmd) : State :=
  let now := s.fc
  let s := (s.publish k c).publishDigest k c
  let s := match c.outp with
    | some (i, h) => s.setProg k { s.prog k with active := (s.prog k).active.set 0 i h, pairAt := (s.prog k).pairAt.set 0 i (now + 1) }
    | none => s
  let s := match c.outc with
    | some (key, slot, b, n) => if s.tagHolds c.tags b then s.produceSlot key slot b n c.step (now + s.landIn k key) else s
    | none => s
  let s := c.ins.foldl (fun s x => s.consumeSlot k x.1 x.2 (now + s.landIn k x.1)) s
  let s := c.segIn.foldl (fun s n => s.setFull (segKey n) false) s
  let s := c.segOut.foldl (fun s n => if s.tagHolds c.tags (segKey n) then s.setFull (segKey n) true else s) s
  let s := s.countArith k c
  let s := if isWin (opc (word c.words 0)) then s.showLbuf k [] else s
  let s := s.setProg k { s.prog k with cmds := (s.prog k).cmds.filter (fun e => e.seq != c.seq) }
  let s := s.setPlot (keyPlot k) { s.plot (keyPlot k) with beats := (s.plot (keyPlot k)).beats + 1, stallAt := s.tick }
  s.trace 2 3 (keyPlot k) (keyStage k * 2 ^ 24 + c.step % 2 ^ 24)
/-- The command that may commit (R91, R92): the oldest of the program, finished, no earlier than its duration after its fire. -/
def commitReady (s : State) (k : Nat) : Option Cmd :=
  match (s.prog k).cmds with
  | c :: _ => if c.phase = .finished ∧ c.due ≤ s.fc ∧ s.ctxActive (s.plotCtx (keyPlot k)) then some c else none
  | [] => none
/-- Remote readers' number among a channel's readers: 200000 + chip. -/
def remoteReader (chip : Nat) : Nat := 200000 + chip
/-- The slot just landed is consumed at once for remote readers whose acknowledgement has come or is taken as given: those
that gave it up before the commit, and lost chips (R306). -/
def landGiven (s : State) (f : Flight) : State :=
  let step := (s.chan f.chan).steps.get 0 f.slot
  let early := (s.zhl.early.filter (fun e => e.1 == f.chan && e.2.1 == step)).map (fun e => e.2.2)
  let lost := (s.zhl.readers.filter (fun r => r.1 == f.chan && bit s.zhl.lost r.2)).map (fun r => remoteReader r.2)
  let gone := lost.filter (fun r => !early.contains r)
  let s := gone.foldl (fun (s : State) _ => (s.bump 0x0809).addSat ZHL_GRP_CNT_ABANDON 1) s
  (early ++ gone).foldl (fun s r => s.consumeSlot r f.chan f.slot (s.fc + meshBel)) s
/-- A token lands in its slot's banks (R95); a wipe in between has dropped it (R22). -/
def landToken (s : State) (f : Flight) : State :=
  let s := { s with par := { s.par with tokens := s.par.tokens.filter (fun g => g != f) } }
  if s.tagOf f.bank = f.tag then
    let s := (List.range f.n).foldl (fun s i => s.setFull (f.bank + i) true) s
    let c := s.chan f.chan
    (s.setChan f.chan { c with tokAt := c.tokAt.set 0 f.slot f.due, consumed := c.consumed.erase f.slot }).landGiven f
  else s.staleTag
/-- A credit lands in its slot's banks (R95). -/
def landCredit (s : State) (f : Flight) : State :=
  let s := { s with par := { s.par with credits := s.par.credits.filter (fun g => g != f) } }
  if s.tagOf f.bank = f.tag then
    let s := (List.range f.n).foldl (fun s i => s.setFull (f.bank + i) false) s
    let c := s.chan f.chan
    s.setChan f.chan { c with credAt := c.credAt.set 0 f.slot f.due }
  else s.staleTag
/-- The flight to a slot that is due. -/
def flightDue (s : State) (fs : List Flight) (key slot : Nat) : Option Flight :=
  fs.find? (fun f => f.chan == key && f.slot == slot && decide (f.due ≤ s.fc))
end State
end Sys2Proof.Machine
end

