-- ==== Sys2Proof/Machine/Stream.lean ====
section
/-! DEFINITION. Stream pacers (R198-R214): enabling, inputs, band positions, latching and selection, posts, the fallback chain
and the hold buffer. -/
namespace Sys2Proof.Machine
open Sys2Proof
namespace State
def head (s : State) (n : Nat) : Head := s.bst.get {} n
def setHead (s : State) (n : Nat) (h : Head) : State := { s with bst := s.bst.set {} n h }
/-- Head states: 0 OFF, 1 STARTING, 2 ON, 3 STOPPING. -/
def headState (s : State) (n : Nat) : Nat := s.fld BST_HCTRL_STATE n
/-- The settings of head `n` in force for band positions: its active set, or the registers while it is OFF (R203). -/
def lcVactive (s : State) (n : Nat) : Nat := if s.headState n = 0 then s.fld BST_VTIM_VACTIVE n else (s.head n).cfg.vactive
/-- [log entry 134 DEDUCED] -/
def lcLead (s : State) (n : Nat) : Nat := if s.headState n = 0 then s.fld BST_LEAD_LEAD n else (s.head n).cfg.lead
def lcFetch (s : State) (n : Nat) : Nat := if s.headState n = 0 then s.fld BST_LEAD_FETCH n else (s.head n).cfg.fetch
/-- The settings of head `h` for frame `f`: those the frame in progress is scanned with, or those in force for frames to come (R223). -/
def setFor (h : Head) (f : Nat) : HeadSet := if h.running && h.frame == f then h.scan else h.cfg
/-- The heads a stream binds. -/
def strmHeads (st : Strm) : List Nat := (List.range 4).filter (fun n => bit st.heads n)

/-! Band positions (R203). -/

/-- Position of line `x` of frame `f` on line clock `n`, pixel 0; a negative line lies in the frame before, or in one before that, which
under variable blanking counts as ended at VT_MIN. -/
def linePos (s : State) (n f : Nat) (x : Int) : Nat × Nat × Nat :=
  if 0 ≤ x then (f, x.toNat, 0)
  else
    let vt := max 1 (if s.headPaced n then (s.scanSet n).vtmin else (s.lclock n).vtotal)
    let k := cdiv x.natAbs vt
    ((f + 2 ^ 32 - k % 2 ^ 32) % 2 ^ 32, (x + (k * vt : Nat)).toNat, 0)
/-- Bands of a frame. -/
def nBands (s : State) (lc bh : Nat) : Nat := cdiv (s.lcVactive lc) (max 1 bh)
/-- Fetch, due and latch lines of band `b` for head `n` (R203). -/
def fetchLine (s : State) (n bh b : Nat) : Int := (b * bh : Nat) - (s.lcFetch n : Int)
def dueLine (s : State) (n bh b : Nat) : Int := s.fetchLine n bh b - (s.lcLead n : Int)
def latchLine (s : State) (st : Strm) (b : Nat) : Int := s.dueLine st.lc st.bh b - (st.latch : Int)
/-- Whether line clock `n` is at or past a position. -/
def reached (s : State) (n : Nat) (p : Nat × Nat × Nat) : Bool := (s.lclock n).live && posReached (s.lcPos n) p
/-- τ_b, in 1/16 ns of LC's base, rounded toward negative: a frame not yet started is counted as one whose forerunners end at VT_MIN where
blanking is variable (R203). -/
def bandTime (s : State) (st : Strm) (f b : Nat) : Int := (s.posTime st.lc (f, b * st.bh, 0)).floor

/-! Enabling (R199, Table 8.1). -/

/-- Whether warp unit `n` is reserved by a stream other than `i`. -/
def warpTaken (s : State) (i n : Nat) : Bool :=
  (List.range 16).any (fun j => j != i && s.strmState j != 0 && (s.strm j).fb && bit (s.strm j).heads n)
/-- The code of the first check that fails, none when all pass. -/
def strmCheck (s : State) (i : Nat) : Option Nat :=
  let heads := (List.range 4).filter (fun n => bit (s.fld PLT_STRM_CFG_HEADS i) n)
  let lc := s.fld PLT_STRM_CFG_LC i
  let c := s.lclock lc
  let bh := 32 * 2 ^ s.fld PLT_STRM_BAND_BH i
  let plots := s.fld PLT_STRM_BIND_PLOTA i :: (if s.on PLT_STRM_BIND_BV i then [s.fld PLT_STRM_BIND_PLOTB i] else [])
  let fb := s.on PLT_STRM_CFG_FB i
  let same := fun n => let d := s.lclock n
    d.mode == c.mode && d.base == c.base && d.num == c.num && d.den == c.den && d.htotal == c.htotal && d.vtotal == c.vtotal
  if s.fld PLT_STRM_CFG_MODE i = 3 ∨ 4 < s.fld PLT_STRM_CFG_FACTOR i ∨ s.fld PLT_STRM_BAND_BH i = 3
      ∨ ¬ s.on PLT_STRM_BIND_AV i ∨ s.fld PLT_STRM_IN_ISLOTS i < 2 then some 0x058C
  else if 0x60000000 < s.fld PLT_STRM_ISTR_ISTRIDE i * 64 ∨ plots.any (fun p => 0x3FFF0000 < s.fld PLT_POST_RING_STRIDE p * 64) then some 0x058C
  else if ¬ heads.all same ∨ (¬ heads.isEmpty ∧ ¬ heads.contains lc) then some 0x058C
  else if heads.isEmpty ∧ fb then some 0x058C
  else if fb ∧ heads.any (fun n =>
      let t := cbFc (600 + cdiv ((if s.headState n = 0 then s.fld BST_HTIM_HACTIVE n else (s.head n).cfg.hactive) * bh) 4)
      s.warpTaken i n || decide ((s.fld PLT_STRM_BAND_LATCH i : Rat) * c.line / 16 * 11 / 10 < ((t + 64 : Nat) : Rat))) then some 0x058D
  else none
/-- STARTING (R199): the checks, then the binding fields and the settings are sampled; the stream waits for a frame start. -/
def strmStart (s : State) (i : Fin 16) : State :=
  match s.strmCheck i with
  | some c => ((s.setFld PLT_STRM_STAT_FAULT c i).startDone (.stream i) false).showFree i
  | none =>
    let old := s.strm i
    let st : Strm :=
      { owner := s.fld PLT_STRM_BIND_OWNER i, plotA := s.fld PLT_STRM_BIND_PLOTA i, plotB := s.fld PLT_STRM_BIND_PLOTB i,
        bv := s.on PLT_STRM_BIND_BV i, ibase := s.fld PLT_STRM_IN_IBASE i * 64, nslots := s.fld PLT_STRM_IN_ISLOTS i + 1,
        istride := s.fld PLT_STRM_ISTR_ISTRIDE i * 64, heads := s.fld PLT_STRM_CFG_HEADS i, lc := s.fld PLT_STRM_CFG_LC i,
        alvl := s.fld PLT_STRM_CFG_ALVL i, bh := 32 * 2 ^ s.fld PLT_STRM_BAND_BH i, fb := s.on PLT_STRM_CFG_FB i,
        latch := s.fld PLT_STRM_BAND_LATCH i, fbimg := s.fld PLT_STRM_BAND_FBIMG i, fbpset := s.fld PLT_STRM_BAND_FBPSET i,
        mode := s.fld PLT_STRM_CFG_MODE i, factor := s.fld PLT_STRM_CFG_FACTOR i, fbneg := s.on PLT_STRM_CFG_FBNEG i,
        fblag := s.fld PLT_STRM_CFG_FBLAG i, xlimit := s.fld PLT_STRM_XLIM_XLIMIT i, idelay := s.fld PLT_STRM_IDLY_IDELAY i,
        lastStamp := old.lastStamp, lastSeq := old.lastSeq, hold := old.hold, logIdx := old.logIdx, reads := old.reads }
    ((s.setStrm i st).setFld PLT_STRM_STAT_FAULT 0 i).showFree i
/-- The first frame whose band-0 latch has not passed, from frame `f` on. -/
def firstLatch (s : State) (st : Strm) : Nat → Nat → Nat
  | 0, f => f
  | n + 1, f => if s.reached st.lc (s.linePos st.lc f (s.latchLine st 0)) then s.firstLatch st n ((f + 1) % 2 ^ 32) else f
/-- The running line clock of head `m` takes the frames of line clock `lc` (R238): its frame is that of the nearest start there, and it
realigns by the difference under R39. [log entry 273 DESIGN CHOICE] -/
def lcJoin (s : State) (lc m : Nat) : State :=
  let a := s.lclock lc; let c := s.lclock m
  if m = lc ∨ ¬ a.live ∨ ¬ c.live ∨ c.mode = 3 ∨ s.headPaced m = true then s
  else
    let k := ((c.start - a.start) / a.period + 1 / 2).floor
    s.putLclock m { c with frame := ((a.frame : Int) + k).emod (2 ^ 32) |>.toNat, pend := a.start + (k : Rat) * a.period - c.start }.plan
/-- Enter ON (R199, R204, R238): the heads' clocks take the frames of LC, and PLT_STEP of both plots is the base of their frames' steps. -/
def strmOn (s : State) (i : Fin 16) : State :=
  let st := s.strm i
  let s := (strmHeads st).foldl (fun s m => s.lcJoin st.lc m) s
  let f := s.firstLatch st 8 (s.lclock st.lc).frame
  let s := s.setStrm i { st with nextF := f, nextB := 0, baseA := s.fld PLT_STEP_STEP st.plotA, baseB := s.fld PLT_STEP_STEP st.plotB }
  s.startDone (.stream i) true
/-- The state that a stream keeps in OFF: the hold buffer, the last stamp and SEQ, the log's place. -/
def strmClear (s : State) (i : Nat) : State :=
  let st := s.strm i
  s.setStrm i { lastStamp := st.lastStamp, lastSeq := st.lastSeq, hold := st.hold, logIdx := st.logIdx, reads := st.reads }
def strmWork (x : State × SwWork) (i : Fin 16) : State :=
  match x.2 with
  | .start => x.1.strmStart i
  | .stop => x.1.strmStop i
  | .none => x.1
/-- Every band of the frame in progress signalled, every selection retired, every fallback request done (R199). -/
def strmQuiet (s : State) (i : Nat) : Bool :=
  let st := s.strm i
  let mine := fun (r : BelReq) => match r.pacer with | some (n, _, _) => n == i | none => false
  (st.nextB == 0 || !st.live || st.stopFrame != some st.nextF) && st.sels.all (fun x => x.retired)
    && !s.bel.wait.any (fun w => mine w.req)
    && s.bel.eng.all (fun e => !e.2.queue.any mine && (match e.2.cur with | some r => !mine r | none => true))
/-- A stream that a frame start of line clock `lc` turns ON (R199). -/
def strmFrame (s : State) (lc : Nat) : State :=
  (List.finRange 16).foldl (fun s (i : Fin 16) =>
    if s.strmState i = 1 ∧ (s.strm i).lc = lc then s.strmOn i else s) s

/-! Slots and inputs (R200-R202). -/

/-- A plot has passed the drain point of step `k` (R202): the selections that step served retire. -/
def strmDrain (s : State) (p k : Nat) : State :=
  let s := { s with str := s.str.map (fun (x : Nat × Strm) => (x.1, { x.2 with sels := x.2.sels.map (fun (y : Sel) =>
    if y.plot = p ∧ y.step = k % 2 ^ 32 then { y with retired := true } else y) })) }
  (s.str.map (fun (x : Nat × Strm) => x.1)).foldl strmFree s
/-! Selection (R204, R205). -/

/-- The inputs a mode selects for presentation time `tau`: SLOT0, SLOT1, and whether INTERP fell back. -/
def choose (st : Strm) (ins : List Input) (tau : Int) (b : Nat) : Option Input × Option Input × Bool :=
  match st.mode with
  | 1 =>
    let t := tau - st.idelay * 16
    let kept := ins.filter (fun x => x.held)
    match ins with
    | [] => (none, none, false)
    | n :: _ =>
      if n.stamp < t then (some n, none, true)
      else if n.stamp = t then (some n, none, false)
      else match kept.zip (kept.drop 1) |>.find? (fun p => decide (p.2.stamp ≤ t)) with
        | some p => (some p.2, some p.1, false)
        | none => match kept.reverse with
          | o :: o2 :: _ => (some o, some o2, false)
          | o :: [] => (some o, none, false)
          | [] => (some n, none, false)
  | 0 =>
    if b = 0 then (ins.head?, none, false)
    else match st.sels with
      | x :: _ => ((ins.find? (fun y => y.stamp == x.stamp)), none, false)
      | [] => (ins.head?, none, false)
  | _ => (ins.head?, none, false)
/-- The stamp of the input accepted before `x`. -/
def before (ins : List Input) (x : Input) : Option Input := ((ins.dropWhile (fun y => y != x)).drop 1).head?
/-- Append a record to the selection log (R206). [log entry 138 DEDUCED] -/
def logSel (s : State) (i : Nat) (x : Sel) : State :=
  let st := s.strm i
  let sz := s.fld PLT_STRM_LOG_SIZE i * 4096
  let s := s.setStrm i { st with logIdx := st.logIdx + 1 }
  if sz = 0 then s else s.ctxPut st.owner (s.cgen st.owner) (s.fld PLT_STRM_LOG_BASE i * 64 + st.logIdx * 64 % sz) (selBytes x)
/-- Signal the plot of a band (R204). -/
def pacerSignal (s : State) (i : Nat) (onA : Bool) (fb : Nat × Nat) : State :=
  let st := s.strm i
  let s := s.setStrm i (if onA then { st with sigsA := st.sigsA ++ [fb] } else { st with sigsB := st.sigsB ++ [fb] })
  s.signalHw (Config.pacerWicket i (if onA then 0 else 1) % 131072) st.owner 1
/-- Take the shadowed settings at a band-0 latch (R211); an unassigned MODE or FACTOR keeps the old one. -/
def takeShadows (s : State) (i : Nat) : Strm :=
  let st := s.strm i
  let m := s.fld PLT_STRM_CFG_MODE i; let f := s.fld PLT_STRM_CFG_FACTOR i
  { st with mode := if m = 3 then st.mode else m, factor := if 4 < f then st.factor else f,
            fbneg := s.on PLT_STRM_CFG_FBNEG i, fblag := s.fld PLT_STRM_CFG_FBLAG i,
            xlimit := s.fld PLT_STRM_XLIM_XLIMIT i, idelay := s.fld PLT_STRM_IDLY_IDELAY i }
/-- V of a fallback band (R209). Where no flow period exists (the input or the one before it was never accepted) the spec
states no value: a free one, a function of the stream's factor, sign, Δt and the step value. [log entry 136 DEDUCED] -/
def fallbackV (st : Strm) (tau tau0 : Int) (seq : Nat) : Nat :=
  let open_ := (Config.openVscale st.factor st.fbneg (tau - tau0) seq).toNat
  match st.inputs.find? (fun x => x.seq == seq) with
  | some x => match before st.inputs x with
    | some y =>
      let num := (if st.fbneg then -1 else 1) * 4096 * ([2, 3, 4, 6, 8].getD st.factor 2 : Int) * (tau - tau0)
      ofSigned 16 (sat (rneQ num (2 * (x.stamp - y.stamp)).toNat) (-32768) 32767)
    | none => open_
  | none => open_
/-- The fallback requests of a latched band (R209) for heads `hs`: one WARP per head, unless the band is OVERLIMIT or NOHOLD. A
request that fails a check of R175 is not queued. -/
def fallbackOn (s : State) (i : Nat) (x : Sel) (hs : List Nat) : State :=
  let st := s.strm i
  match st.hold with
  | none => s
  | some (_, _, tau0) =>
    if ¬ st.fb ∨ bit x.flags 3 then s
    else hs.foldl (fun s n =>
      let seq := (x.seq0 + 2 ^ 32 - st.fblag) % 2 ^ 32
      let v := fallbackV st x.tau tau0 seq
      let im := fun d => s.placeImg 0 seq (s.sampleImg (d % 256))
      let a := im (st.fbimg + 3 * n); let b := im (st.fbimg + 3 * n + 1)
      let o0 := im (st.fbimg + 3 * n + 2)
      let o := { o0 with w3 := setBits o0.w3 24 16 st.bh }
      let ps := setBits (s.rd .BEL_WPSET st.fbpset) 16 16 v
      let row0 := x.band * st.bh
      if ¬ belKindOk 2 a b o ∨ [a, b, o].any (fun g => g.owner != st.owner) ∨ ¬ belFmtOk 2 a b o ∨ ¬ belSizeOk 2 ps a b o row0
          ∨ ¬ belParamOk 2 ps a b o 0 ∨ belOverlap a o ∨ belOverlap b o then s
      else
        let bd := o.band row0
        let r : BelReq :=
          { eng := 3 + n, op := 2, a := a, b := b, o := o, pset := ps, vth := 0, prog := 0, plot := 0, ctx := st.owner,
            cgen := s.cgen st.owner, gen := 0, step := seq, idx := [], wdone := 0, row0 := bd.1, rows := bd.2,
            tags := o.keys.map (fun k => (k, s.tagOf k)), pacer := some (i, x.frame, x.band) }
        { s with bel := { s.bel with wait := s.bel.wait ++ [⟨n, s.fc + meshBel + 8, r⟩] } }) s
/-- Those requests for every head of the stream. -/
def fallback (s : State) (i : Nat) (x : Sel) : State := s.fallbackOn i x (strmHeads (s.strm i))
/-- Keep what selections may still be read: those not retired, and those at most nine frames older than the newest. -/
def keepSels (xs : List Sel) : List Sel :=
  match xs with
  | [] => []
  | n :: _ => xs.filter (fun x => !x.retired || serialGe 32 (x.frame + 16) n.frame)
/-- The selection of a band from the available inputs, with the stream's state after it. -/
def select (s : State) (i : Nat) (st : Strm) (f b : Nat) (ins : List Input) (tau : Int) : Option (Sel × Strm) :=
  let (x0, x1, xf) := choose st ins tau b
  match x0 with
  | none => none
  | some x =>
    let fresh := if b = 0 then !x.used0 else st.fresh
    let onA := if b = 0 then (st.mode = 0 ∨ ¬ st.bv ∨ fresh = true : Bool) else st.onA
    let sentA := if b = 0 ∧ onA then st.sentA + 1 else st.sentA
    let sentB := if b = 0 ∧ ¬ onA then st.sentB + 1 else st.sentB
    let phase := tau - x.stamp - (if st.mode = 1 then ((st.idelay * 16 : Nat) : Int) else 0)
    let ovr := decide ((st.xlimit * 16 : Nat) < phase)
    let repeated := decide (st.mode = 0) && (match st.sels.find? (fun y => y.frame != f) with
      | some y => y.stamp == x.stamp | none => false)
    let span : Int := match x1 with
      | some y => y.stamp - x.stamp
      | none => match before st.inputs x with | some y => x.stamp - y.stamp | none => 0
    let fl := b2n fresh + 2 * b2n (!x.usedAny) + 4 * b2n xf + 8 * b2n ovr + 16 * b2n repeated + 32 * b2n st.hold.isNone
    let sel : Sel :=
      { frame := f, band := b, flags := fl, slot0 := x.slot, slot1 := match x1 with | some y => y.slot | none => 0xFFFF,
        seq0 := x.seq, phase := phase, span := span, hold := match st.hold with | some h => h.1 | none => 0,
        holdLen := match st.hold with | some h => h.2.1 | none => 0, tau := tau,
        step := (if onA then st.baseA + sentA - 1 else st.baseB + sentB - 1) % 2 ^ 32,
        plot := if onA then st.plotA else st.plotB, retired := false, stamp := x.stamp }
    some (sel, { st with
      inputs := st.inputs.map (fun y => if y = x then { y with used0 := y.used0 || b == 0, usedAny := true } else y),
      sels := keepSels (sel :: st.sels), live := true, fresh := fresh, onA := onA, sentA := sentA, sentB := sentB, ovr := ovr })
/-- BAND_LATCH of a headed stream (R204, R205, R209): the next band's latch line is reached. -/
def bandLatch (s : State) (i : Nat) : State :=
  let st := s.strm i
  let f := st.nextF; let b := st.nextB
  let stopped := st.stopFrame.isSome && (b == 0 || st.stopFrame != some f)
  if st.heads = 0 ∨ stopped ∨ s.fnBrief (.stream (Fin.ofNat 16 i)) ∨ ¬ s.reached st.lc (s.linePos st.lc f (s.latchLine st b)) then s
  else
    let st := if b = 0 then s.takeShadows i else st
    let ins := st.inputs.filter (fun x => decide (x.accepted < s.tick))
    let next := fun (st : Strm) => if b + 1 < s.nBands st.lc st.bh ∧ st.live = true then { st with nextB := b + 1 }
      else { st with nextF := (f + 1) % 2 ^ 32, nextB := 0 }
    match s.select i st f b ins (s.bandTime st f b) with
    | none => s.setStrm i (next st)
    | some (x, st2) =>
      let first := bit x.flags 3 && !st.ovr
      let s := s.setStrm i (next st2)
      let s := if bit x.flags 2 then s.addSat PLT_STRM_CNT2_XFALL 1 i else s
      let s := if bit x.flags 3 then s.addSat PLT_STRM_CNT_OVERLIM 1 i else s
      let s := if first then s.alarm (0x20 + i) 0x0588 else s
      let s := s.logSel i x
      let s := if st2.mute = some f then s else s.pacerSignal i st2.onA (f, b)
      let s := s.fallback i x
      (s.windowServe i).trace 1 0 i (f % 2 ^ 24 * 256 + b)
/-- HEADLESS_SIGNAL (R214): the oldest accepted input not yet signalled: one selection, FRAME its SEQ. [log entry 140 DEDUCED] -/
def headlessSignal (s : State) (i : Nat) : State :=
  let st := s.strm i
  if st.heads ≠ 0 ∨ s.fnBrief (.stream (Fin.ofNat 16 i)) then s
  else match st.inputs.reverse.find? (fun x => !x.used0) with
  | none => s
  | some x =>
    let st := s.takeShadows i
    let tau : Int := s.tb16 (s.lclock st.lc).base
    match s.select i { st with mode := 2 } x.seq 0 (st.inputs.dropWhile (fun y => y != x)) tau with
    | none => s
    | some (y, st2) =>
      let s := s.setStrm i { st2 with mode := st.mode }
      let s := s.logSel i y
      (s.pacerSignal i true (x.seq, 0)).windowServe i

/-! Posts (R207, R208, R218). -/

/-- The stream that a head follows (R218). -/
def follows (s : State) (n : Nat) : Option Nat :=
  (List.range 16).find? (fun i => s.strmState i != 0 && bit (s.strm i).heads n)
/-- Bytes of a stride in 64-byte units. -/
def postAddr (s : State) (p step : Nat) : Nat :=
  stepAddr (s.fld PLT_POST_BASE p * 64) (s.fld PLT_POST_RING_STRIDE p * 64) (s.fld PLT_POST_RING_RING p) (s.fld PLT_POST_RING_STEP_OFS p) step
/-- The heads that a post goes to: all of its stream's, or the one head of a fallback layer (R207, R209). -/
def postHeads (st : Strm) (q : Post) : List Nat := if 2 ≤ q.layer then [q.layer - 2] else strmHeads st
/-- Record a post, and count it FOREIGN on every head it goes to that follows another stream (R218), unless held (R219). -/
def recordPost (s : State) (i : Nat) (q : Post) : State :=
  let st := s.strm i
  let s := s.setStrm i { st with posts := (q :: st.posts).filter (fun x => serialGe 32 (x.frame + 4) q.frame) }
  let s := (postHeads st q).foldl (fun s n =>
    if s.follows n ≠ some i ∧ s.headState n = 2 ∧ ¬ s.on BST_HSTAT_HOLDMODE n then s.addSat BST_HCNT_FOREIGN 1 n else s) s
  s.trace 1 1 i (q.frame % 2 ^ 24 * 256 + q.band)
/-- The post of a band that a later plot number made earlier in this same tick, which the post of plot `p` goes before (R207). -/
def postAfter (st : Strm) (tick p layer f b : Nat) : Option Post :=
  st.posts.find? (fun q => q.layer == layer && q.frame == f && q.band == b && q.tick == tick && decide (p < q.plot))
/-- The COMMIT of a posting span of plot `p` posts band `b` of frame `f` (R207, Table 8.6). Posts of one tick count in plot-number order: a
post of a lower plot number stands, and that of the higher is the duplicate. -/
def bandPost (s : State) (p : Nat) (fb : Nat × Nat) : State :=
  let i := s.fld PLT_POST_STREAM p
  let st := s.strm i
  let (f, b) := fb
  let layer := if s.on PLT_POST_LAYER p then 1 else 0
  let buf := s.postAddr p (s.prog (condKey p)).step
  let ovr := match st.sels.find? (fun x => x.frame == f && x.band == b) with | some x => bit x.flags 3 | none => false
  if ovr then s.addSat PLT_POST_CNT_VOID 1 p
  else if ¬ (s.lclock st.lc).live ∨ s.reached st.lc (s.linePos st.lc f (s.dueLine st.lc st.bh b)) then s.addSat PLT_POST_CNT_LATE 1 p
  else if (match st.hold with | some h => h.1 == buf | none => false) = true ∧ (postAfter st s.tick p layer f b).isSome = true then
    s.addSat PLT_POST_CNT_HOLD 1 p
  else match postAfter st s.tick p layer f b with
  | some q =>
    (s.setStrm i { st with posts := st.posts.map (fun x => if x = q then ⟨layer, f, b, buf, s.tick, s.fld PLT_POST_RING_STRIDE p * 64, p⟩ else x) }).addSat
      PLT_POST_CNT_DUP 1 q.plot
  | none =>
    if st.posts.any (fun q => q.layer == layer && q.frame == f && q.band == b) then s.addSat PLT_POST_CNT_DUP 1 p
    else if (match st.hold with | some h => h.1 == buf | none => false) then s.addSat PLT_POST_CNT_HOLD 1 p
    else s.recordPost i ⟨layer, f, b, buf, s.tick, s.fld PLT_POST_RING_STRIDE p * 64, p⟩
/-- A pacer's request has completed (R209): it posts its band to the fallback layer, or is late. [log entries 135 DEDUCED, 139 DEDUCED] -/
def fallbackPost (s : State) (r : BelReq) : State :=
  match r.pacer with
  | some (i, f, b) =>
    let st := s.strm i
    let n := r.eng - 3
    let s := if s.reached n (s.linePos n f (s.dueLine n st.bh b)) then s.bump 0x0584 i
      else s.recordPost i ⟨2 + n, f, b, r.o.addr, s.tick, 0, 32⟩
    s.strmFree i
  | none => s
/-- A generated layer was shown in every band of frame `f` on every head of a stream (R210). -/
def shownWhole (s : State) (st : Strm) (f : Nat) : Bool :=
  (strmHeads st).all (fun n =>
    let h := s.head n
    2 ≤ s.headState n && h.running && h.frame == f && !h.settle && !h.skip
      && (h.scan.layers.getD 0 {}).en && !s.on BST_HSTAT_HOLDMODE n
      && !h.off.any (fun o => o.frame == f && o.layer == 0)
      && (List.range (s.nBands st.lc st.bh)).all (fun b => h.taken.any (fun t => t.1 == 0 && t.2.1 == f && t.2.2.1 == b)))
/-- HOLD_PROMOTE (R210): at the end of the last active line of the frame. -/
def holdPromote (s : State) (i : Nat) : State :=
  let st := s.strm i
  let f := (s.lclock st.lc).frame
  let va := if (s.head st.lc).running then (s.head st.lc).scan.vactive else s.lcVactive st.lc
  if st.heads = 0 ∨ st.promF = some f ∨ ¬ s.reached st.lc (f, va, 0) then s
  else
    let s := s.setStrm i { st with promF := some f }
    if s.shownWhole st f then
      match st.posts.find? (fun q => q.layer == 0 && q.frame == f) with
      | some q =>
        let tau := match st.sels.find? (fun x => x.frame == f && x.band == 0) with | some x => x.tau | none => s.bandTime st f 0
        s.setStrm i { s.strm i with hold := some (q.buf, q.size, tau) }
      | none => s
    else s
end State
end Sys2Proof.Machine
end

