-- ==== Sys2Proof/Machine/Heads.lean ====
section
/-! DEFINITION. The Bandstand's heads (R217-R240): shadows and their checks, enabling, training, frame starts, posts, fetch,
underruns, composition, region push, Dusk, pin read-back. -/
namespace Sys2Proof.Machine
open Sys2Proof
/-- CRC-32 of R239: polynomial 0x04C1_1DB7 reflected. -/
def crc32Shift : Nat → Nat → Nat
  | 0, c => c
  | n + 1, c => crc32Shift n (if bit c 0 then (c / 2) ^^^ 0xEDB88320 else c / 2)
def crc32Step (c : Nat) (b : Byte) : Nat := crc32Shift 8 (c ^^^ b.toNat)
def crc32From (c : Nat) (bs : List Byte) : Nat := bs.foldl crc32Step c
def crc32 (bs : List Byte) : Nat := crc32From 0xFFFFFFFF bs ^^^ 0xFFFFFFFF
/-- Bytes per pixel of a layer format (Table 9.5). -/
def pixBytes (f : Nat) : Nat := match f with | 0 => 2 | 1 => 3 | _ => 4
/-- Whether a set drives DisplayPort, and whether it pushes regions; 0b11 is DisplayPort. -/
def HeadSet.dp (c : HeadSet) : Bool := c.output != 1
def HeadSet.push (c : HeadSet) : Bool := c.output == 1 || c.output == 2
/-- Lanes of the LANES code. -/
def HeadSet.nLanes (c : HeadSet) : Nat := 2 ^ c.lanes
/-- Payload capacity at 4 lanes, in units of 10 Mb/s (Table 9.2). -/
def rateCap (r : Nat) : Nat := [1728, 2592, 3762, 5079, 7525].getD r 0
/-- Bytes per pixel of layer `l` of a set. -/
def HeadSet.bpp (c : HeadSet) (l : Nat) : Nat := pixBytes (if l = 3 then c.ovfmt else c.basefmt)
/-- Columns and rows of regions (R233). -/
def HeadSet.cols (c : HeadSet) : Nat := cdiv c.hactive 64
def HeadSet.rows (c : HeadSet) : Nat := cdiv c.vactive 64
/-- Bytes of a pushed pixel. -/
def HeadSet.pushBpp (c : HeadSet) : Nat := if c.pushfmt = 0 then 3 else 4
namespace State

/-! Shadows (R220). -/

/-- The shadow set of head `n`, as its registers hold it. -/
def headShadows (s : State) (n : Nat) : HeadSet :=
  { output := if s.fld BST_HCTRL_OUTPUT n = 3 then 0 else s.fld BST_HCTRL_OUTPUT n, vrr := s.on BST_HCTRL_VRR n,
    hactive := s.fld BST_HTIM_HACTIVE n, htotal := s.fld BST_HTIM_HTOTAL n,
    vactive := s.fld BST_VTIM_VACTIVE n, vtotal := s.fld BST_VTIM_VTOTAL n,
    hss := s.fld BST_HSYNC_HSS n, hsw := s.fld BST_HSYNC_HSW n, hpol := s.fld BST_HSYNC_HPOL n,
    vss := s.fld BST_VSYNC_VSS n, vsw := s.fld BST_VSYNC_VSW n, vpol := s.fld BST_VSYNC_VPOL n,
    vtmin := s.fld BST_VRR_VT_MIN n, vtmax := s.fld BST_VRR_VT_MAX n,
    rate := s.fld BST_LINK_RATE n, lanes := s.fld BST_LINK_LANES n, bpc10 := s.on BST_LINK_BPC10 n,
    color := if s.fld BST_LINK_COLORIMETRY n = 3 then 0 else s.fld BST_LINK_COLORIMETRY n,
    basefmt := s.fld BST_FMT_BASEFMT n, ovfmt := s.fld BST_FMT_OVFMT n, bg := s.rd .BST_BG n % 2 ^ 30,
    port := s.fld BST_PUSH_CFG_PORT n, pushfmt := s.fld BST_PUSH_CFG_PUSHFMT n, pktrows := min 6 (s.fld BST_PUSH_CFG_PKTROWS n),
    pbase := s.fld BST_PUSH_CFG_PBASE n, canvas := s.fld BST_PUSH_CFG_CANVAS n,
    rxbase := s.fld BST_PUSH_ORG_RXBASE n, rybase := s.fld BST_PUSH_ORG_RYBASE n, dst := s.fld BST_PUSH_DST_ADDR n,
    dport := s.fld BST_PUSH_UDP_DPORT n, sport := s.fld BST_PUSH_UDP_SPORT n,
    refresh := s.fld BST_PUSH_REFR_REFRESH n, dscp := s.fld BST_PUSH_REFR_DSCP n, stage := s.fld BST_PUSH_STAGE_BASE n * 64,
    layers := (List.range 4).map (fun l =>
      { en := s.on BST_LYR_CFG_EN n l, stat := s.on BST_LYR_CFG_STATIC n l && (l == 2 || l == 3),
        offset := s.fld BST_LYR_FETCH_OFFSET n l, pitch := s.fld BST_LYR_FETCH_PITCH n l, addr := s.fld BST_LYR_ADDR_ADDR n l * 64 }),
    lead := s.fld BST_LEAD_LEAD n, fetch := s.fld BST_LEAD_FETCH n }
/-- The first failing check of Table 9.1 for a set with the line clock shadows; 0 when all pass. A RATE or LANES that is not assigned
is left to check 0x08. [log entry 149 DEDUCED] -/
def headCheck (s : State) (n : Nat) (c : HeadSet) : Nat :=
  let num := max 1 (s.fld SDL_LC_RATE_NUM n); let den := max 1 (s.fld SDL_LC_RATE_DEN n)
  let pix := num * c.htotal * c.vtotal
  let bad8 := 4 < c.rate ∨ c.lanes = 3
  if ¬ (64 ≤ c.hactive ∧ c.hactive ≤ 7680 ∧ c.hactive % 4 = 0 ∧ 64 ≤ c.vactive ∧ c.vactive ≤ 4320
      ∧ c.hactive + 80 ≤ c.htotal ∧ c.vactive + 8 ≤ c.vtotal) then 1
  else if ¬ (c.hactive ≤ c.hss ∧ 1 ≤ c.hsw ∧ c.hss + c.hsw ≤ c.htotal
      ∧ c.vactive ≤ c.vss ∧ 1 ≤ c.vsw ∧ c.vss + c.vsw ≤ c.vtotal) then 2
  else if 2400000000 * den < pix then 3
  else if c.dp ∧ ¬ bad8 ∧ rateCap c.rate * 10000000 * c.nLanes * den < pix * (if c.bpc10 then 30 else 24) * 4 then 4
  else if c.vrr ∧ ¬ (c.vtotal ≤ c.vtmin ∧ c.vtmin ≤ c.vtmax ∧ s.fld SDL_LC_CFG_MODE n = 1) then 5
  else if (List.range 4).any (fun l =>
      let y := c.layers.getD l {}
      y.en && (y.offset % 64 != 0 || y.pitch % 64 != 0 || decide (y.pitch < c.hactive * c.bpp l))) then 6
  else if c.push ∧ s.fld ETH_PORT_CFG_MTU c.port < 60 + 2 ^ c.pktrows * min 64 c.hactive * c.pushBpp then 7
  else if bad8 then 8
  else 0
/-- A check has refused the set (R217, R220). -/
def commitRefused (s : State) (n r : Nat) : State :=
  ((s.raise BST_HSTAT_COMMIT_REFUSED n).setFld BST_HSTAT_REASON r n).alarm (0x14 + n) 0x0503

/-! Admission of the heads' fetch (R399, R400). -/

/-- RATE of head `n`: bytes per active line of its enabled layers over the line period, to the nearest 0.1 GB/s. [log entry 155 DEDUCED] -/
def headRate (s : State) (n : Nat) : Nat :=
  let c := (s.head n).cfg
  if s.headState n = 0 then 0
  else
    let bytes := (List.range 4).foldl (fun a l => if (c.layers.getD l {}).en then a + c.hactive * c.bpp l else a) 0
    let lc := s.lclock n
    let (a, b) := match lc.nextRate with | some r => (r.1, r.2.1) | none => (lc.num, lc.den)
    min 4095 ((bytes * a * c.vtotal + b * 50000000) / (b * 100000000))
/-- The admitted total in 0.1 GB/s. -/
def admitTotal (s : State) : Nat := (List.range 72).foldl (fun a i => a + s.fld ARC_RESV_RATE i) 0
/-- Show TOTAL, and clear OVER once the total is CAP or below. -/
def admitShow (s : State) : State :=
  let t := s.admitTotal
  let s := s.setFld ARC_ADMIT_TOTAL (min 4095 t)
  if t ≤ s.fld ARC_ADMIT_CAP then s.setFld ARC_ADMIT_OVER 0 else s
/-- The heads' RATEs after an enable or a commit of head `n`: above CAP it is taken all the same, and raised. -/
def admitHead (s : State) (n : Nat) : State :=
  let old := s.fld ARC_RESV_RATE (68 + n)
  let s := (s.setFld ARC_RESV_RATE (s.headRate n) (68 + n)).admitShow
  if old < s.fld ARC_RESV_RATE (68 + n) ∧ s.fld ARC_ADMIT_CAP < s.admitTotal then
    (s.setFld ARC_ADMIT_OVER 1).alarm 0x88 0x0C05
  else s

/-! Switching (R217, R222). -/

/-- Show a power domain that its function's EN switches (R405). [log entry 42 DEDUCED] -/
def ownDomain (s : State) (d : Nat) (on : Bool) : State :=
  (s.setFld PWR_DOM_CTRL_EN (b2n on) d).setFld PWR_DOM_CTRL_STATE (if on then 2 else 0) d
/-- SETTLE of BST_HSTAT: relock, training or a settle frame in progress. -/
def showSettle (s : State) (n : Nat) : State :=
  let h := s.head n
  s.setFld BST_HSTAT_SETTLE (b2n (s.headState n != 0 && (h.relock || h.training || h.settleDue || h.settle))) n
/-- Whether the head's line clock has begun a frame. -/
def lcFrameNo (s : State) (n : Nat) : Nat := (s.lclock n).frame
/-- Enter ON: the raster begins at the line clock's next frame start. -/
def headOn (s : State) (n : Fin 4) : State :=
  let f := if (s.lclock n).live then (s.lcFrameNo n + 1) % 2 ^ 32 else 0
  let h := s.head n
  let s := s.setHead n { h with running := false, dueF := f, dueB := 0, fetF := f, fetY := 0, settleDue := h.cfg.dp, relock := false }
  (s.startDone (.head n) true).showSettle n
/-- STARTING of a head (R41, R42, R217): checks, the shadows and the line clock's taken with what its bit of SDL_LC_APPLY asked for, the
domain on; a DisplayPort head trains. -/
def headStart (s : State) (n : Fin 4) : State :=
  let c := s.headShadows n
  let r := s.headCheck n c
  if r ≠ 0 then (s.commitRefused n r).startDone (.head n) false
  else
    let s := s.setHead n { hpd := (s.head n).hpd, seq := (s.head n).seq, cfg := c, training := c.dp }
    let s := s.setFld SDL_LC_APPLY_APPLY (setBits (s.fld SDL_LC_APPLY_APPLY) n 1 0)
    let s := ((s.setFld BST_HSTAT_REASON 0 n).lcApply n false).ownDomain (182 + n) true
    let s := (s.admitHead n).showSettle n
    if c.dp then s else s.headOn n
/-- The head is OFF: its domain is powered down. -/
def headOff (s : State) (n : Fin 4) : State :=
  let s := s.setHead n { hpd := (s.head n).hpd, seq := (s.head n).seq }
  let s := s.ownDomain (182 + n) false
  let s := s.setFld BST_COMMIT_COMMIT (setBits (s.fld BST_COMMIT_COMMIT) n 1 0)
  let s := ((s.setFld BST_HSTAT_LINKUP 0 n).setFld BST_HSTAT_DUSK 0 n).setFld BST_HSTAT_HOLDMODE 0 n
  let s := s.setFld ARC_RESV_RATE 0 (68 + n)
  s.admitShow.showSettle n
/-- The work that a write of a head's EN begins (R217). [log entry 144 DEDUCED] -/
def headWork (x : State × SwWork) (n : Fin 4) : State :=
  match x.2 with
  | .start => x.1.headStart n
  | _ => x.1
/-- A write of EN (R217, R222): cleared in STARTING, the head turns OFF at once. -/
def headEnable (s : State) (n : Fin 4) (en : Bool) : State :=
  if s.headState n = 1 ∧ en = false then ((s.setFnEn (.head n) false).setFnState (.head n) 0).headOff n
  else headWork (s.enWrite (.head n) en) n
/-- The head scans a frame: it is ON, or completes its frame in STOPPING (R217). -/
def scanning (s : State) (n : Nat) : Bool := s.headState n == 2 || (s.headState n == 3 && (s.head n).running)
/-- Work for frame `f` goes on: any in ON, the frame in progress in STOPPING. -/
def scansFrame (s : State) (n f : Nat) : Bool := s.headState n == 2 || (s.headState n == 3 && (s.head n).running && (s.head n).frame == f)
/-- STOPPING is complete: the frame and one idle frame period are over, or no frame will start (R217). -/
def headStopped (s : State) (n : Nat) : Bool :=
  let h := s.head n
  h.ovr || !(s.lclock n).live
/-- The link is down (R222). -/
def linkLost (s : State) (n : Nat) : State :=
  let h := s.head n
  let s := s.setHead n { h with linkDrop := true, failAt := none }
  (s.setFld BST_HSTAT_LINKUP 0 n).alarm (0x18 + n) 0x0504
/-- HPD_LOSS (R222): HPD falls, or the link drops out of training, after which it retrains at once. -/
def hpdLoss (s : State) (n : Nat) (pin : Bool) : State :=
  let h := s.head n
  let up := s.on BST_HSTAT_LINKUP n
  let s := s.setHead n { h with hpd := h.hpd && !pin, training := if up ∧ ¬ pin then true else h.training && !(pin && s.headState n == 2) }
  (if up then s.linkLost n else s).showSettle n
/-- HPD_RETURN (R222): the head retrains. -/
def hpdReturn (s : State) (n : Nat) : State :=
  let h := s.head n
  let again := (s.headState n == 2 || s.headState n == 1) && h.cfg.dp && !s.on BST_HSTAT_LINKUP n
  (s.setHead n { h with hpd := true, training := h.training || again, failAt := none }).showSettle n
/-- Whether a training attempt's result can come now: the first, or the one 100 ms after the last failure. -/
def trainDue (s : State) (n : Nat) : Bool :=
  let h := s.head n
  h.training && (s.headState n == 1 || s.headState n == 2)
    && (match h.failAt with | none => true | some t => decide (t + 100000 * usTicks ≤ s.tick))
/-- The result of a training attempt (R222); it cannot succeed while HPD is absent. [log entry 145 DESIGN CHOICE] -/
def trainResult (s : State) (n : Fin 4) (ok : Bool) : State :=
  let h := s.head n
  if ok ∧ h.hpd then
    let s := s.setHead n { h with training := false, failAt := none, outage := false, relock := false, settleDue := true }
    let s := s.setFld BST_HSTAT_LINKUP 1 n
    let s := if s.headState n = 1 then s.headOn n else s
    s.showSettle n
  else
    let s := s.setHead n { h with failAt := some s.tick, outage := true }
    if h.outage then s else (s.raise BST_HSTAT_TRAIN_FAIL n).alarm (0x1C + n) 0x0505

/-! Commits (R220, R223). -/

/-- BST_COMMIT bits written 1 (R217, R220): a head that is OFF clears its bit at once; another is armed for its next vertical
blanking, the next one if this one has begun. -/
def headCommit (s : State) (mask : Nat) : State :=
  (List.range 4).foldl (fun s n =>
    if bit mask n ∧ s.headState n ≠ 0 ∧ ¬ bit (s.fld BST_COMMIT_COMMIT) n then
      let f := s.lcFrameNo n
      let f := if s.reached n (f, (setFor (s.head n) f).vactive, 0) then (f + 1) % 2 ^ 32 else f
      (s.setHead n { s.head n with commitF := f }).setFld BST_COMMIT_COMMIT (setBits (s.fld BST_COMMIT_COMMIT) n 1 1)
    else s) s
/-- The line of head `n` at which an armed commit is taken is reached. -/
def commitDue (s : State) (n : Nat) : Bool :=
  bit (s.fld BST_COMMIT_COMMIT) n && (s.headState n == 2 || s.headState n == 3)
    && s.reached n ((s.head n).commitF, (setFor (s.head n) (s.head n).commitF).vactive, 0)
/-- COMMIT_TAKE (R220, R223, R224): the shadow set is refused, or taken by its class of Table 9.3; the frame in progress completes with the
settings it is scanned with. A new RATE or LANES retrains a link that is up; one that is down trains as R222 has it. REASON shows the
outcome of the last set checked. [log entries 147 DEDUCED, 148 DEDUCED, 161 DEDUCED] -/
def commitTake (s : State) (n : Nat) : State :=
  let h := s.head n
  let old := h.cfg
  let c := s.headShadows n
  let s := s.setFld BST_COMMIT_COMMIT (setBits (s.fld BST_COMMIT_COMMIT) n 1 0)
  let r := s.headCheck n c
  if r ≠ 0 then s.commitRefused n r
  else
    let lc := s.lclock n
    let num := max 1 (s.fld SDL_LC_RATE_NUM n); let den := max 1 (s.fld SDL_LC_RATE_DEN n)
    let link := c.rate ≠ old.rate ∨ c.lanes ≠ old.lanes
    let size := c.hactive ≠ old.hactive ∨ c.vactive ≠ old.vactive
    let mode := size ∨ num * c.htotal * c.vtotal * lc.den ≠ lc.num * old.htotal * old.vtotal * den
      ∨ c.bpc10 ≠ old.bpc10 ∨ c.color ≠ old.color ∨ c.output ≠ old.output
    let brk : Bool := c.dp && (decide (link ∨ mode))
    let train : Bool := c.dp && ((decide link && s.on BST_HSTAT_LINKUP n) || !old.dp)
    let s := (s.setFld BST_HSTAT_REASON 0 n).lcApply n false
    let s := s.setHead n { h with
      cfg := c, wake := true, relock := h.relock || brk, settleDue := h.settleDue || brk,
      training := (h.training || (train && h.hpd)) && c.dp, failAt := if train then none else h.failAt,
      sent := if size ∧ c.output = 1 then [] else h.sent }
    let s := if train ∨ ¬ c.dp then s.setFld BST_HSTAT_LINKUP 0 n else s
    (s.admitHead n).showSettle n

/-! Layers and their sources (R208, R218, R219, R227-R229). -/

/-- Whether frame `f` of head `n` shows no layers: a settle or skipped frame, by what is known of it. -/
def darkFrame (s : State) (n f : Nat) : Bool :=
  let h := s.head n
  if h.running && h.frame == f then h.settle || h.skip else h.settleDue || (h.relock && h.training)
/-- The post taken for a band of a layer. -/
def takenFor (h : Head) (l f b : Nat) : Option Nat :=
  (h.taken.find? (fun t => t.1 == l && t.2.1 == f && t.2.2.1 == b)).map (fun t => t.2.2.2)
/-- Lines of a band of head `n`: those of the stream it follows, 64 with none. [log entry 143 DEDUCED] -/
def headBh (s : State) (n : Nat) : Nat := match s.follows n with | some i => max 1 (s.strm i).bh | none => 64
/-- Whether the head is in hold mode. -/
def inHold (s : State) (n : Nat) : Bool := s.on BST_HSTAT_HOLDMODE n
/-- The image that a stream's fallback of head `n` writes. -/
def fbImg (s : State) (i n : Nat) : BelImg := s.sampleImg (((s.strm i).fbimg + 3 * n + 2) % 256)
/-- The layer could have posts: it is posted and its stream serves it (R208, R227). -/
def layerPosted (s : State) (n l : Nat) : Bool :=
  match s.follows n with
  | none => false
  | some i => l == 0 || (l == 1 && (s.strm i).fb && (s.fbImg i n).kind == 1) || (l == 3 && !((s.head n).cfg.layers.getD 3 {}).stat)
/-- Where the current hold layer lies (R227): its static address, or the stream's hold buffer. -/
def holdNow (s : State) (n : Nat) : Option Nat :=
  let y := (s.head n).cfg.layers.getD 2 {}
  if y.stat then some y.addr
  else match s.follows n with
  | some i => (s.strm i).hold.map (fun x => x.1)
  | none => none
/-- Address of line `y` of layer `l` in frame `f`, none where the layer has no source (R227). -/
def layerLine (s : State) (n f l y : Nat) : Option Nat :=
  let h := s.head n
  let c := (setFor h f).layers.getD l {}
  let b := y / s.headBh n
  let at_ := fun (a : Nat) => a + c.offset + y * c.pitch
  if ¬ c.en ∨ s.darkFrame n f then none
  else match l with
  | 0 => if s.inHold n then none else (takenFor h 0 f b).map at_
  | 1 => if s.inHold n then none
         else match s.follows n with
         | some i => (takenFor h 1 f b).map (fun a => a + y * (s.fbImg i n).pitch)
         | none => none
  | 2 => (if s.inHold n then h.holdSrc else s.holdNow n).map at_
  | _ => if c.stat then some (at_ c.addr) else (takenFor h 3 f b).map at_
/-- Whether layer `l` is off at line `y`, pixel `x` of frame `f` (R231). -/
def layerOff (h : Head) (l f y x : Nat) : Bool :=
  h.off.any (fun o => o.frame == f && o.layer == l && (decide (o.line < y) || (o.line == y && decide (o.pix ≤ x))))
/-- Whether a layer has gone off in a frame. -/
def wentOff (h : Head) (l f : Nat) : Bool := h.off.any (fun o => o.frame == f && o.layer == l)
/-- Layer `l` is on at a place of frame `f` (R208, R231). -/
def layerOn (s : State) (n f l y x : Nat) : Bool := (s.layerLine n f l y).isSome && !layerOff (s.head n) l f y x
/-- Whether layer `l` is on at the scan position, for BST_LYR_STAT.ON; 0 in blanking. -/
def layerOnNow (s : State) (n l : Nat) : Bool :=
  let h := s.head n
  let p := s.lcPos n
  h.running && h.frame == p.1 && decide (p.2.1 < h.scan.vactive) && decide (p.2.2 < h.scan.hactive) && s.layerOn n p.1 l p.2.1 p.2.2
/-- The band of a line of a head, by the bands of the stream it follows. [log entry 292 DEDUCED] -/
def headBand (s : State) (n y : Nat) : Nat := match s.follows n with | some i => y / (s.strm i).bh | none => 0
/-- Switch a layer off from a place of frame `f` (R231): UNDERRUN with its cause and its trace (R443), and Dusk ends. -/
def switchOff (s : State) (n l f y x : Nat) (fetch : Bool) : State :=
  let h := s.head n
  let s := s.setHead n { h with off := h.off ++ [⟨f, l, y, x, !fetch⟩], wake := true }
  ((s.addSat BST_HCNT_UNDERRUN 1 n).setFld BST_LYR_STAT_CAUSE (b2n fetch) n l).trace 1 4 n (f % 2 ^ 24 * 256 + s.headBand n y % 256)

/-! Due lines (R208). -/

/-- Take the post of layer `l` for band `b` of frame `f`, or go short. -/
def takeLayer (s : State) (n i f b l : Nat) : State :=
  let h := s.head n
  let st := s.strm i
  let pl := if l = 0 then 0 else if l = 3 then 1 else 2 + n
  let quiet := s.darkFrame n f || s.inHold n
  match st.posts.find? (fun q => q.layer == pl && q.frame == f && q.band == b) with
  | some q => if s.inHold n then s else s.setHead n { h with taken := h.taken ++ [(l, f, b, q.buf)] }
  | none => if quiet ∨ wentOff h l f then s else s.switchOff n l f (b * st.bh) 0 false
/-- Whether the next due line of head `n` is reached. -/
def bandDueNow (s : State) (n : Nat) : Bool :=
  let h := s.head n
  s.scansFrame n h.dueF && s.reached n (s.linePos n h.dueF (s.dueLine n (s.headBh n) h.dueB))
/-- BAND_DUE (R208, R226): the head takes the posts of its next band. [log entry 152 DEDUCED] -/
def bandDue (s : State) (n : Nat) : State :=
  let h := s.head n
  let f := h.dueF; let b := h.dueB
  let s := match s.follows n with
    | none => s
    | some i => [0, 1, 3].foldl (fun s l =>
        if ((setFor h f).layers.getD l {}).en ∧ s.layerPosted n l then s.takeLayer n i f b l else s) s
  let h := s.head n
  let ready := if b = 0 ∧ (takenFor h 0 f 0).isSome = true then some f else h.ready
  let last := cdiv (setFor h f).vactive (s.headBh n) ≤ b + 1
  s.setHead n { h with ready := ready, dueF := if last then (f + 1) % 2 ^ 32 else f, dueB := if last then 0 else b + 1 }

/-! Fetch (R230, R231, R402). -/

/-- Bytes held ahead of the scan position, over the layers that are on. -/
def headFill (s : State) (n : Nat) : Nat :=
  let h := s.head n
  let p := s.lcPos n
  h.buf.foldl (fun a (x : Fetched) =>
    if ¬ s.layerOn n x.frame x.layer x.line 0 ∧ layerOff h x.layer x.frame x.line 0 then a
    else if x.frame ≠ p.1 then (if serialGe 32 x.frame p.1 then a + x.bytes.length else a)
    else if p.2.1 < x.line ∨ ¬ h.running then a + x.bytes.length
    else if p.2.1 = x.line then a + (h.scan.hactive - p.2.2) * pixBytes x.fmt
    else a) 0
/-- Bytes of the layers that are on at line `y`. -/
def lineBytes (s : State) (n f y : Nat) : Nat :=
  let c := setFor (s.head n) f
  (List.range 4).foldl (fun a l => if s.layerOn n f l y 0 then a + c.hactive * c.bpp l else a) 0
/-- LOW and CRIT in bytes; a CRIT above LOW is taken as LOW (R230). -/
def lowBytes (s : State) (n : Nat) : Nat := s.fld BST_WMARK_LOW n * 4096
def critBytes (s : State) (n : Nat) : Nat := min (s.fld BST_WMARK_CRIT n * 4096) (s.lowBytes n)
/-- The head scans and shows a layer, and its fill is below a mark. -/
def fillBelow (s : State) (n bytes : Nat) : Bool :=
  let h := s.head n
  s.scanning n && h.running && !h.settle && !h.skip && h.scan.layers.any (fun y => y.en) && decide (s.headFill n < bytes)
def belowCrit (s : State) (n : Nat) : Bool := s.fillBelow n (s.critBytes n)
/-- The Arcade class of the head's fetches (R230): 0 the normal real-time class, 1 URGENT, 2 URGENT below CRIT. -/
def fetchClass (s : State) (n : Nat) : Nat := if s.belowCrit n then 2 else if s.fillBelow n (s.lowBytes n) then 1 else 0
/-- Whether the head may fetch its next line: the fetch line of its band is reached, its posts are taken, there is room. -/
def fetchCan (s : State) (n : Nat) : Bool :=
  let h := s.head n
  let bh := s.headBh n
  let b := h.fetY / bh
  s.scansFrame n h.fetF && s.trained && s.reached n (s.linePos n h.fetF (s.fetchLine n bh b))
    && (if h.dueF = h.fetF then decide (b < h.dueB) else serialGe 32 h.dueF h.fetF)
    && decide (s.headFill n + s.lineBytes n h.fetF h.fetY ≤ 0x100000)
/-- Head `m` is served before head `n` (R230): a higher class first, among heads below CRIT the smaller fill, then the lower number.
[log entry 274 DEDUCED] -/
def servedBefore (s : State) (m n : Nat) : Bool :=
  decide (s.fetchClass n < s.fetchClass m) ||
    (s.fetchClass n == 2 && s.fetchClass m == 2
      && (decide (s.headFill m < s.headFill n) || (s.headFill m == s.headFill n && decide (m < n))))
/-- The head's next line is the one that the Arcade serves. [log entry 274 DEDUCED] -/
def fetchDue (s : State) (n : Nat) : Bool :=
  s.fetchCan n && !(List.range 4).any (fun m => m != n && s.fetchCan m && s.servedBefore m n)
/-- FETCH_LINE (R230, R335, R431): one line of every layer that is on; poison is shown as stored and counted, sealed bytes read
zero. [log entries 150 DESIGN CHOICE, 160 DEDUCED] -/
def fetchLineDo (s : State) (n : Nat) : State :=
  let h := s.head n
  let f := h.fetF; let y := h.fetY
  let c := setFor h f
  let w := c.hactive
  let s := (List.range 4).foldl (fun s l =>
    if s.layerOn n f l y 0 then
      match s.layerLine n f l y with
      | some a =>
        let len := w * c.bpp l
        let bad := s.poisoned a len
        let (bs, s) := s.lpSee a len none
        let s := s.setHead n { s.head n with buf := (s.head n).buf ++ [⟨f, l, y, if l = 3 then c.ovfmt else c.basefmt, bs⟩] }
        if bad then s.bump 0x0909 n else s
      | none => s
    else s) s
  let h := s.head n
  let last := c.vactive ≤ y + 1
  s.setHead n { h with fetF := if last then (f + 1) % 2 ^ 32 else f, fetY := if last then 0 else y + 1 }
/-- The line of a layer in the line buffer: its format and bytes. -/
def lineOf (h : Head) (f l y : Nat) : Option (Nat × List Byte) :=
  (h.buf.find? (fun x => x.frame == f && x.layer == l && x.line == y)).map (fun x => (x.fmt, x.bytes))
/-- Whether the compositor needs a pixel of layer `l` at the scan position that is not in the line buffer (R231).
[log entry 151 DEDUCED] -/
def underrunNow (s : State) (n l : Nat) : Bool :=
  let h := s.head n
  let p := s.lcPos n
  s.layerOnNow n l && (lineOf h p.1 l p.2.1).isNone
    && (l == 3 || (List.range l).all (fun m => !s.layerOn n p.1 m p.2.1 p.2.2))

/-! Composition (R228). -/

/-- The components R, G, B in 10 bits and the 8-bit alpha of a stored pixel. -/
def widen (fmt v : Nat) : (Nat × Nat × Nat) × Nat :=
  let w5 := fun c => c * 33
  let w6 := fun c => c * 16 + c / 4
  let w8 := fun c => c * 4 + c / 64
  match fmt with
  | 0 => ((w5 (bits v 11 5), w6 (bits v 5 6), w5 (bits v 0 5)), 255)
  | 1 => ((w8 (bits v 16 8), w8 (bits v 8 8), w8 (bits v 0 8)), 255)
  | 2 => ((w8 (bits v 16 8), w8 (bits v 8 8), w8 (bits v 0 8)), bits v 24 8)
  | _ => ((bits v 20 10, bits v 10 10, bits v 0 10), bits v 30 2 * 85)
/-- One blended component. -/
def blend (a o b : Nat) : Nat := (a * o + (255 - a) * b + 127) / 255
/-- The 8-bit component that the link carries at 8 bpc. -/
def narrow8 (c : Nat) : Nat := min 255 ((c + 2) / 4)
/-- The pixel that head `n` composes at (x, y) of frame `f`. -/
def composed (s : State) (n f x y : Nat) : Nat × Nat × Nat :=
  let h := s.head n
  let c := setFor h f
  if h.settle ∧ h.frame = f then (0, 0, 0)
  else
    let px := fun (l : Nat) =>
      if layerOff h l f y x then none
      else (lineOf h f l y).map (fun p => widen p.1 (leNat ((p.2.drop (x * pixBytes p.1)).take (pixBytes p.1))))
    let base := match [0, 1, 2].findSome? px with
      | some p => p.1
      | none => (bits c.bg 20 10, bits c.bg 10 10, bits c.bg 0 10)
    match px 3 with
    | some (o, a) => (blend a o.1 base.1, blend a o.2.1 base.2.1, blend a o.2.2 base.2.2)
    | none => base
/-- A row of composed pixels. -/
def composedRow (s : State) (n f y : Nat) : List (Nat × Nat × Nat) :=
  (List.range (setFor (s.head n) f).hactive).map (fun x => s.composed n f x y)
/-- The bits of a component, most significant first, in `w` bits. -/
def msbBits (w v : Nat) : List Bool := ((List.range w).map (fun i => bit v i)).reverse
/-- Bytes of a string of bits, filled with zeros. -/
def packBits (fuel : Nat) (bs : List Bool) : List Byte :=
  match fuel with
  | 0 => []
  | n + 1 =>
    if bs.isEmpty then []
    else BitVec.ofNat 8 ((bs.take 8 ++ List.replicate 8 false).take 8 |>.foldl (fun a b => 2 * a + b2n b) 0) :: packBits n (bs.drop 8)
/-- The bytes of one line on the DisplayPort lanes, in transmission order (R239): pixel x goes to lane x mod LANES, R, G, B most
significant bit first, each lane's last byte filled with zeros. [log entry 157 PRESUMED] -/
def laneBytes (c : HeadSet) (row : List (Nat × Nat × Nat)) : List Byte :=
  let k := c.nLanes
  let w := if c.bpc10 then 10 else 8
  let v := fun (x : Nat) => if c.bpc10 then x else narrow8 x
  let lane := fun (i : Nat) =>
    let px := (row.zip (List.range row.length)).filter (fun p => p.2 % k == i)
    packBits (row.length * 4) (px.flatMap (fun p => msbBits w (v p.1.1) ++ msbBits w (v p.1.2.1) ++ msbBits w (v p.1.2.2)))
  let ls := (List.range k).map lane
  let m := ls.foldl (fun m l => max m l.length) 0
  (List.range m).flatMap (fun t => ls.map (fun l => l.getD t 0))
/-- The expected CRC of a frame on DisplayPort. -/
def expectCrc (s : State) (n f : Nat) : Nat :=
  let c := setFor (s.head n) f
  (List.range c.vactive).foldl (fun a y => crc32From a (laneBytes c (s.composedRow n f y))) 0xFFFFFFFF ^^^ 0xFFFFFFFF

/-! Region push (R233-R237). -/

/-- Width of region column `c` and height of region row `r`. -/
def regW (h : HeadSet) (c : Nat) : Nat := min 64 (h.hactive - 64 * c)
def regH (h : HeadSet) (r : Nat) : Nat := min 64 (h.vactive - 64 * r)
/-- The word of a composed pixel. -/
def pixWord (p : Nat × Nat × Nat) : Nat := p.1 * 2 ^ 20 + p.2.1 * 2 ^ 10 + p.2.2
/-- The bytes of a pushed pixel (R236). -/
def pushPix (c : HeadSet) (p : Nat × Nat × Nat) : List Byte :=
  if c.pushfmt = 0 then [BitVec.ofNat 8 (narrow8 p.1), BitVec.ofNat 8 (narrow8 p.2.1), BitVec.ofNat 8 (narrow8 p.2.2)]
  else beBytes 4 (pixWord p)
/-- A chip that has not reached GROUP since power-on, in ISLAND or REJOINING, pushes KEEPALIVE only until it does (R453).
[log entry 159 DEDUCED] -/
def pushMuted (s : State) : Bool := decide (2 ≤ s.fld ZHL_GRP_STAT_GSTATE) && !s.zhl.reached
/-- The start of the current frame of a head's line clock, on the clock's base (R236). -/
def frameStamp (s : State) (n : Nat) : Nat := (s.lclock n).start.floor.toNat
/-- Presentation time of a frame that started at `stamp` of base `b` (R236). [log entry 158 DEDUCED] -/
def ptime (s : State) (c : HeadSet) (stamp b : Nat) : Nat × State :=
  let (v, s) := s.convert c.pbase b stamp
  (ofSigned 64 v, s)
/-- Sum of the 16-bit words of a byte string, an odd last byte filled with zero. -/
def sum16 : List Byte → Nat
  | a :: b :: t => a.toNat * 256 + b.toNat + sum16 t
  | [a] => a.toNat * 256
  | [] => 0
/-- The checksum of a UDP datagram on IPv4 over its pseudo-header, header and data (R236); 0 is sent as 0xFFFF. [log entry 272 DEDUCED] -/
def udpSum (src dst sport dport : Nat) (data : List Byte) : BitVec 16 :=
  let len := 8 + data.length
  let n := sum16 (beBytes 4 src ++ beBytes 4 dst ++ beBytes 2 17 ++ beBytes 2 len ++ beBytes 2 sport ++ beBytes 2 dport ++ beBytes 2 len ++ data)
  let f := fun n => n % 65536 + n / 65536
  let v := 65535 - f (f (f n))
  BitVec.ofNat 16 (if v = 0 then 65535 else v)
/-- Send a packet of head `n` under settings `c`, of a frame that started at `stamp` of base `b` (R236, Table 9.6).
[log entry 279 DEDUCED] -/
def pushPacket (s : State) (n : Nat) (c : HeadSet) (stamp b typ frame rx ry row0 rows w h : Nat) (data : List Byte) : State :=
  let hd := s.head n
  let (pt, s) := s.ptime c stamp b
  let hdr := beBytes 2 0xE5D1 ++ beBytes 1 1 ++ beBytes 1 typ ++ beBytes 2 c.canvas
    ++ beBytes 1 (s.zhl.chip * 4 + n) ++ beBytes 1 c.pushfmt ++ beBytes 4 frame ++ beBytes 4 hd.seq ++ beBytes 8 pt
    ++ beBytes 2 rx ++ beBytes 2 ry ++ beBytes 1 row0 ++ beBytes 1 rows ++ beBytes 1 w ++ beBytes 1 h
  let s := s.udpOut (4 * c.port) 4 c.dst c.dport c.sport (s.fld ETH_QOS_PUSH_VID) s.pushPcp c.dscp
    (some (udpSum (Config.srcAddr (4 * c.port)).toNat c.dst c.sport c.dport (hdr ++ data))) (hdr ++ data)
  s.setHead n { s.head n with seq := (hd.seq + 1) % 2 ^ 32, lastPkt := s.tbNs 0 }
/-- FRAME_END of the frame being pushed, once all its rows are composed and none of its regions waits (R236); its packets then
await their pin check. -/
def pushEnd (s : State) (n : Nat) : State :=
  let h := s.head n
  let f := h.pushF
  if h.nReg = 0 ∨ h.queue.any (fun q => q.frame == f) ∨ (h.frame = f ∧ h.rowsDone < h.scan.rows) then s
  else
    let s := s.pushPacket n h.pushSet h.pushStamp h.pushBase 2 f 0xFFFF 0xFFFF 0 0 1 1 (beBytes 4 h.nReg ++ beBytes 4 h.nPkt)
    s.setHead n { s.head n with nReg := 0, nPkt := 0, pushDone := some (f, h.pushCrc ^^^ 0xFFFFFFFF) }
/-- The last line of the next region row has been composed; a skipped frame is not transmitted (R224). -/
def rowComposed (s : State) (n : Nat) : Bool :=
  let h := s.head n
  h.running && !h.skip && h.scan.push && s.scanning n && decide (h.rowsDone < h.scan.rows)
    && s.reached n (h.frame, min (64 * (h.rowsDone + 1)) h.scan.vactive, 0)
/-- REGION_ROW_DONE (R233, R234): the row is staged, and its regions that differ, or all of a row sent whole, are queued. -/
def regionRow (s : State) (n : Nat) : State :=
  let h := s.head n
  let c := h.scan
  let r := h.rowsDone
  let rows := (List.range (regH c r)).map (fun y => s.composedRow n h.frame (64 * r + y))
  let slot := c.stage + (h.rowsAll % 2) * (c.hactive * 64 * c.pushBpp)
  let bs := rows.flatMap (fun row => row.flatMap (pushPix c))
  let s := if s.trained then (s.lpPut slot bs).resvWait (40 + n) (bursts slot bs.length) else s.lpWait (.put none slot bs)
  let qs := (List.range c.cols).filterMap (fun k =>
    let d := crc64 (rows.flatMap (fun row => ((row.drop (64 * k)).take 64).flatMap (fun p => beBytes 4 (pixWord p))))
    if h.whole == some r || h.sent.get none (r * 128 + k) != some d then
      some (⟨h.frame, r, k, d, h.rowsAll, c, s.frameStamp n, (s.lclock n).base,
        rows.map (fun row => ((row.drop (64 * k)).take 64).flatMap (pushPix c))⟩ : RegionQ)
    else none)
  let s := s.setHead n { h with queue := h.queue ++ (if s.pushMuted then [] else qs), rowsDone := r + 1, rowsAll := h.rowsAll + 1,
                                whole := if h.whole = some r then none else h.whole }
  s.pushEnd n
/-- The port of the region at the head of the queue carries frames (R234, R373). [log entry 279 DEDUCED] -/
def regionCanLeave (s : State) (n : Nat) : Bool :=
  match (s.head n).queue with
  | q :: _ => s.ethUp (4 * q.set.port)
  | [] => false
/-- REGION_SENT (R234, R236, R239): the packets of the region at the head of the queue leave under the settings that it was composed with,
their data from the stage slot, the expected CRC from the composed pixels; its sent digest is updated.
[log entries 154 DEDUCED, 156 DEDUCED] -/
def regionSent (s : State) (n : Nat) : State :=
  let h := s.head n
  match h.queue with
  | [] => s
  | q :: t =>
    let c := q.set
    let bpp := c.pushBpp
    let slot := c.stage + (q.n % 2) * (c.hactive * 64 * bpp)
    let w := regW c q.col; let hh := regH c q.row
    let step := 2 ^ c.pktrows
    let np := cdiv hh step
    let h := if h.pushF = q.frame ∧ h.nReg ≠ 0 then h else
      { h with pushF := q.frame, nReg := 0, nPkt := 0, pushCrc := 0xFFFFFFFF, pushSet := c, pushStamp := q.stamp, pushBase := q.base }
    let s := s.setHead n { h with queue := t, nReg := h.nReg + 1, nPkt := h.nPkt + np,
                                  sent := h.sent.set none (q.row * 128 + q.col) (some q.digest) }
    let s := (List.range np).foldl (fun s p =>
      let r0 := p * step
      let k := min step (hh - r0)
      let data := (List.range k).flatMap (fun y => (s.lpRead (slot + ((r0 + y) * c.hactive + 64 * q.col) * bpp) (w * bpp)).1)
      let s := s.resvWait (40 + n) (k * bursts (slot + (r0 * c.hactive + 64 * q.col) * bpp) (w * bpp))
      let s := s.pushPacket n c q.stamp q.base 1 q.frame (q.col + c.rxbase) (q.row + c.rybase) r0 k w hh data
      s.setHead n { s.head n with pushCrc := crc32From (s.head n).pushCrc ((q.rows.drop r0).take k).flatten }) s
    s.pushEnd n
/-- Whether the head composes region row number `k` since ON. -/
def rowBegun (s : State) (n k : Nat) : Bool :=
  let h := s.head n
  decide (k < h.rowsAll) || (k == h.rowsAll && h.running && decide (h.rowsDone < h.scan.rows) && s.reached n (h.frame, 64 * h.rowsDone, 0))
/-- Regions whose stage slot is needed again. -/
def overdueRegions (s : State) (n : Nat) : List RegionQ := (s.head n).queue.filter (fun q => s.rowBegun n (q.n + 2))
/-- STAGE_SLOT_REUSE (R234). -/
def stageReuse (s : State) (n : Nat) : State :=
  let od := s.overdueRegions n
  let h := s.head n
  let s := s.setHead n { h with queue := h.queue.filter (fun q => !od.contains q) }
  (s.addSat BST_HCNT2_PUSHDEFER od.length n).pushEnd n
/-- 1 s of TB0 has passed without a packet of a push head (R237). -/
def keepaliveDue (s : State) (n : Nat) : Bool :=
  let h := s.head n
  s.scanning n && (setFor h h.frame).push && decide (h.lastPkt + 1000000000 ≤ s.tbNs 0)
/-- KEEPALIVE (R235, R237); in Dusk it brings a rolling row. -/
def keepalive (s : State) (n : Nat) : State :=
  let s := s.pushPacket n (setFor (s.head n) (s.head n).frame) (s.frameStamp n) (s.lclock n).base 3 (s.head n).frame 0xFFFF 0xFFFF 0 0 1 1 []
  let h := s.head n
  let c := setFor h h.frame
  if s.on BST_HSTAT_DUSK n ∧ c.refresh ≠ 0 then
    s.setHead n { h with whole := some (h.refrRow % c.rows), refrRow := (h.refrRow + 1) % c.rows }
  else s

/-! Frame starts (R223-R226, R231, R232). -/

/-- The current frame of fixed timing ends before the head has passed line VSS + VSW (R225). -/
def frameShort (s : State) (n : Nat) : Bool :=
  let c := s.lclock n
  let g := (s.head n).scan
  !s.headPaced n && decide (c.next - c.start < ((g.vss + g.vsw : Nat) : Rat) * c.line)
/-- What R232 and Table 19.3 compare between frames: the expected CRCs of the head's outputs. -/
def frameCrcs (s : State) (n : Nat) : Nat × Nat :=
  let h := s.head n
  (if h.scan.dp then s.expectCrc n h.frame else 0, if h.scan.push then (if h.pushF = h.frame then h.pushCrc else 0xFFFFFFFF) else 0)
/-- The frame that ends: OFFLINE of every layer, and Dusk's comparison. -/
def frameEnd (s : State) (n : Nat) : State :=
  let h := s.head n
  if ¬ h.running then s
  else
    let s := (List.range 4).foldl (fun s l =>
      s.setFld BST_LYR_STAT_OFFLINE (match h.off.find? (fun o => o.frame == h.frame && o.layer == l) with
        | some o => o.line | none => 0xFFFF) n l) s
    let e := s.frameCrcs n
    let eq := h.prev == some e
    s.setHead n { h with prev := some e, same := if eq then h.same + 1 else 0, wake := h.wake || !eq }
/-- Dusk at a frame start: it is left after an event, and entered after enough equal frames. [log entry 153 DEDUCED] -/
def duskStep (s : State) (n : Nat) : State :=
  let h := s.head n
  let en := s.on BST_HCTRL_DUSK_EN n
  let dusk := if s.on BST_HSTAT_DUSK n then en && !h.wake else en && decide (max 1 (s.fld BST_DUSK_DUSK_FRAMES n) ≤ h.same)
  (s.setHead n { h with wake := false, same := if s.on BST_HSTAT_DUSK n ∧ ¬ dusk then 0 else h.same }).setFld BST_HSTAT_DUSK (b2n dusk) n
/-- Hold mode at a frame start (R321): it ends after the first frame following a head reset, or once a stream of the head is
ON. -/
def holdStep (s : State) (n : Nat) : State :=
  let h := s.head n
  match h.hold with
  | 1 => s.setHead n { h with hold := 2 }
  | 2 => (s.setHead n { h with hold := 0, holdSrc := none }).setFld BST_HSTAT_HOLDMODE 0 n
  | 3 => if (List.range 16).any (fun i => s.strmState i == 2 && bit (s.strm i).heads n) then
      (s.setHead n { h with hold := 0, holdSrc := none }).setFld BST_HSTAT_HOLDMODE 0 n else s
  | _ => s
/-- What a DisplayPort head sends beside the pixels of a frame (R221): the MSA, and a VSC SDP with the colorimetry.
[log entry 271 PRESUMED] -/
def sendMsa (s : State) (n : Nat) : State :=
  let c := (s.head n).scan
  if c.dp ∧ s.on BST_HSTAT_LINKUP n ∧ ¬ (s.head n).skip then
    (s.emit (.msa n [c.htotal, c.hss, c.hsw, c.hpol, c.hactive, c.vtotal, c.vss, c.vsw, c.vpol, c.vactive, if c.bpc10 then 10 else 8])).emit (.vsc n c.color)
  else s
/-- In hold mode neither posts nor what was fetched of them are shown from a place on (R219): the generated and fallback layers are off
there, and nothing is counted. -/
def holdOff (s : State) (n f y x : Nat) : State :=
  if s.inHold n then s.setHead n { s.head n with off := (s.head n).off ++ [⟨f, 0, y, x, false⟩, ⟨f, 1, y, x, false⟩] } else s
/-- A head starts the frame of its line clock (R217, R224, R231, R232, R235). -/
def headFrame (s : State) (n : Nat) : State :=
  let f := s.lcFrameNo n
  let s := s.frameEnd n
  let h := s.head n
  if s.headState n = 3 then
    if h.idle then s.setHead n { h with ovr := true, frame := f } else s.setHead n { h with idle := true, running := false, frame := f, ovr := !h.running }
  else if s.headState n ≠ 2 then s
  else
    let s := (s.duskStep n).holdStep n
    let h := s.head n
    let skip := h.relock && h.training
    let settle := !skip && h.settleDue && h.cfg.dp && s.on BST_HSTAT_LINKUP n
    let roll : Bool := decide (h.cfg.refresh ≠ 0 ∧ h.cfg.refresh ≤ h.refrN + 1) && !s.on BST_HSTAT_DUSK n && h.cfg.push
    let behind := !serialGe 32 h.dueF f
    let s := s.setHead n { h with
      running := true, frame := f, skip := skip, settle := settle, scan := h.cfg,
      relock := h.relock && h.training, settleDue := h.settleDue && !settle && h.cfg.dp,
      checked := false, linkDrop := !s.on BST_HSTAT_LINKUP n,
      off := h.off.filter (fun o => serialGe 32 o.frame f),
      taken := h.taken.filter (fun t => serialGe 32 t.2.1 f),
      buf := h.buf.filter (fun x => serialGe 32 x.frame f),
      dueF := if behind then f else h.dueF, dueB := if behind then 0 else h.dueB,
      fetF := if serialGe 32 h.fetF f then h.fetF else f, fetY := if serialGe 32 h.fetF f then h.fetY else 0,
      rowsDone := 0, refrN := if roll then 0 else h.refrN + 1,
      whole := if roll then some (h.refrRow % max 1 h.cfg.rows) else if s.on BST_HSTAT_DUSK n then h.whole else none,
      refrRow := if roll then (h.refrRow + 1) % max 1 h.cfg.rows else h.refrRow }
    let s := if skip then s.addSat BST_HCNT_SKIPFR 1 n else s
    (((s.holdOff n f 0 0).showSettle n).sendMsa n).pushEnd n
/-- A head of fixed timing has not yet started the frame of its line clock. -/
def frameWaits (s : State) (n : Nat) : Bool :=
  let h := s.head n
  (s.headState n == 2 || s.headState n == 3) && (s.lclock n).live && ((!h.running && !h.idle) || h.frame != s.lcFrameNo n)
/-- The frame in progress differs from the one before it (R232). -/
def frameChanged (s : State) (n : Nat) : Bool := (s.head n).prev != some (s.frameCrcs n)
/-- The line at which a head of variable blanking starts its next frame (R226, R232): in Dusk its own line, but VT_MIN after a frame that
changed. -/
def vrrLine (s : State) (n : Nat) : Nat :=
  let h := s.head n
  let c := s.scanSet n
  if s.on BST_HSTAT_DUSK n then
    if s.frameChanged n then c.vtmin
    else
      let v := if s.fld BST_DUSK_DUSK_VT n = 0 then c.vtmax else s.fld BST_DUSK_DUSK_VT n
      max c.vtmin (min v c.vtmax)
  else if h.ready = some ((s.lcFrameNo n + 1) % 2 ^ 32) then c.vtmin else c.vtmax
/-- The heads that start a frame together with head `n`: those of variable blanking that follow its stream. -/
def vrrPeers (s : State) (n : Nat) : List Nat :=
  (List.range 4).filter (fun m => m == n || (s.headPaced m && s.headState m == 2 && (s.follows n).isSome && s.follows m == s.follows n))
/-- Whether the heads that start with `n` have reached their line: VT_MIN when every one of them took its band-0 post. -/
def vrrDue (s : State) (n : Nat) : Bool :=
  (s.lclock n).live && (s.vrrPeers n).all (fun m => decide (s.vrrLine m ≤ (s.lcPos n).2.1))
/-- HEAD_FRAME_START (R226, R238): a head of fixed timing follows its line clock; heads of variable blanking that follow one stream start
their line clocks' frames at one instant, the line that the latest of them waits for. -/
def headFrameStart (s : State) (n : Nat) : State :=
  if s.headPaced n then
    if ¬ (s.headState n = 2 ∨ s.headState n = 3) then s
    else if ¬ (s.lclock n).live ∨ ¬ (s.head n).running ∧ ¬ (s.head n).idle then (if (s.lclock n).live then s.headFrame n else s)
    else if s.vrrDue n then
      let c := s.lclock n
      let l := (s.vrrPeers n).foldl (fun a m => max a (s.vrrLine m)) 0
      let t := c.start + ((l : Nat) : Rat) * c.line
      (s.vrrPeers n).foldl (fun s m =>
        (s.lcAdvance m (t + s.baseRat (s.lclock m).base - s.baseRat c.base)).headFrame m) s
    else s
  else if s.frameWaits n then s.headFrame n else s

/-! Pin read-back (R239, R240). -/

/-- Compare the CRCs of a frame. -/
def pinCompare (s : State) (n f want got : Nat) : State :=
  if want = got then
    let s := s.setFld BST_HSTAT_PCRUN 0 n
    if s.on BST_HSTAT_PINCHECK n then s else (s.setFld BST_PC_LAST_EXPECTED want n).setFld BST_PC_LAST_MEASURED got n
  else
    let s := (s.setFld BST_PC_LAST_EXPECTED want n).setFld BST_PC_LAST_MEASURED got n
    let s := ((s.setFld BST_PC_MISS_FRAME f n).raise BST_HSTAT_PINCHECK n).addSat BST_HCNT_PCMISS 1 n
    let s := (s.addSat BST_HSTAT_PCRUN 1 n).alarm (0x10 + n) 0x0502
    if s.fld BST_PC_CFG_PC_LIMIT n ≠ 0 ∧ s.fld BST_HSTAT_PCRUN n = s.fld BST_PC_CFG_PC_LIMIT n then
      s.setHead n { s.head n with faulted := true }
    else s
/-- PIN_CHECK: the CRC that the pads of an output measured for its frame arrives. Skipped and short frames, and frames sent
while the link was down, are not checked; PC_EN = 0 leaves the expected CRC readable. -/
def pinCheck (s : State) (n : Nat) (push : Bool) (got : Nat) : State :=
  let h := s.head n
  let en := s.on BST_PC_CFG_PC_EN n
  let one := fun (s : State) (f want : Nat) =>
    if en then s.pinCompare n f want got
    else if s.on BST_HSTAT_PINCHECK n then s else s.setFld BST_PC_LAST_EXPECTED want n
  if push then
    match h.pushDone with
    | some (f, want) =>
      let s := s.setHead n { h with pushDone := none }
      if h.shorts.contains f ∨ (h.frame = f ∧ h.running = true ∧ s.frameShort n = true) then s else one s f want
    | none => s
  else if h.scan.dp ∧ h.running ∧ ¬ h.checked ∧ ¬ h.skip ∧ ¬ h.linkDrop ∧ s.on BST_HSTAT_LINKUP n ∧ ¬ s.frameShort n
      ∧ h.frame = s.lcFrameNo n ∧ s.reached n (h.frame, h.scan.vactive, 0) then
    one (s.setHead n { h with checked := true }) h.frame (s.expectCrc n h.frame)
  else s
/-- Hold mode begins (R219, R322): the current hold-layer source is latched, and from the scan position on posts are no longer shown. -/
def enterHold (s : State) (n kind : Nat) : State :=
  let h := s.head n
  if s.headState n = 0 then s
  else
    let p := s.lcPos n
    let t := (s.setHead n { h with hold := kind, holdSrc := s.holdNow n }).setFld BST_HSTAT_HOLDMODE 1 n
    if h.running ∧ h.frame = p.1 then t.holdOff n p.1 p.2.1 p.2.2 else t
end State
end Sys2Proof.Machine
end

