-- ==== Sys2Proof/Machine/Plots.lean ====
section
/-! DEFINITION. Plots and their slots (R82-R87, R258-R282): the choice of the running slot, pre-emption, switch-out with
its save record, switch-in and load, binding with admission, membership. -/
namespace Sys2Proof.Machine
open Sys2Proof
namespace State
/-! Slots (R272-R277). -/

/-- Slot states: 0 UNBOUND, 1 READY, 2 RUNNING, 3 DONE. -/
def slotState (s : State) (p j : Nat) : Nat := s.fld PLT_SLOT_STAT_STATE p j
def setSlotState (s : State) (p j v : Nat) : State := s.setFld PLT_SLOT_STAT_STATE v p j
/-- Bound slots of a plot, rising. -/
def bound (s : State) (p : Nat) : List Nat := (List.range 16).filter (fun j => s.slotState p j != 0)
/-- READY RT slots that have not met their quota for the period, in slot order (R276). -/
def rtOpen (s : State) (p : Nat) : List Nat :=
  (List.range 16).filter (fun j => s.slotState p j == 1 && s.isRt p j && (s.slot p j).quota < (s.slot p j).rtsteps)
/-- READY BE slots. -/
def beReady (s : State) (p : Nat) : List Nat := (List.range 16).filter (fun j => s.slotState p j == 1 && !s.isRt p j)
/-- The slot of a list with the least virtual time, the lowest number on a tie. -/
def leastV (s : State) (p : Nat) : List Nat → Option Nat
  | [] => none
  | j :: t => match s.leastV p t with
    | none => some j
    | some k => if (s.slot p k).v < (s.slot p j).v then some k else some j
/-- The choice at a selection point (R276). -/
def chooseSlot (s : State) (p : Nat) : Option Nat :=
  match s.rtOpen p with
  | j :: _ => some j
  | [] => s.leastV p (s.beReady p)
/-- A slot becomes READY: its V is at least the least V among the other bound BE slots (R277). -/
def makeReady (s : State) (p j : Nat) : State :=
  let others := (s.bound p).filter (fun i => i != j && !s.isRt p i)
  let least := match s.leastV p others with | some i => (s.slot p i).v | none => 0
  let sl := s.slot p j
  (s.setSlot p j { sl with v := max sl.v least }).setSlotState p j 1
/-- Unbind a slot (R275): BIND reads 0. Its V stays its own (R277). -/
def unbind (s : State) (p j : Nat) : State :=
  ((s.setSlot p j { v := (s.slot p j).v }).setSlotState p j 0).setFld PLT_SLOT_CFG_BIND 0 p j
/-- The address of a slot's image, and of its save record (R272). -/
def slotImage (s : State) (p j : Nat) : Nat :=
  64 * (if j = 0 then s.fld PLT_IMAGE_ADDR p else s.fld PLT_SLOT_IMAGE_ADDR p j)
def slotSave (s : State) (p j : Nat) : Nat :=
  64 * (if j = 0 then s.fld PLT_SAVE_ADDR p else s.fld PLT_SLOT_SAVE_ADDR p j)

/-! Pre-emption (R279). -/

/-- Which of two reasons for a pause decides what follows it: the plot's stop, then a suspension, a membership change, a re-image; an
unbinding and a selection follow any of them. -/
def pauseRank : AfterPause → Nat
  | .stop => 5
  | .spare | .rewind => 4
  | .member => 3
  | .reimage => 2
  | .unbind => 1
  | .select => 0
def pauseJoin (a b : AfterPause) : AfterPause := if pauseRank a < pauseRank b then b else a
/-- A pre-emption request (R279): dispatch stops in every program of the running slot, and the grace runs. With no slot
running it has no effect here; during a switch-in it takes effect once that completes (R275). [log entry 266 DEDUCED] -/
def preempt (s : State) (p : Nat) (next : AfterPause) : State :=
  let g := s.plot p
  match g.act with
  | .pause d nx => s.setPlot p { g with act := .pause d (pauseJoin nx next) }
  | .idle =>
    if (s.running p).isNone then s
    else s.setPlot p { g with act := .pause (s.tick + max 1 (s.fld PLT_SHARE_GRACE p) * usTicks) next }
  | _ => s.setPlot p { g with want := some (match g.want with | some w => pauseJoin w next | none => next) }
/-- Whether a command is in progress: fired and not committed. -/
def inFlight (g : Prog) : List Cmd := g.cmds.filter (fun c => c.phase != .dispatched)
/-- Abort every uncommitted command of a program (R93, R279): each commits nothing, a request of it that its engine has not accepted is
given up, and the position rewinds to the first of them. -/
def abortCmds (s : State) (k : Nat) : State :=
  let g := s.prog k
  let s := g.cmds.foldl (fun s c => s.logAtom k c) s
  match g.cmds.head? with
  | none => s
  | some c =>
    let s := { s with bel := { s.bel with wait := s.bel.wait.filter (fun w => !(w.req.pacer.isNone && w.req.prog == k)) } }
    (s.showLbuf k []).setProg k { s.prog k with cmds := [], pc := c.pc, sigs := [] }
/-- At the end of the grace every fired command is aborted, each counted as PREEMPT_ABORT (R279). -/
def graceExpiry (s : State) (p : Nat) : State :=
  (s.progKeys p).foldl (fun s k =>
    let n := (inFlight (s.prog k)).length
    (s.abortCmds k).addSat PLT_PRE_CNT_ABORTS n p) s

/-! Switch-out (R258, R274). -/

/-- The bytes of a save record (Table 10.5). -/
def saveRecord (s : State) (p kr mx : Nat) : List Byte :=
  let g := s.plot p
  let seeds := (List.range 8).flatMap (fun i => leBytes 8 (s.fld PLT_SEED_LO_SEED p i) ++ leBytes 8 (s.fld PLT_SEED_HI_SEED p i))
  leBytes 4 0x53565352 ++ leBytes 2 1 ++ leBytes 2 g.stages ++ leBytes 8 g.icrc ++ leBytes 8 kr ++ leBytes 8 mx
    ++ leBytes 2 (s.fld PLT_GEN_GEN p) ++ leBytes 2 (b2n g.nmark) ++ List.replicate 28 0 ++ seeds ++ List.replicate 64 0
/-- Frame-store segments that a plot holds (Table 1.4): those the FSTORE descriptors of its programs name. -/
def plotSegs (s : State) (p : Nat) : List Nat :=
  ((List.range 384).filter (fun n => (s.progKeys p).any (fun k => (s.prog k).tds.any (fun t =>
    bits (word t.2 0) 46 2 == 1 &&
      (let a := bits (word t.2 1) 0 48
       let e := a + (bits (word t.2 0) 16 16 - 1) * (bits (word t.2 3) 0 32 * 64) + tdBytes t.2
       decide (a < (n + 1) * 0x40000 ∧ n * 0x40000 < e))))))
/-- Forget the channels of a plot: every pointer to slot 0 (R469), and tokens and credits in flight. -/
def clearChans (s : State) (p : Nat) : State :=
  { s with par := { s.par with chan := s.par.chan.filter (fun c => c.1 / 256 != p),
                               tokens := s.par.tokens.filter (fun f => f.chan / 256 != p),
                               credits := s.par.credits.filter (fun f => f.chan / 256 != p) } }
/-- Reset the RPTR of the Belvedere SLOT descriptors that stand in a channel of the plot (R469, R178). -/
def clearRptr (s : State) (p : Nat) : State :=
  let mine := s.bel.stepped.filter (fun x => x.2 == p + 1)
  mine.foldl (fun (s : State) x => if s.fld BEL_IMG_W0_KIND x.1 = 3 then s.setFld BEL_IMG_W0_RPTR 0 x.1 else s)
    { s with bel := { s.bel with stepped := s.bel.stepped.filter (fun x => x.2 != p + 1) } }
/-- Wipe a plot's banks and segments under the partition row of Table 1.4 (R258 step 6). -/
def wipePlot (s : State) (p : Nat) : State :=
  let s := (s.plotPavs p).foldl wipePav s
  let s := (s.plotSegs p).foldl (fun s n => s.wipeStore (segKey n)) s
  (s.clearRptr p).clearChans p
/-- Every wicket whose waiter is a program of the plot is set to COUNT 0 (R258 step 6), with a stream's signals of it. -/
def zeroWickets (s : State) (p : Nat) : State :=
  (s.par.wkt.map (fun x => x.1)).foldl (fun s w =>
    let kd := s.fld PTR_WKT_WKIND w; let id := s.fld PTR_WKT_WID w
    if (kd = 1 ∧ id / 256 = p) ∨ (kd = 2 ∧ id = p) then (s.setWkt w { s.wkt w with count := 0 }).strmForget w else s) (s.barrierLeave p)
/-- Stop the programs of a plot: nothing of them is left to run. -/
def dropProgs (s : State) (p : Nat) : State :=
  (s.progKeys p).foldl (fun s k => { s with par := { s.par with prog := s.par.prog.erase k } }) s
/-- Steps 1 to 6 of the pause of R258, for the running slot `j`: `save` is where its record goes, none when a stop with
SV = 0 writes none. -/
def switchOut (s : State) (p j : Nat) (save : Option Nat) : State :=
  let s := (s.charge p).advanceGen p
  let steps := (s.progKeys p).map (fun k => (s.prog k).qstep)
  let kr := steps.foldl min (steps.headD 0)
  let mx := steps.foldl max 0
  let s := match save with
    | some a => s.ctxPut (s.plotCtx p) (s.cgen (s.plotCtx p)) a (s.saveRecord p kr mx)
    | none => s
  let s := ((s.wipePlot p).zeroWickets p).dropProgs p
  let sl := s.slot p j
  let s := s.setSlot p j { sl with resume := save.isSome, first := false }
  let s := if s.slotState p j = 2 then s.makeReady p j else s
  let g := s.plot p
  (s.setRunning p none).setPlot p
    { g with act := .idle, chanOk := false, held := (sl.ctx, s.tick) :: g.held.filter (fun h => decide (s.tick ≤ h.2 + 65536 * usTicks)) }

/-! Membership (R82). -/

/-- What PTR_PLOT_MAP asks for a logical pavilion, as plot + 1 (R82). -/
def wantedMember (s : State) (q : Nat) : Nat :=
  let v := s.rd .PTR_PLOT_MAP (q / 4)
  if bit v (8 * (q % 4) + 7) then bits v (8 * (q % 4)) 5 + 1 else 0
/-- A held write would change the membership of plot `p` (R82). -/
def memberDiff (s : State) (p : Nat) : Bool :=
  (List.range 144).any (fun q => (s.memberOf q == p + 1) != (s.wantedMember q == p + 1))
/-- Logical pavilion `q` leaves plot `p`, or joins it, at the boundary of `p` that has come (R82): it joins only at one no earlier than the
instant at which it left its former plot. -/
def memberMoves (s : State) (p q : Nat) : Bool :=
  let cur := s.memberOf q; let w := s.wantedMember q
  (cur == p + 1 && w != p + 1) || (cur == 0 && w == p + 1 && decide (s.par.leftAt.get 0 q ≤ (s.plot p).boundAt))
/-- At plot `p`'s boundary: its leaving pavilions leave, and pavilions in no plot that it is to hold join (R82); a change
advances PLT_GEN. A pavilion that another plot has yet to give up keeps the change held. -/
def applyMembership (s : State) (p : Nat) : State :=
  let qs := (List.range 144).filter (s.memberMoves p)
  if qs.isEmpty then s
  else
    let t := qs.foldl (fun (t : State) q =>
      if s.memberOf q = p + 1 then
        { t with par := { t.par with member := t.par.member.set 0 q 0, leftAt := t.par.leftAt.set 0 q s.tick } }
      else { t with par := { t.par with member := t.par.member.set 0 q (p + 1) } }) s
    let held := t.memberDiff p
    (t.setPlot p { t.plot p with memberHeld := held, memberDue := held && (t.plot p).memberDue }).advanceGen p

/-! Switch-in and load (R87, R260, R273, R274). -/

/-- Switch on the member pavilions that are OFF (R407). -/
def powerMembers (s : State) (p : Nat) : State :=
  (s.plotPavs p).foldl (fun s v =>
    if s.fld PWR_DOM_CTRL_STATE v = 0 then (s.setFld PWR_DOM_CTRL_EN 1 v).setFld PWR_DOM_CTRL_STATE 1 v else s) s
/-- Begin the switch-in of slot `j` (R274): it holds the plot, PLT_GEN advances, and the load waits only while more than
64 advances of the plot are unconfirmed, counted as TAG_FENCE_WAIT (R330). -/
def beginSwitchIn (s : State) (p j : Nat) : State :=
  let s := s.charge p
  let s := (s.setRunning p (some j)).powerMembers p
  if (s.plot p).advances.length ≤ 63 then
    let s := s.advanceGen p
    s.setPlot p { s.plot p with act := .load j }
  else (s.setPlot p { s.plot p with act := .fenceWait j }).bump 0x090A p
/-- Where the record of a resuming slot lies: PLT_RESUME at slot 0's first switch-in with RV, else its save address. -/
def resumeAddr (s : State) (p j : Nat) : Option Nat :=
  let sl := s.slot p j
  if sl.first then
    if j = 0 then (if s.on PLT_RESUME_RV p then some (64 * s.fld PLT_RESUME_ADDR p) else none)
    else if sl.resume then some (s.slotSave p j) else none
  else if sl.resume then some (s.slotSave p j) else none
/-- Whether a save record matches the image (R260); a re-image checks MAGIC and VERSION only (R282). -/
def recordOk (s : State) (a : Nat) (img : Image) (reimage : Bool) : Bool :=
  s.lpLe a 4 == 0x53565352 && s.lpLe (a + 4) 2 == 1
    && (reimage || (s.lpLe (a + 6) 2 == img.stages && s.lpLe (a + 8) 8 == img.crc))
/-- The seeds of a save record into PLT_SEED (R260). -/
def loadSeeds (s : State) (p a : Nat) : State :=
  (List.range 8).foldl (fun s i =>
    (s.wr .PLT_SEED_LO (s.lpLe (a + 0x40 + 16 * i) 8) p i).wr .PLT_SEED_HI (s.lpLe (a + 0x48 + 16 * i) 8) p i) s
/-- Start a program: fresh at word 0 with step 0, or resumed at step `kr`, held at its outermost LOOP COUNT (R87, R260). -/
def startProg (s : State) (k : Nat) (code : List Nat) (mask : Nat) (res : Option Nat) : State :=
  match res with
  | none => ((s.setProg k { running := true, code := code, mask := mask }).goto k 0).showPtr k
  | some kr =>
    let lp := outerLoop code
    let cnt := match lp with | some l => bits (code.getD l 0) 0 32 | none => 0
    let st := if cnt ≠ 0 ∧ cnt < kr then cnt else kr
    (s.setProg k { running := true, code := code, mask := mask, step := st, qstep := st, skipTo := lp }).goto k 0
/-- Sample BUDGET and CAP for the pavilions of a plot (R249). -/
def sampleBudget (s : State) (p : Nat) : State := (s.members p).foldl sampleBucket s
/-- Set the activity buckets of a plot's pavilions to CAP (R249). -/
def fillBuckets (s : State) (p : Nat) : State := (s.members p).foldl fillBucket s
/-- A plot that resumes at step `k` takes up a stream at the next frame latched for it (R261): the signals of frames latched before are
forgotten, the rest of the frame being latched is not signalled, and the next frame sent to the plot is served by step `k`.
[log entry 268 DEDUCED] -/
def strmResume (s : State) (p k : Nat) : State :=
  (List.range 16).foldl (fun s i =>
    let st := s.strm i
    let onA := decide (st.plotA = p); let onB := st.bv && decide (st.plotB = p)
    if s.strmState i = 0 ∨ ¬ (onA ∨ onB = true) then s
    else
      let clear := fun (s : State) (w : Nat) => (s.setWkt w { s.wkt w with count := 0 }).strmForget w
      let s := if onA then clear s (Config.pacerWicket i 0 % 131072) else s
      let s := if onB then clear s (Config.pacerWicket i 1 % 131072) else s
      let base := fun (n : Nat) => (k + 2 ^ 32 - n % 2 ^ 32) % 2 ^ 32
      let st := s.strm i
      s.setStrm i { st with
        baseA := if onA then base st.sentA else st.baseA, gotA := if onA then none else st.gotA,
        baseB := if onB then base st.sentB else st.baseB, gotB := if onB then none else st.gotB,
        mute := if st.live ∧ st.nextB ≠ 0 ∧ (if st.onA then onA else onB) = true then some st.nextF else st.mute,
        sels := st.sels.map (fun y => if y.plot = p then { y with retired := true } else y) }) s
/-- A plot that starts afresh has committed no step of its channels (R305): no acknowledgement of an earlier one counts, and its remote
readers are those whose requests wait. [log entry 286 DEDUCED] -/
def haloFresh (s : State) (p : Nat) : State :=
  { s with zhl := { s.zhl with
    early := s.zhl.early.filter (fun e => e.1 / 256 != p),
    readers := s.zhl.readers.filter (fun r => r.1 / 256 != p
      || s.zhl.halos.any (fun h => 256 * h.plot + h.chid == r.1 && h.chip == r.2)) } }
/-- Put a checked image's programs to work on the plot (R87, R260, R261). -/
def install (s : State) (p j : Nat) (img : Image) (res : Option Nat) : State :=
  let s := match res with | some a => s.loadSeeds p a | none => s
  let kr := res.map (fun a => s.lpLe (a + 0x10) 8)
  let s := s.setPlot p
    { s.plot p with
      act := .idle, stages := img.stages, icrc := img.crc, nmark := img.nmark,
      onAt := s.fc, quantumAt := s.tick, chanOk := false, stallAt := s.tick }
  let s := ((img.progs.zip (List.range img.stages)).foldl (fun s x => s.startProg (progKey p x.2) x.1.1 x.1.2 kr) s)
  let s := s.startProg (condKey p) img.cond 0 kr
  let s := match kr with | some k => s.strmResume p k | none => s.haloFresh p
  let s := s.setSlotState p j 2
  let sl := s.slot p j
  let s := s.setSlot p j { sl with first := false, reimage := false }
  let s := if (j == 0 && sl.first) = true then s.setFld PLT_RESUME_RV 0 p else s
  s.setFld PLT_SLOT_CFG_REIMAGE 0 p j
/-- A member pavilion of the plot has no home (R332). -/
def unhomed (s : State) (p : Nat) : Bool := (s.members p).any (fun q => (s.phys q).isNone)
/-- A plot whose stop finds no slot running (R84): the steps of R258 that need none. [log entry 267 DEDUCED] -/
def stopIdle (s : State) (p : Nat) : State := ((s.advanceGen p).wipePlot p).zeroWickets p
/-- The image of the slot being switched in, and where its record lies; or the code of the check that fails (R87, R260, R332). -/
def loadCheck (s : State) (p j : Nat) : Except Nat (Image × Option Nat) :=
  let sl := s.slot p j
  let a0 := if s.plotState p = 1 ∧ j = 0 then (s.plot p).img else s.slotImage p j
  let a := if sl.island then a0 + s.lpLe (a0 + 0x28) 8 else a0
  let res := s.resumeAddr p j
  if s.unhomed p then .error 0x0906 else match s.checkImage a (s.nMembers p) with
    | .error e => .error e
    | .ok img => match res with
      | some r => if s.recordOk r img (sl.reimage ∨ sl.island) then .ok (img, res) else .error 0x0212
      | none => .ok (img, res)
/-- What a pre-emption during the switch-in of slot `j` asked for, once it has completed (R275, R279). -/
def takeWant (s : State) (p j : Nat) : State :=
  let w := (s.plot p).want
  let s := s.setPlot p { s.plot p with want := none }
  match w with
  | some n => s.preempt p n
  | none => if (s.slot p j).unbindAfter then s.preempt p .unbind else s
/-- The load of the slot being switched in (R87, R260, R273). A failure in STARTING returns the plot to OFF with the code in PLT_STAT;
later it unbinds the slot, which records it. -/
def imageLoad (s : State) (p : Nat) : State :=
  match (s.plot p).act with
  | .load j =>
    match s.loadCheck p j with
    | .ok (img, res) =>
      let s := s.install p j img res
      let s := if s.plotState p = 1 then s else s.addSat PLT_PRE_CNT_SWITCHES 1 p
      (s.takeWant p j).startDone (.plot (Fin.ofNat 32 p)) true
    | .error e =>
      let stop := (s.plot p).want == some .stop
      let s := (s.charge p).setRunning p none
      let s := s.setPlot p { s.plot p with act := .idle, want := none }
      if s.plotState p = 1 then
        (s.setFld PLT_STAT_LOADFAULT e p).startDone (.plot (Fin.ofNat 32 p)) false
      else
        let s := (s.unbind p j).setFld PLT_SLOT_STAT_LOADFAULT e p j
        if stop then s.stopIdle p else s
  | _ => s
/-- STARTING of a plot (R273): the first slot chosen is switched in, or with none bound the plot idles in ON. A membership change still
waits for its frame boundary (R82). -/
def plotStart (s : State) (p : Nat) : State :=
  let s := (s.powerMembers p).fillBuckets p
  let s := s.setPlot p { s.plot p with img := s.slotImage p 0 }
  if s.unhomed p then (s.setFld PLT_STAT_LOADFAULT 0x0906 p).startDone (.plot (Fin.ofNat 32 p)) false
  else if (s.plot p).suspended then s.startDone (.plot (Fin.ofNat 32 p)) true
  else match s.chooseSlot p with
  | some j => s.beginSwitchIn p j
  | none => s.startDone (.plot (Fin.ofNat 32 p)) true
/-- STOPPING of a plot (R84, R258): the running slot is paused; with none the plot's banks are wiped at once. -/
def plotStop (s : State) (p : Nat) : State := if (s.running p).isNone then s.stopIdle p else s.preempt p .stop
/-- Carry out the work that a plot's state machine begins. -/
def plotWork (x : State × SwWork) (p : Nat) : State :=
  match x.2 with
  | .start => x.1.plotStart p
  | .stop => x.1.plotStop p
  | .none => x.1

/-! Binding (R272, R278). -/

/-- T_SW of R274 in nanoseconds: the grace plus 42 µs. -/
def tSw (s : State) (p : Nat) : Nat := (max 1 (s.fld PLT_SHARE_GRACE p) + 42) * 1000
/-- W of an image's WCET entry in fc, or none where MAGIC or VERSION is wrong (R278). -/
def imageW (s : State) (a : Nat) : Option Nat :=
  if s.lpLe a 4 = 0x53565431 ∧ s.lpLe (a + 4) 2 = 1 then some (s.lpLe (a + s.lpLe (a + 0x20) 8 + 8) 8) else none
/-- L of R278 in ns, exact, over the RT slots of a plot with slot `j` as if bound; none where a header is wrong. -/
def admitLoad (s : State) (p : Nat) (rts : List Nat) (nbound : Nat) : Option Rat :=
  (rts.foldl (fun (acc : Option Rat) i =>
    match acc, s.imageW (s.slotImage p i) with
    | some x, some w => some (x + (((s.slot p i).rtsteps * w * 10 : Nat) : Rat) / 11)
    | _, _ => none) (some 0)).map (fun x => x + (if 1 < nbound then ((rts.length * s.tSw p : Nat) : Rat) else 0))
/-- The admission limit of a plot in ns: P × ADMIT / 256 (R278). -/
def admitLimit (s : State) (p : Nat) : Rat :=
  let a := s.fld PLT_SHARE_ADMIT p
  (s.lclock (s.fld PLT_CTRL_LC p)).period / 16 * ((if a = 0 then 256 else a : Nat) : Rat) / 256
/-- Refuse a bind: BIND reads back 0 and REFUSED is set. -/
def refuseBind (s : State) (p j code : Nat) : State :=
  (((s.unbind p j).raise PLT_SLOT_STAT_REFUSED p j).bump code p)
/-- A bind of slot `j` with the written PLT_SLOT_CFG `v` (R272, R277, R278). -/
def slotBind (s : State) (p j v : Nat) : State :=
  let s := s.charge p
  let c := bits v 0 10; let rt := bit v 10
  let bad := ¬ s.ctxActive c ∨ c = 0 ∨ (s.bound p).any (fun i => i != j && (s.slot p i).ctx == c) ∨ (rt ∧ s.plotLcOff p)
  if bad then s.refuseBind p j 0x0704
  else
    let sl : Slot := { ctx := c, rt := rt, weight := max 1 (bits v 12 8), rtsteps := max 1 (bits v 20 8), resume := bit v 11,
                       v := (s.slot p j).v }
    let t := s.setSlot p j sl
    let rts := (List.range 16).filter (fun i => (i == j || s.slotState p i != 0) && (t.slot p i).rt)
    let nb := ((s.bound p).filter (fun i => i != j)).length + 1
    if rts.isEmpty then t.makeReady p j
    else match t.admitLoad p rts nb with
    | none => (s.refuseBind p j 0x0704).setFld PLT_SLOT_STAT_LOADFAULT 0x0201 p j
    | some l =>
      if l ≤ t.admitLimit p then
        let t := (t.makeReady p j).setFld PLT_ADMIT_LOAD (min 0xFFFF (l / 1000).ceil.toNat) p
        t.setFld PLT_ADMIT_LIMIT (min 0xFFFF (t.admitLimit p / 1000).floor.toNat) p
      else s.refuseBind p j 0x0703
/-- Whether the admission check of a bind must read image headers (R278): an RT slot would be bound. -/
def bindReads (s : State) (p j v : Nat) : Bool :=
  bit v 10 || (List.range 16).any (fun i => i != j && s.slotState p i != 0 && (s.slot p i).rt)
/-- BIND goes 0 to 1 with the written PLT_SLOT_CFG `v` (R272): a check that must read LPDDR waits for it to be served (R392). -/
def slotBindWait (s : State) (p j v : Nat) : State :=
  let s := s.wr .PLT_SLOT_CFG (setBits (setBits v 28 1 1) 29 3 0) p j
  if s.trained ∨ ¬ s.bindReads p j v then s.slotBind p j v
  else s.setSlot p j { s.slot p j with waits := some v }
/-- The binds whose check has waited for LPDDR, in slot order (R278, R392). -/
def bindWaiting (s : State) : State :=
  if ¬ s.trained then s
  else (s.par.slot.filter (fun x => x.2.waits.isSome)).foldl (fun s x =>
    (s.setSlot (x.1 / 16) (x.1 % 16) { s.slot (x.1 / 16) (x.1 % 16) with waits := none }).slotBind (x.1 / 16) (x.1 % 16) (x.2.waits.getD 0)) s
/-- Clearing BIND (R275): a running slot is switched out and then unbound, whatever else its pause is for; during its switch-in it waits
for the load. -/
def slotUnbind (s : State) (p j : Nat) : State :=
  if s.running p = some j then
    let s := s.setSlot p j { s.slot p j with unbindAfter := true }
    match (s.plot p).act with
    | .load _ | .fenceWait _ => s
    | _ => s.preempt p .unbind
  else s.unbind p j
end State
end Sys2Proof.Machine
end

