-- ==== Sys2Proof/Machine/PlotCmds.lean ====
section
/-! DEFINITION. The commands of plots, slots and contexts' sharing (R80-R87, R258-R282), one meaning each. -/
namespace Sys2Proof.Machine
open Sys2Proof
namespace State
/-- Every member pavilion of a plot is ON (R407). [log entry 127 DESIGN CHOICE] -/
def membersOn (s : State) (p : Nat) : Bool := (s.plotPavs p).all (fun v => s.fld PWR_DOM_CTRL_STATE v == 2)
/-- A write of PTR_PLOT_MAP register `i` (R82): the plots whose membership it would change hold it until their next frame boundary. -/
def plotMapWrite (s : State) (i v : Nat) : State :=
  let s := s.wr .PTR_PLOT_MAP (v &&& 0x9F9F9F9F) i
  (List.range 32).foldl (fun s p =>
    let d := s.memberDiff p
    if (s.plot p).memberHeld = d then s
    else s.setPlot p { s.plot p with memberHeld := d, memberDue := d && (s.plot p).memberDue }) s
/-- The frame boundary for a held membership change has come (R82, R83), and a pavilion moves at it. -/
def memberBoundary (s : State) (p : Nat) : Bool := (s.plot p).memberDue && (List.range 144).any (s.memberMoves p)
/-- A held membership change takes effect (R82, R279): a running slot is first paused. -/
def membershipChange (s : State) (p : Nat) : State :=
  if (s.running p).isSome then s.preempt p .member else s.applyMembership p
/-- Whether the running slot is to be switched out at this point (R275, R276, R279, R282): it is DONE and all its stages
have halted, or an RT slot waits for its quota while it is BE, or it has met its quota and another slot is chosen. -/
def preemptDue (s : State) (p : Nat) : Bool :=
  match s.running p with
  | none => false
  | some j =>
    (s.slotState p j == 3 && (s.progKeys p).all (fun k => (s.prog k).halted))
      || (s.slotState p j == 3 && (s.chooseSlot p).isSome && !(s.rtOpen p).isEmpty)
      || (s.isRt p j && (s.slot p j).rtsteps ≤ (s.slot p j).quota && (s.chooseSlot p).isSome && 1 < (s.bound p).length)
/-- The switch-out of the running slot and what follows it (R258, R274, R275, R282). -/
def switchOutDo (s : State) (p : Nat) : State :=
  match (s.plot p).act, s.running p with
  | .pause _ next, some j =>
    let save := if next = .stop then (if s.on PLT_SAVE_SV p then some (64 * s.fld PLT_SAVE_ADDR p) else none)
      else some (s.slotSave p j)
    let s := s.switchOut p j save
    let gone := (s.slot p j).unbindAfter
    let again := fun (s : State) => if gone then s else (s.setSlot p j { s.slot p j with reimage := true }).beginSwitchIn p j
    let s := if gone then s.unbind p j else s
    match next with
    | .reimage => again s
    | .member => again (s.applyMembership p)
    | .spare | .rewind => s.setPlot p { s.plot p with suspended := true }
    | .select | .unbind | .stop => s
  | _, _ => s
/-- Whether the pause can end in the switch-out: no program has a fired command (R93, R258). -/
def pauseQuiet (s : State) (p : Nat) : Bool := (s.progKeys p).all (fun k => (inFlight (s.prog k)).isEmpty)
/-- RT slots, bound and not DONE, that are short of their quota (R276). -/
def rtShort (s : State) (p : Nat) : List Nat :=
  (s.bound p).filter (fun j => s.isRt p j && s.slotState p j != 3 && decide ((s.slot p j).quota < (s.slot p j).rtsteps))
/-- A period starts (R276): each RT slot short of its quota counts RT_OVERRUN and carries on; every quota starts again; a running BE slot
gives way while an RT slot is bound, but a plot that holds a single bound slot never switches; a DONE slot is switched out (R275). -/
def periodStart (s : State) (p : Nat) : State :=
  let s := s.setPlot p { s.plot p with periodDue := false, periodAt := s.tick }
  let s := s.addSat PLT_PRE_CNT_OVERRUN (s.rtShort p).length p
  let s := (s.bound p).foldl (fun s j => s.setSlot p j { s.slot p j with quota := 0 }) s
  match s.running p with
  | some j =>
    if s.slotState p j = 3 ∨ (¬ s.isRt p j ∧ (s.bound p).any (s.isRt p) ∧ 1 < (s.bound p).length) then s.preempt p .select else s
  | none => s
/-- QUANTUM has expired for a running BE slot (R276): it is replaced only by an RT slot short of its quota or a BE slot of
strictly lower V; a DONE one is switched out (R275). -/
def quantumExpiry (s : State) (p : Nat) : State :=
  let s := (s.charge p).setPlot p { (s.charge p).plot p with quantumAt := s.tick }
  match s.running p with
  | none => s
  | some j =>
    if s.isRt p j then s
    else
      let lower : Bool := match s.leastV p (s.beReady p) with | some i => decide ((s.slot p i).v < (s.slot p j).v) | none => false
      if (s.slotState p j == 3 || !(s.rtOpen p).isEmpty || lower) = true then s.preempt p .select else s
/-- Whether QUANTUM has expired for the running slot. -/
def quantumDue (s : State) (p : Nat) : Bool :=
  (s.running p).isSome && decide ((s.plot p).quantumAt + max 1 (s.fld PLT_SHARE_QUANTUM p) * 100 * usTicks ≤ s.tick)
/-- A switch-in that waited for its fence goes on (R330). -/
def fenceResume (s : State) (p : Nat) : State :=
  match (s.plot p).act with
  | .fenceWait j =>
    if (s.plot p).advances.length ≤ 63 then
      let s := s.advanceGen p
      s.setPlot p { s.plot p with act := .load j }
    else s
  | _ => s
end State
/-- PLOT_ENABLE (R266, R110). -/
def execPlotEnable (p : Fin 32) (en : Bool) (s : State) : Outc :=
  done s (State.plotWork (s.enWrite (.plot p) en) p)
/-- IMAGE_LOAD (R87): once LPDDR is served and the member pavilions are ON. -/
def execImageLoad (p : Fin 32) (s : State) : Outc :=
  done s (if s.trained ∧ s.membersOn p then s.imageLoad p else s)
/-- PLOT_MAP_WRITE (R82). -/
def execPlotMapWrite (i : Fin 36) (v : BitVec 32) (s : State) : Outc := done s (s.plotMapWrite i v.toNat)
/-- MEMBERSHIP_CHANGE (R82, R83). -/
def execMembershipChange (p : Fin 32) (s : State) : Outc :=
  done s (if s.memberBoundary p then s.membershipChange p else s)
/-- SLOT_BIND (R272, R278): BIND goes 0 to 1 with the written PLT_SLOT_CFG. A slot that is bound ignores it. -/
def execSlotBind (p : Fin 32) (j : Fin 16) (v : BitVec 32) (s : State) : Outc :=
  done s (if s.slotState p j = 0 ∧ (s.slot p j).waits.isNone then s.slotBindWait p j v.toNat else s)
/-- SLOT_UNBIND (R275); a bind whose check still waits is taken back. -/
def execSlotUnbind (p : Fin 32) (j : Fin 16) (s : State) : Outc :=
  done s (if s.slotState p j = 0 then
      (if (s.slot p j).waits.isSome then (s.setSlot p j { s.slot p j with waits := none }).setFld PLT_SLOT_CFG_BIND 0 p j else s)
    else (s.setFld PLT_SLOT_CFG_BIND 0 p j).slotUnbind p j)
/-- REIMAGE (R282): the bit reads 1 until taken; a slot that is not running takes it at its next switch-in. -/
def execReimage (p : Fin 32) (j : Fin 16) (s : State) : Outc :=
  done s ((s.setFld PLT_SLOT_CFG_REIMAGE 1 p j).setSlot p j { s.slot p j with reimage := true })
/-- REIMAGE_SWITCH (R282): at a frame boundary the running slot, marked, is switched out and back in. -/
def execReimageSwitch (p : Fin 32) (s : State) : Outc :=
  done s (match s.running p with
    | some j =>
      if (s.plot p).reimgDue ∧ s.on PLT_SLOT_CFG_REIMAGE p j then
        (s.setPlot p { s.plot p with reimgDue := false }).preempt p .reimage
      else s
    | none => s)
/-- RESUME_ARM (R260): RV with the record's address, taken at slot 0's first switch-in. -/
def execResumeArm (p : Fin 32) (addr : BitVec 42) (s : State) : Outc :=
  done s ((s.setFld PLT_RESUME_ADDR addr.toNat p).setFld PLT_RESUME_RV 1 p)
/-- SEED_WRITE (R255): one 64-bit half of a seed, while the plot is OFF. -/
def execSeedWrite (p : Fin 32) (i : Fin 8) (hi : Bool) (v : BitVec 64) (s : State) : Outc :=
  done s (if s.plotState p = 0 then
    (if hi then s.wr .PLT_SEED_HI v.toNat p i else s.wr .PLT_SEED_LO v.toNat p i) else s)
/-- PERIOD_START (R276). -/
def execPeriodStart (p : Fin 32) (s : State) : Outc := done s (if (s.plot p).periodDue then s.periodStart p else s)
/-- QUANTUM_EXPIRY (R276). -/
def execQuantumExpiry (p : Fin 32) (s : State) : Outc := done s (if s.quantumDue p then s.quantumExpiry p else s)
/-- PREEMPT_REQUEST (R279): the running slot is to be switched out. -/
def execPreemptRequest (p : Fin 32) (s : State) : Outc :=
  done s (if s.preemptDue p then s.preempt p .select else s)
/-- PREEMPT_GRACE_EXPIRY (R279): at G after the request. -/
def execPreemptGraceExpiry (p : Fin 32) (s : State) : Outc :=
  done s (match (s.plot p).act with
    | .pause d _ => if d ≤ s.tick then s.graceExpiry p else s
    | _ => s)
/-- SWITCH_OUT (R258, R274): once every fired command has committed or been aborted. -/
def execSwitchOut (p : Fin 32) (s : State) : Outc :=
  done s (if s.pauseQuiet p ∧ s.trained then s.switchOutDo p else s)
/-- SWITCH_IN (R274, R276): a plot that is ON and holds no slot takes the slot chosen; one that waits for a fence goes on
when it may. -/
def execSwitchIn (p : Fin 32) (s : State) : Outc :=
  done s (
    if s.plotState p = 2 ∧ (s.running p).isNone ∧ (s.plot p).act = .idle ∧ ¬ (s.plot p).suspended
      ∧ ¬ s.fnBrief (.plot p) then
      match s.chooseSlot p with
      | some j => s.beginSwitchIn p j
      | none => s
    else s.fenceResume p)
end Sys2Proof.Machine
end

