-- ==== Sys2Proof/Machine/Halo.lean ====
section
/-! DEFINITION. HALO between chips (R131, R305, R306, R311): the pull at its consumer, the pending table at its producer,
acknowledgements. -/
namespace Sys2Proof.Machine
open Sys2Proof
namespace State
/-- `n` frames in a row have arrived on a link and been delivered (R296): they are acknowledged, by the last of them. -/
def zarriveN (s : State) (l n : Nat) : State :=
  let x := s.zlink l
  let s := s.setZlink l { x with lastRx := s.tick, rx := (x.rx + n) % 65536 }
  s.putFrame l ⟨.ack, s.zhl.chip, s.fld ZHL_LNK_CTRL_NBR_CHIP l, 32, 0, 0, [(x.rx + n + 65535) % 65536], []⟩
/-- A frame has arrived on a link and been delivered. -/
def zarrive (s : State) (l : Nat) : State := s.zarriveN l 1
/-- Whether an end-to-end sequence number is newer than the last delivered of its origin and class (R298). -/
def znewer (s : State) (key eseq : Nat) : Bool :=
  let l := s.zhl.seen.get 0 key
  l == 0 || (let d := (eseq + 2 ^ 32 + 1 - l) % 2 ^ 32; d != 0 && decide (d < 2 ^ 31))
/-- Receive a content, whose last frame has header `h` (R295, R298, R301): on an UP link its frames are acknowledged; those for another
chip are forwarded; one that is not newer than the last delivered is discarded; otherwise `use` is what it does here. -/
def zrecv (s : State) (h : ZHdr) (kind : ZKind) (args : List Nat) (payload : List Byte) (use : State → State) : State :=
  if ¬ s.linkUp h.link then s
  else
    let n := zcount args payload
    let s := s.zarriveN h.link n
    if h.dst.val ≠ s.zhl.chip then
      s.zforward ⟨kind, h.src, h.dst, h.ttl.toNat, h.tag.toNat, (h.eseq.toNat + 2 ^ 32 + 1 - n) % 2 ^ 32, args, payload⟩
    else
      let key := 32 * zclass kind + h.src
      if s.znewer key h.eseq.toNat then
        use { s with zhl := { s.zhl with seen := s.zhl.seen.set 0 key (h.eseq.toNat + 1) } }
      else s

/-! The consumer. -/

/-- Fields of HALO (R131). -/
def haloChip (ws : List Nat) : Nat := bits (word ws 0) 43 5
def haloPlot (ws : List Nat) : Nat := bits (word ws 0) 38 5
def haloChid (ws : List Nat) : Nat := bits (word ws 0) 30 8
def haloRow0 (ws : List Nat) : Nat := bits (word ws 1) 0 16
def haloRows (ws : List Nat) : Nat := bits (word ws 1) 16 16
/-- The fired HALO of a program. -/
def haloCmd (s : State) (k : Nat) : Option Cmd := s.firedOf k 0x44
/-- Send HALO_REQ (R305): program, step, plot, channel, rows and the tags of the destination banks. -/
def haloSend (s : State) (k : Nat) (c : Cmd) : State :=
  s.zsend (haloChip c.words) .haloReq (s.fld PLT_GEN_GEN (keyPlot k))
    ([k, c.step, haloPlot c.words, haloChid c.words, haloRow0 c.words, haloRows c.words] ++ c.tags.map (fun t => t.2)) []
/-- The rows are there, and the command may commit at `due`: it finishes with their codes and scale entries in its destination, under its
scale header, which names no S2 table (R131 gives none). [log entries 98 DEDUCED, 282 DEDUCED] -/
def haloFill (s : State) (k : Nat) (c : Cmd) (due : Nat) (codes ents : List Nat) (axis : Nat) (bmax : Int) : State :=
  let i := mTD (word c.words 0)
  let t := s.td k i
  let b := match c.tags with | (b, _) :: _ => b | [] => (s.outPlace k i).key
  let h : Hdr := { code := tdCode t, zp := tdZp t, rank := tdRank t, dims := tdDims t, axis := axis, bmax := bmax, s2tab := 0 }
  s.finish k { c with remote := false, due := due }
    { writes := [((storeOf b).1, tensorBytes (tdCode t) codes ents)], hdrs := [(b, h)] }
/-- The rows of a HALO on an ISLAND chip are zero bytes (R311), at once; the axis of its scale header is the descriptor's, and its
largest exponent is open, a function of the instruction and the descriptor. [log entry 100 DESIGN CHOICE] -/
def haloZero (s : State) (k : Nat) (c : Cmd) : State :=
  let t := s.td k (mTD (word c.words 0))
  let ax := if tdFlat t then 4 else 0
  let n := if coded (tdCode t) then blockCount (tdDims t) ax else 0
  (s.haloFill k c s.fc (List.replicate (nElems (tdDims t)) 0) (List.replicate n 0) ax ((Config.zeroBmax c.words t % 64 : Nat) : Int)).zrefused 0x080A
/-- HALO runs (R305, R311): its request is sent once, or on an ISLAND chip it completes at once. -/
def haloRun (s : State) (k : Nat) : State :=
  if ¬ s.ctxActive (s.plotCtx (keyPlot k)) then s
  else match s.haloCmd k with
  | some c =>
    if c.remote then s
    else if s.islanded then s.haloZero k c
    else
      let g := s.prog k
      (s.setProg k { g with cmds := g.cmds.map (fun e => if e.seq = c.seq then { e with remote := true } else e) }).haloSend k c
  | none => s
/-- Send the request of a HALO again after a BUSY answer (R305). -/
def haloAgain (s : State) (k : Nat) : State :=
  let s := { s with zhl := { s.zhl with haloRetry := s.zhl.haloRetry.erase k } }
  match s.haloCmd k with
  | some c => if c.remote then s.haloSend k c else s
  | none => s
/-- The tags of a HALO's destination banks still stand, the first at the one that an answer carries (R20, R280). -/
def haloTagOk (s : State) (c : Cmd) (tag : Nat) : Bool :=
  match c.tags with
  | (b, _) :: t => s.tagOf b == tag && t.all (fun x => s.tagOf x.1 == x.2)
  | [] => true
/-- HALO_DATA for program `k` (R305): rows with their scale header; REFUSED faults SHAPE_BAD (R131); an answer with an old tag is dropped
and counted (R20, R280). The command then takes the duration of R131 from its fire. -/
def haloData (s : State) (k : Nat) (step tag : Nat) (codes ents : List Nat) (axis : Nat) (bmax : Int) (refused : Bool) : State :=
  match s.haloCmd k with
  | some c =>
    if c.remote ∧ c.step = step then
      if refused then s.runFault k c 0x020E
      else if ¬ s.haloTagOk c tag then s.staleTag
      else
        let bytes := (tensorBytes (tdCode (s.td k (mTD (word c.words 0)))) codes ents).length
        s.haloFill k c (c.firedAt + s.haloFc c.words bytes) codes ents axis bmax
    else s.staleTag
  | none => s.staleTag
/-- A committed HALO awaits its acknowledgement until the drain point of its step (R305). -/
def haloCommitted (s : State) (k : Nat) (c : Cmd) : State :=
  if opc (word c.words 0) = 0x44 ∧ ¬ s.islanded then
    s.setProg k { s.prog k with halos := (s.prog k).halos ++ [(haloChip c.words, haloPlot c.words, haloChid c.words, c.step)] }
  else s
/-- The acknowledgements of a drain point (R305). -/
def haloAcks (s : State) (k : Nat) : State :=
  let hs := (s.prog k).halos
  let s := s.setProg k { s.prog k with halos := [] }
  hs.foldl (fun s h => s.zsend h.1 .haloAck 0 [h.2.1, h.2.2.1, h.2.2.2, 0] []) s

/-! The producer. -/

/-- The slot of a channel that holds the commit of a step, FULL (R305). -/
def haloSlot (s : State) (key step : Nat) : Option Nat :=
  match s.chanDecls (key / 256) (key % 256) with
  | x :: _ => (List.range (s.ringOf key)).find? (fun i =>
      s.fullOf (s.chanPlace (key / 256) x.2.1 i).key && (s.chan key).steps.get 0 i == step)
  | [] => none
/-- HALO_REQ at the producer (R305): it waits in the table of 512, or is answered BUSY. [log entry 99 DEDUCED] -/
def haloReq (s : State) (h : ZHalo) : State :=
  if 512 ≤ s.zhl.halos.length then s.zsend h.chip .haloBusy 0 [h.prog] []
  else
    let key := 256 * h.plot + h.chid
    let rs := if s.zhl.readers.contains (key, h.chip) then s.zhl.readers else s.zhl.readers ++ [(key, h.chip)]
    { s with zhl := { s.zhl with halos := s.zhl.halos ++ [h], readers := rs } }
/-- A request that can be answered now. -/
def haloReady (s : State) (h : ZHalo) : Bool := (s.haloSlot (256 * h.plot + h.chid) h.step).isSome
/-- The codes of rows `row0` to `row0 + rows − 1` along D2 of a tensor. -/
def tenRows (t : Ten) (row0 rows : Nat) : List Nat :=
  let pl := ext t.dims 0 * ext t.dims 1
  (List.range (ext t.dims 3)).flatMap (fun d => (t.codes.toList.drop ((d * ext t.dims 2 + row0) * pl)).take (rows * pl))
/-- The scale entries of those rows: of their planes, or along axis 2 of the blocks of 16 rows that they touch. -/
def tenEnts (t : Ten) (row0 rows : Nat) : List Nat :=
  let d2 := ext t.dims 2
  let all := t.ents.toList
  if ¬ coded t.code then []
  else if t.axis = 2 then
    let nb := cdiv d2 16
    let first := row0 / 16
    let n := (row0 + rows - 1) / 16 + 1 - first
    let lines := all.length / max 1 nb
    (List.range lines).flatMap (fun i => (all.drop (i * nb + first)).take n)
  else
    let per := all.length / max 1 (d2 * ext t.dims 3)
    (List.range (ext t.dims 3)).flatMap (fun d => (all.drop ((d * d2 + row0) * per)).take (rows * per))
/-- Answer a request from its slot (R131, R305); rows beyond D2 are refused. -/
def haloAnswer (s : State) (h : ZHalo) : State :=
  let key := 256 * h.plot + h.chid
  let s := { s with zhl := { s.zhl with halos := s.zhl.halos.erase h } }
  match s.haloSlot key h.step, s.chanDecls h.plot h.chid with
  | some i, x :: _ =>
    let pl := s.chanPlace h.plot x.2.1 i
    match s.hdrOf pl.key with
    | some hd =>
      if ext hd.dims 2 < h.row0 + h.rows then s.zsend h.chip .haloRefused h.tag [h.prog, h.step] []
      else
        let t := s.readTen pl.addr hd
        s.zsend h.chip .haloData h.tag [h.prog, h.step, hd.axis, ofSigned 8 hd.bmax]
          (tensorBytes hd.code (tenRows t h.row0 h.rows) (tenEnts t h.row0 h.rows))
    | none => s
  | _, _ => s
/-- A remote reader's acknowledgement of a step (R305, R306): the slot is consumed for it, at once or when that step commits,
first or again; a request of it that still waits is given up; an abandoned one counts. -/
def haloAck (s : State) (chip plot chid step : Nat) (abandon : Bool) : State :=
  let key := 256 * plot + chid
  let r := remoteReader chip
  let s := { s with zhl := { s.zhl with
    halos := s.zhl.halos.filter (fun h => !(h.chip == chip && h.plot == plot && h.chid == chid && h.step == step)),
    early := s.zhl.early.filter (fun e => e != (key, step, r)) ++ [(key, step, r)] } }
  let s := if abandon then (s.bump 0x0809).addSat ZHL_GRP_CNT_ABANDON 1 else s
  match s.haloSlot key step with
  | some i =>
    if ((s.chan key).consumed.get [] i).contains r then s else s.consumeSlot r key i (s.fc + meshBel)
  | none => s
/-- A chip is lost (R306, R310): the acknowledgements it owes are given, each counted. -/
def haloLost (s : State) (chip : Nat) : State :=
  let s := { s with zhl := { s.zhl with halos := s.zhl.halos.filter (fun h => h.chip != chip) } }
  (s.zhl.readers.filter (fun x => x.2 == chip)).foldl (fun s x =>
    match s.chanDecls (x.1 / 256) (x.1 % 256) with
    | d :: _ =>
      (List.range (s.ringOf x.1)).foldl (fun s i =>
        if s.fullOf (s.chanPlace (x.1 / 256) d.2.1 i).key ∧ ¬ ((s.chan x.1).consumed.get [] i).contains (remoteReader chip) then
          ((s.bump 0x0809).addSat ZHL_GRP_CNT_ABANDON 1).consumeSlot (remoteReader chip) x.1 i (s.fc + meshBel)
        else s) s
    | [] => s) s
end State

/-! The commands. A program is named by its key, 256 × plot + stage, in frames. -/

/-- HALO_REQ (R305). -/
def execHaloReq (h : ZHdr) (k : BitVec 13) (step : BitVec 32) (plot : Fin 32) (chid : BitVec 8) (row0 rows : BitVec 16)
    (tags : List (BitVec 12)) (s : State) : Outc :=
  done s (s.zrecv h .haloReq ([k.toNat, step.toNat, plot, chid.toNat, row0.toNat, rows.toNat] ++ tags.map (fun t => t.toNat)) []
    (fun s => s.haloReq ⟨h.src, k.toNat, step.toNat, plot, chid.toNat, row0.toNat, rows.toNat, match tags with | t :: _ => t.toNat | [] => 0⟩))
/-- HALO_ANSWER (R305): the oldest request that can be answered. -/
def execHaloAnswer (s : State) : Outc :=
  done s (match s.zhl.halos.find? s.haloReady with
    | some h => s.haloAnswer h
    | none => s)
/-- HALO_BUSY_RETRY (R305): the BUSY answer arrives, or 1 µs after it the request is sent again. -/
def execHaloBusyRetry (busy : Option ZHdr) (k : BitVec 13) (s : State) : Outc :=
  done s (match busy with
    | some h => s.zrecv h .haloBusy [k.toNat] []
        (fun s => { s with zhl := { s.zhl with haloRetry := s.zhl.haloRetry.set 0 k.toNat (s.tick + 1) } })
    | none =>
      let t := s.zhl.haloRetry.get 0 k.toNat
      if t ≠ 0 ∧ t - 1 + usTicks ≤ s.tick then s.haloAgain k.toNat else s)
/-- HALO_DATA (R305): the rows' codes, scale entries and scale header, or the refusal of rows beyond D2. -/
def execHaloData (h : ZHdr) (k : BitVec 13) (step : BitVec 32) (codes : List (BitVec 32)) (ents : List (BitVec 16)) (axis : Fin 5) (bmax : BitVec 8)
    (refused : Bool) (s : State) : Outc :=
  done s (s.zrecv h (if refused then .haloRefused else .haloData)
    ([k.toNat, step.toNat] ++ if refused then [] else [axis.val, bmax.toNat])
    (codes.flatMap (fun x => leBytes 4 x.toNat) ++ ents.flatMap (fun x => leBytes 2 x.toNat))
    (fun s => s.haloData k.toNat step.toNat h.tag.toNat (codes.map (fun x => x.toNat)) (ents.map (fun x => x.toNat)) axis
      (toSigned 8 bmax.toNat) refused))
/-- HALO_ACK (R305, R306). -/
def execHaloAck (h : ZHdr) (plot : Fin 32) (chid : BitVec 8) (step : BitVec 32) (abandon : Bool) (s : State) : Outc :=
  done s (s.zrecv h .haloAck [plot, chid.toNat, step.toNat, b2n abandon] []
    (fun s => s.haloAck h.src plot chid.toNat step.toNat abandon))
end Sys2Proof.Machine
end

