-- ==== Sys2Proof/Machine/Zhev.lean ====
section
/-! DEFINITION. Zhevlink's links (R293-R299), group, barrier, time and rejoin (R262, R263, R300-R314). -/
namespace Sys2Proof.Machine
open Sys2Proof
namespace State

/-! Fences on links (R309). -/

def setFences (s : State) (fs : List ZFence) : State := { s with zhl := { s.zhl with fences := fs } }
/-- A fence whose links have all answered is confirmed at its origin, and answered upstream elsewhere. -/
def fenceSettle (s : State) (f : ZFence) : State :=
  if f.waiting.isEmpty then
    let s := s.setFences (s.zhl.fences.filter (fun g => !(g.origin == f.origin && g.id == f.id)))
    if f.up = 0 then s.fenceConfirm f
    else s.putFrame (f.up - 1) ⟨.fenceAck, s.zhl.chip, s.fld ZHL_LNK_CTRL_NBR_CHIP (f.up - 1), 32, 0, 0, [f.origin, f.id], []⟩
  else s.setFences (s.zhl.fences.map (fun g => if g.origin = f.origin ∧ g.id = f.id then f else g))
/-- Send a fence on a link. -/
def fenceOn (s : State) (l origin id : Nat) : State :=
  s.putFrame l ⟨.fence, origin, s.fld ZHL_LNK_CTRL_NBR_CHIP l, 32, 0, 0, [id], []⟩
/-- A FENCE of `origin` arrives (R309): it goes on by every link that forwarded the origin's traffic, or is answered.
[log entry 179 DEDUCED] -/
def fenceIn (s : State) (l origin id : Nat) : State :=
  let ls := ((s.zhl.fwd.filter (fun x => x.1 == origin && x.2 != l && s.linkUp x.2)).map (fun x => x.2))
  let f : ZFence := ⟨origin, id, l + 1, ls, [], s.tick, []⟩
  let s := s.setFences (s.zhl.fences ++ [f])
  if ls.isEmpty then s.fenceSettle f else ls.foldl (fun s m => s.fenceOn m origin id) s
/-- A FENCE_ACK arrives on a link. -/
def fenceAckIn (s : State) (l origin id : Nat) : State :=
  match s.zhl.fences.find? (fun f => f.origin == origin && f.id == id && f.waiting.contains l) with
  | some f => s.fenceSettle { f with waiting := f.waiting.erase l }
  | none => s

/-! Links (R293-R298). -/

/-- Power, training and routes as a link's state machine asks (R293). -/
def linkWork (x : State × SwWork) (l : Fin 8) : State :=
  match x.2 with
  | .start => ((x.1.ownDomain (190 + l) true).setFld ZHL_LNK_CTRL_LSTATE 1 l).setZlink l {}
  | .stop => x.1.reachUpdate
  | .none => x.1
/-- The drain of a stopping link is over: nothing awaits acknowledgement, or nothing can be acknowledged. -/
def linkDrained (s : State) (l : Nat) : Bool := (s.zlink l).retry.isEmpty || s.fld ZHL_LNK_CTRL_LSTATE l != 2
/-- STOPPING of a link is complete: powered down. -/
def linkOff (s : State) (l : Fin 8) : State :=
  let s := ((s.setFld ZHL_LNK_CTRL_LSTATE 0 l).ownDomain (190 + l) false).setZlink l {}
  s.stopDone (.link l)
/-- The acknowledged reason why a training attempt fails, 0 for none (R294); `other`: the neighbour is not the one that another link with
its chip id has, as is one with the same link number too. -/
def trainReason (s : State) (l : Nat) (lanes : List Nat) (rtt gid nchip nlink : Nat) (other : Bool) : Nat :=
  if lanes.length < 4 then 1
  else if max 1 (s.fld ZHL_GRP_TIMING_RTT_MAX) < rtt then 2
  else if gid ≠ s.zhl.gid then 3
  else if nchip = s.zhl.chip ∨ (List.range 8).any (fun m => m != l && s.linkUp m
      && s.fld ZHL_LNK_CTRL_NBR_CHIP m == nchip && (other || s.fld ZHL_LNK_CTRL_NBR_LINK m == nlink)) then 4
  else 0
/-- A training attempt fails (R294): retried after 100 ms, alarmed once per outage. [log entry 176 DEDUCED] -/
def trainFail (s : State) (l reason : Nat) : State :=
  let x := s.zlink l
  let s := (s.setFld ZHL_LNK_CTRL_TRAIN_REASON reason l).setFld ZHL_LNK_CTRL_LSTATE 0 l
  let s := s.setZlink l { x with failed := true, failAt := some s.tick }
  if x.failed then s else s.alarm (0x48 + l) 0x0803
/-- Training succeeds (R294, R297): the four lowest good lanes carry data, the fifth is the spare; the spare counts as used
where a lane of 0 to 3 is not among them. [log entry 174 DEDUCED] -/
def trainOk (s : State) (l : Fin 8) (lanes : List Nat) (rtt nchip nlink : Nat) : State :=
  let spare := ((List.range 5).find? (fun i => !(lanes.take 4).contains i)).getD 4
  let s := (s.setFld ZHL_LNK_CTRL_SPARE spare l).setFld ZHL_LNK_CTRL_SPARE_USED (b2n (spare != 4)) l
  let s := ((s.setFld ZHL_LNK_CTRL_NBR_CHIP nchip l).setFld ZHL_LNK_CTRL_NBR_LINK nlink l).setFld ZHL_LNK_CTRL_TRAIN_REASON 0 l
  let s := (s.setFld ZHL_LNK_RTT_RTT rtt l).setFld ZHL_LNK_CTRL_LSTATE 2 l
  let s := s.setZlink l { lastRx := s.tick, helloAt := s.tick }
  let s := if s.fld ZHL_LNK_CTRL_STATE l = 1 then s.startDone (.link l) true else s
  (s.putFrame l (s.helloFrame l)).reachUpdate
/-- A link goes DOWN (R298, R309): it retrains; its unacknowledged frames go by the routes that take over, in order, and then
the fences they carried. -/
def linkDown (s : State) (l : Nat) : State :=
  let frames := (s.zlink l).retry.map (fun x => x.2) ++ (s.zlink l).wait
  let s := (s.setFld ZHL_LNK_CTRL_LSTATE (if s.fld ZHL_LNK_CTRL_STATE l = 2 then 1 else 0) l).addSat ZHL_LNK_CNT_DOWN 1 l
  let s := s.setZlink l {}
  let s := { s with zhl := { s.zhl with stableAt := none } }
  let s := (s.alarm (0x40 + l) 0x0801).reachUpdate
  let local_ := fun (f : ZFrame) => f.kind == .fence || f.kind == .fenceAck || f.kind == .hello || f.kind == .lstate
  let moved := frames.filter (fun f => !local_ f)
  let s := moved.foldl routeFrame s
  let acks := frames.filter (fun f => f.kind == .fenceAck)
  let s := acks.foldl (fun s f => s.routeFrame f) s
  (s.zhl.fences.filter (fun f => f.waiting.contains l)).foldl (fun s f =>
    let took := ((moved.filter (fun g => g.src == f.origin)).filterMap (fun g => (s.routeTo g.dst).map (fun r => r.1))).eraseDups
    let new := took.filter (fun m => !f.waiting.contains m)
    let s := s.fenceSettle { f with waiting := f.waiting.erase l ++ new }
    new.foldl (fun s m => s.fenceOn m f.origin f.id) s) s
/-- A timing-only event begins (R447): 0 refresh slot, 1 ECC write-back, 2 Zhevlink retry, 3 emergency throttle. -/
def tcount (s : State) (i : Nat) : State := s.addWrap GZB_TCNT_COUNT 1 i
/-- Send again what the retry buffer of a link holds; during a lane swap that waits for its end (R297). -/
def replay (s : State) (l : Nat) : State :=
  if (s.zlink l).swap.isSome then s else (s.zlink l).retry.foldl (fun s x => s.emit (.zhl l x.1 x.2 (zwire x.1 x.2))) s
/-- An ACK or NAK (R296, R298): earlier frames are acknowledged; a NAK replays from the frame it names, and its sixteenth in
a row for one frame takes the link down. [log entry 175 DEDUCED] -/
def ackIn (s : State) (l : Nat) (nak : Bool) (lseq : Nat) : State :=
  let x := s.zlink l
  let keep := x.retry.filter (fun f => serialGe 16 f.1 (if nak then lseq else (lseq + 1) % 65536))
  if ¬ nak then (s.setZlink l { x with retry := keep, nakRun := 0 }).linkRefill l
  else
    let run := if x.nakRun ≠ 0 ∧ x.nakAt = lseq then x.nakRun + 1 else 1
    let s := s.setZlink l { x with retry := keep, nakRun := run, nakAt := lseq }
    if 16 ≤ run then s.linkDown l else ((((s.addSat ZHL_LNK_CNT_RETRY 1 l).tcount 2).replay l)).linkRefill l
/-- A frame that fails its check (R296, R303): a CRC error or sequence gap is NAKed with the expected LSEQ; an unassigned TYPE
is dropped. Both but the gap count as CRCERR. -/
def frameBad (s : State) (l : Nat) (kind : Fin 3) : State :=
  let s := s.setZlink l { s.zlink l with lastRx := s.tick }
  let s := if kind = 1 then s else s.addSat ZHL_LNK_CNT_CRCERR 1 l
  if kind = 2 then s.zarrive l
  else s.putFrame l ⟨.nak, s.zhl.chip, s.fld ZHL_LNK_CTRL_NBR_CHIP l, 32, 0, 0, [(s.zlink l).rx], []⟩
/-- A lane that carries data fails (R297): the spare is swapped in if it is free, else the link goes down. -/
def laneFail (s : State) (l lane : Nat) : State :=
  if lane = s.fld ZHL_LNK_CTRL_SPARE l ∨ (s.zlink l).swap = some lane then s
  else if s.on ZHL_LNK_CTRL_SPARE_USED l ∨ (s.zlink l).swap.isSome then s.linkDown l
  else s.setZlink l { s.zlink l with swap := some lane }
/-- The swap is done (R297): the failed lane takes the spare position, and the held frames are replayed. -/
def laneSwap (s : State) (l : Nat) : State :=
  match (s.zlink l).swap with
  | some lane =>
    let s := s.setZlink l { s.zlink l with swap := none }
    let s := (s.setFld ZHL_LNK_CTRL_SPARE lane l).setFld ZHL_LNK_CTRL_SPARE_USED 1 l
    (((s.addSat ZHL_LNK_CNT_SWAP 1 l).tcount 2).logFree 0x0802 8 l 0xFFFF).replay l
  | none => s
/-- What a neighbour says of itself: its reachability set and the chips it knows in GROUP. -/
def neighbour (s : State) (l reach : Nat) (group : Option Nat) : State :=
  let s := s.setZlink l { s.zlink l with lastRx := s.tick, reach := reach }
  let s := match group with
    | some g => { s with zhl := { s.zhl with group := setBits g s.zhl.chip 1 (b2n (s.gstate == 1)) } }
    | none => s
  s.reachUpdate

/-! The group (R300, R310, R311, R313, R314). -/

/-- Whether the configured group has other chips (R300). -/
def inGroup (s : State) : Bool := s.zhl.gid != 0 && (maskBits s.zhl.members).any (fun c => c != s.zhl.chip)
/-- The chip becomes ISLAND (R311): HALOs complete with zero rows, and ON plots whose running image has a variant are to be
re-imaged with it. -/
def islandEnter (s : State) : State :=
  let s := s.setFld ZHL_GRP_STAT_GSTATE 2
  let s := (s.par.prog.map (fun x => x.1)).foldl (fun s k =>
    match s.haloCmd k with
    | some c => if c.remote then s.haloZero k c else s
    | none => s) s
  let s := { s with zhl := { s.zhl with haloRetry := [] } }
  (List.range 32).foldl (fun s p =>
    if s.plotState p = 2 then s.setPlot p { s.plot p with island := true } else s) s
/-- Re-image the running slot of every ON plot with its group image (R314). -/
def groupImages (s : State) : State :=
  (List.range 32).foldl (fun s p =>
    match s.running p with
    | some j =>
      if s.plotState p = 2 then
        ((s.setSlot p j { s.slot p j with island := false }).setPlot p { s.plot p with island := false }).preempt p .reimage
      else s
    | none => s) s
/-- The cross-cut wickets and proxies that hold anything: COUNT 0 and no waiter (R314). -/
def xcutClear (s : State) : State :=
  let st := Reg.addr .PTR_WKT 1 0 - Reg.addr .PTR_WKT 0 0
  let lo := Reg.addr .PTR_WKT 0 0
  let ws := s.par.wkt.map (fun x => x.1) ++ (s.regs.filter (fun x => decide (lo ≤ x.1 ∧ x.1 < lo + st * 131072))).map (fun x => (x.1 - lo) / st)
  ws.eraseDups.foldl (fun s w =>
    if s.xcut w ∨ (s.proxyOf w).isSome then
      ((s.setWkt w { s.wkt w with count := 0, rwait := none }).setFld PTR_WKT_WKIND 0 w).setFld PTR_WKT_WID 0 w
    else s) s
/-- The written group configuration takes effect (R300). [log entries 184 DEDUCED, 187 DEDUCED] -/
def groupApply (s : State) : State :=
  let s := { s with zhl := { s.zhl with
    gid := s.fld ZHL_GRP_CFG_GROUP_ID, chip := s.fld ZHL_GRP_CFG_CHIP, anchor := s.fld ZHL_GRP_CFG_ANCHOR,
    aauto := s.on ZHL_GRP_CFG_AAUTO, lc := s.fld ZHL_GRP_CFG_LC, autoRj := s.on ZHL_GRP_CFG_AUTO_REJOIN,
    members := s.fld ZHL_GRP_MEMBERS_MEMBERS, cfgPending := false, cfgDue := false } }
  let s := if ¬ s.inGroup then s.setFld ZHL_GRP_STAT_GSTATE 0 else if s.gstate = 0 then s.islandEnter else s
  s.reachUpdate
/-- A write of GROUP_ID = 0 in ISLAND takes the chip out of the group at once (R311). -/
def groupLeave (s : State) : State :=
  ({ s with zhl := { s.zhl with gid := 0 } }.setFld ZHL_GRP_STAT_GSTATE 0).reachUpdate
/-- A member unreachable for 2 ms, not declared lost. -/
def cutOffs (s : State) : List Nat :=
  (maskBits s.zhl.members).filter (fun d => d != s.zhl.chip && !bit s.zhl.lost d && s.zhl.unreachAt.get 0 d != 0
    && decide (s.zhl.unreachAt.get 0 d - 1 + 2000 * usTicks ≤ s.tick))
/-- Members are cut off (R310): the keeping side declares them lost; another side becomes ISLAND. [log entry 285 DEDUCED] -/
def cutOff (s : State) (noSideKeeps : Bool) : State :=
  if s.keepsCanvas then
    s.cutOffs.foldl (fun s d =>
      let s := { s with zhl := { s.zhl with lost := setBits s.zhl.lost d 1 1 } }
      ((s.alarm 0x50 0x0804).addSat ZHL_GRP_CNT_LOST 1).haloLost d) s
  else
    let s := s.islandEnter.alarm 0x51 0x0805
    let s := s.floodState
    if noSideKeeps ∧ s.actingAnchor = s.zhl.chip then s.alarm 0x52 0x0806 else s
/-- The acting anchor of the side in GROUP that this chip reaches. -/
def groupAnchor (s : State) : Option Nat :=
  let r := s.reachSet.filter (fun c => c != s.zhl.chip && bit s.zhl.group c)
  if r.contains s.confAnchor then some s.confAnchor else r.head?
/-- Send REJOIN_REQ (R313): whether LC runs in PTP mode, whether the last step of TB6 was refused. [log entry 185 DEDUCED] -/
def rejoinSend (s : State) : State :=
  match s.groupAnchor with
  | some a =>
    let s := { s with zhl := { s.zhl with rjAt := some s.tick } }
    s.zsend a .rejoinReq 0 [b2n ((s.lclock s.zhl.lc).mode == 3), b2n (s.tbase 6).refused] []
  | none => s
/-- A request is refused or lapses (R313): REJOIN_BAD with its cause; the 1 s starts afresh. -/
def rejoinBad (s : State) (cause : Nat) : State :=
  let s := ((s.bump 0x0808).setFld ZHL_GRP_STAT_RJCAUSE cause).setFld ZHL_GCMD_REJOIN 0
  { s with zhl := { s.zhl with rjAt := none, stableAt := (s.zhl.stableAt.map (fun _ => s.tick)) } }
/-- A grant is recorded: the rejoin frame of chip `who` (R313). -/
def grantNote (s : State) (who fr : Nat) : State :=
  { s.setFld ZHL_RJFRAME_FR fr with
    zhl := { s.zhl with rjMask := setBits s.zhl.rjMask who 1 1, grants := s.zhl.grants.set 0 who (fr + 1) } }
/-- REJOIN_REQ at the acting anchor (R313). -/
def rejoinReq (s : State) (src : Nat) (ptp jump : Bool) : State :=
  let lc := s.zhl.lc
  let f := (s.lcPos lc).1
  let old := s.zhl.grants.get 0 src
  if s.gstate ≠ 1 ∨ s.actingAnchor ≠ s.zhl.chip then s
  else if ¬ ptp ∨ (s.lclock lc).mode ≠ 3 then s.zsend src .rejoinGrant 0 [src, 0, 1] []
  else if jump then s.zsend src .rejoinGrant 0 [src, 0, 2] []
  else
    let fr := if old ≠ 0 ∧ ¬ serialGe 32 f (old - 1) then old - 1 else (f + 4) % 2 ^ 32
    let s := s.grantNote src fr
    (maskBits s.zhl.members).foldl (fun s m =>
      if m ≠ s.zhl.chip ∧ (m = src ∨ bit (s.fld ZHL_GRP_STAT_REACH) m) then s.zsend m .rejoinGrant 0 [src, fr, 0] [] else s) s
/-- REJOIN_GRANT (R313). [log entry 186 DEDUCED] -/
def rejoinGrant (s : State) (who fr cause : Nat) : State :=
  if who = s.zhl.chip then
    if s.zhl.rjAt.isNone then s
    else if cause ≠ 0 then s.rejoinBad cause
    else
      let s := ((s.grantNote who fr).setFld ZHL_GRP_STAT_GSTATE 3).setFld ZHL_GCMD_REJOIN 0
      { s with zhl := { s.zhl with rjAt := none } }
  else if cause = 0 then s.grantNote who fr
  else s
/-- The chips whose rejoin frame has begun (R313, R314). -/
def rejoiners (s : State) : List Nat :=
  (maskBits s.zhl.rjMask).filter (fun c => serialGe 32 (s.lcPos s.zhl.lc).1 (s.zhl.grants.get 0 c - 1))
def rejoinDue (s : State) : Bool := (s.lclock s.zhl.lc).live && !s.rejoiners.isEmpty
/-- The rejoin frame starts (R314): a rejoining chip enters GROUP; a member counts the rejoining chips in the group again.
[log entry 182 DEDUCED] -/
def rejoinFrame (s : State) : State :=
  let m := s.rejoiners
  let s := { s with zhl := { s.zhl with
    rjMask := m.foldl (fun x c => setBits x c 1 0) s.zhl.rjMask,
    grants := s.zhl.grants.filter (fun x => !m.contains x.1),
    lost := m.foldl (fun x c => setBits x c 1 0) s.zhl.lost,
    group := m.foldl (fun x c => setBits x c 1 1) s.zhl.group } }
  if s.gstate = 3 ∧ m.contains s.zhl.chip then
    let s := s.setFld ZHL_GRP_STAT_GSTATE 1
    let s := { s with zhl := { s.zhl with reached := true, lost := 0 } }
    ((s.xcutClear.groupImages.logFree 0x0807 8 0 0xFFFF).addSat ZHL_GRP_CNT_REJOINS 1).reachUpdate.floodState
  else s.reachUpdate.floodState
/-- A formation (R314): a chip not in GROUP since power-on enters it with its side, where at the frame start no reachable chip was in GROUP.
[log entry 183 DEDUCED] -/
def formation (s : State) : State :=
  let s := s.setFld ZHL_GRP_STAT_GSTATE 1
  ({ s with zhl := { s.zhl with reached := true, formDue := false } }).reachUpdate.floodState
def formationDue (s : State) : Bool := s.zhl.formDue && s.gstate == 2 && !s.zhl.reached

/-! The group barrier (R262, R263). -/

/-- Whether a release is read on corrected TB6: SYNC_EN, the configured anchor acting, an edge stamped. [log entry 180 DEDUCED] -/
def gbarSync (s : State) : Bool := s.on PTR_GBAR_CFG_SYNC_EN && s.actingAnchor == s.confAnchor && s.zhl.syncAt.isSome
/-- TB6 as the release of a barrier reads it, in 1/16 ns, the anchor's edge having been stamped `ts`. -/
def gbarTime (s : State) (ts : Nat) : Int :=
  let t : Int := s.tb16 6
  if s.gbarSync then t - ((s.zhl.syncAt.getD 0 : Int) - s.fld PTR_GBAR_DLY_SYNC_DLY - ts) else t
/-- Release the participants of a group barrier here. -/
def gbarOpen (s : State) (w : Nat) (late : Bool) : State :=
  let s := if late then (s.bump 0x0213).addSat PTR_GBAR_STAT_LATE 1 else s
  let s := if s.gbarSync then s else (s.bump 0x0214).addSat PTR_GBAR_STAT_NOSYNC 1
  let s := { s with zhl := { s.zhl with rels := s.zhl.rels.set none w none, syncAt := none } }
  s.barrierOpen w
/-- RELEASE of barrier `w` (R262): kept until its time, or at once when that has passed; an ISLAND chip keeps it until it has rejoined. -/
def gbarRelease (s : State) (w trel ts : Nat) : State :=
  if ¬ (s.wkt w).released then s
  else
    let s := { s with zhl := { s.zhl with rels := s.zhl.rels.set none w (some (trel, ts)) } }
    if ¬ s.islanded ∧ (trel : Int) < s.gbarTime ts then s.gbarOpen w true else s
/-- ARRIVE of a chip for barrier `w` at the anchor (R262): the last one sets the release, which an ISLAND chip does not.
[log entry 181 DEDUCED] -/
def gbarArrive (s : State) (src w : Nat) : State :=
  let a := s.zhl.arrivals.get [] w
  let a := if a.contains src then a else a ++ [src]
  if ¬ s.islanded ∧ (maskBits s.zhl.members).all a.contains = true then
    let s := { s with zhl := { s.zhl with arrivals := s.zhl.arrivals.set [] w [] } }
    let ts := s.tb16 6
    let trel := ts + max 1 (s.fld PTR_GBAR_CFG_RLEAD) * 16000
    let s := (s.emit (.pin "SYNC_OUT" true)).emit (.pin "SYNC_OUT" false)
    (maskBits s.zhl.members).foldl (fun s m =>
      if m = s.zhl.chip then s.gbarRelease w trel ts else s.zsend m .release 0 [w, trel, ts] []) s
  else { s with zhl := { s.zhl with arrivals := s.zhl.arrivals.set [] w a } }
/-- The k-th arrival at a barrier (R100, R262): a group barrier in a group goes by its anchor, and on an ISLAND chip waits. -/
def barrierRelease (s : State) (w : Nat) : State :=
  let g := s.wkt w
  if ¬ barrierFull g then s
  else if g.group ∧ s.gstate ≠ 0 then
    if s.islanded then s
    else if g.released then (if s.zhl.arrivals.get [] w = [] then s else s.gbarArrive s.zhl.chip w)
    else
      let s := s.setWkt w { g with released := true }
      let a := s.actingAnchor
      if a = s.zhl.chip then s.gbarArrive a w else s.zsend a .arrive 0 [w] []
  else s.barrierOpen w

/-! Proxied wickets at home and at the proxy (R307, R311). -/

/-- WSIG frame at the home chip. -/
def wsigIn (s : State) (w n : Nat) : State :=
  if s.frozen w then s.zrefused 0x080A
  else if s.xcut w then (s.wktAdd w n).wktRemote w
  else s.zrefused 0x080B
/-- WAIT_REQ at the home chip. -/
def waitReqIn (s : State) (chip w req n : Nat) : State :=
  let g := s.wkt w
  let mine := s.fld PTR_WKT_WKIND w = 0 ∨ (s.fld PTR_WKT_WKIND w = 4 ∧ s.fld PTR_WKT_WID w = chip)
  if ¬ s.xcut w ∨ g.rwait.isSome ∨ ¬ mine then s.zsend chip .waitDone 0 [req, 1] []
  else
    let s := ((s.setFld PTR_WKT_WKIND 4 w).setFld PTR_WKT_WID chip w).setWkt w { g with rwait := some (chip, req, n) }
    if s.frozen w then s else s.wktRemote w
/-- WAIT_CANCEL at the home chip: a wait still held is given up. -/
def waitCancelIn (s : State) (chip w req : Nat) : State :=
  match (s.wkt w).rwait with
  | some (c, r, _) => if c = chip ∧ r = req then (s.setWkt w { s.wkt w with rwait := none }).zsend chip .waitDone 0 [req, 2] [] else s
  | none => s
/-- The program that waits on wicket `w` at its home chip. -/
def waiterOn (s : State) (w : Nat) : Option (Nat × Prog) :=
  s.par.prog.find? (fun p => match p.2.wait with | .remote v _ _ => v == w | _ => false)
/-- The answer to a WAIT_REQ: 0 done, 1 REFUSED, 2 CANCELLED. -/
def waitDoneIn (s : State) (w result : Nat) : State :=
  if s.frozen w then s
  else match s.waiterOn w with
  | some (k, _) =>
    if result = 1 then s.cmdFault k 0x020A
    else if result = 2 then s.waitExpired k
    else (s.setProg k { s.prog k with wait := .none }).advance k
  | none => s

/-! The group servo (R308). -/

/-- Whether the servo exchanges TSYNC: a member that is not the acting anchor and reaches it. -/
def servoOn (s : State) : Bool :=
  let a := s.actingAnchor
  s.inGroup && s.anchorReached && a != s.zhl.chip && bit (s.fld ZHL_GRP_STAT_REACH) a
/-- The answer of an exchange: the offset is shown, INC and STEP of TB6 are written, and three offsets within 16 ns in a row
lock. -/
def servoStep (s : State) (ofs : Nat) : State :=
  let d := toSigned 64 ofs
  let s := s.wr .ZHL_TB6_OFS ofs
  let s := s.tbIncWrite 6 (Config.servoInc ofs (s.fld SDL_TB_INC_INC 6) % 2 ^ 40)
  let s := s.tbStepWrite 6 (Config.servoStep ofs (s.fld SDL_TB_INC_INC 6) % 2 ^ 64)
  let n := if -256 ≤ d ∧ d ≤ 256 then s.zhl.lockN + 1 else 0
  let s := { s with zhl := { s.zhl with lockN := n } }
  if 3 ≤ n then s.setFld ZHL_GRP_STAT_TSYNC_LOCK 1 else s
end State
end Sys2Proof.Machine
end

