-- ==== Sys2Proof/Machine/Arcade.lean ====
section
/-! DEFINITION. Arcade memory, power domains, throttling and temperature (R392-R413). -/
namespace Sys2Proof.Machine
open Sys2Proof
namespace State

/-! Training, refresh, ECC (R392-R396). -/

/-- T_I as polled, in 1/16 ns: 4.9 µs, or 2.45 µs while a die is above 85 °C (R396). -/
def slotInterval (s : State) : Nat := if s.arc.hotPolled then 39200 else 78400
/-- The start of the newest refresh slot: the last TB0 value that is a multiple of T_I. -/
def slotStart (s : State) : Nat := s.tb16 0 / s.slotInterval * s.slotInterval
/-- A refresh slot has started that has not been run. -/
def slotDue (s : State) : Bool := s.trained && decide (s.arc.lastSlot < s.slotStart)
/-- A refresh slot (R335, R395, R396, R447): pending write-backs are issued; the bursts that reads since the last slot, the patrol's
among them, found correctable (`ce`) are counted and await write-back, and those found uncorrectable (`ue`) are poisoned.
[log entry 70 DESIGN CHOICE] -/
def refreshSlot (s : State) (ce ue : List Nat) : State :=
  let s := { s with arc := { s.arc with lastSlot := s.slotStart } }
  let s := (s.setFld ARC_CFG_HOT (b2n s.arc.hotPolled)).tcount 0
  let s := s.arc.writeBack.foldl (fun (s : State) _ => s.tcount 1) s
  let ok := fun (b : Nat) => decide (b * 64 + 64 ≤ s.usable)
  let ce := ce.filter ok; let ue := ue.filter ok
  let s := s.addSat ARC_CNT_ECC_CE ce.length
  { s with arc := { s.arc with writeBack := ce.foldl (fun t b => t.set false b true) [] },
           poison := ue.foldl (fun t b => t.set false b true) s.poison }

/-! Reservations and staging (R400, R403). -/

/-- A write of ARC_RESV (R399, R400): refused where it would raise the admitted total above CAP; RATE of a head is read-only.
[log entry 75 DESIGN CHOICE] -/
def resvWrite (s : State) (id rate depth : Nat) : State :=
  if 68 ≤ id then s.setFld ARC_RESV_DEPTH depth id
  else
    let old := s.fld ARC_RESV_RATE id
    if old < rate ∧ s.fld ARC_ADMIT_CAP < s.admitTotal - old + rate then s.bump 0x0C03 id
    else ((s.setFld ARC_RESV_RATE rate id).setFld ARC_RESV_DEPTH depth id).admitShow
/-- Staging window `i` serves no longer: what the staging SRAM holds of its range is gone. -/
def stgEnd (s : State) (i : Nat) : State :=
  let (a, n) := s.stgRange i
  let s := (s.setFld ARC_STG_EN 0 i).setFld ARC_STG_VALID 0 i
  { s with arc := { s.arc with stg := wipeRun s.arc.stg a n,
                               stgPoison := s.arc.stgPoison.filter (fun p => !hits a n (p.1 * 64) 64) } }
/-- The copy of a staging window is complete (R403): the staging SRAM holds the range, its poisoned bursts among it, and serves it.
[log entry 248 DEDUCED] -/
def stgCopied (s : State) (i : Nat) : State :=
  let (a, n) := s.stgRange i
  let m := s.mem.filter (fun x => decide (a ≤ x.1 ∧ x.1 < min (a + n) s.usable))
  let s : State := { s with arc := { s.arc with
      stg := s.arc.stg.filter (fun (x : Nat × Byte) => decide (x.1 < a)) ++ m ++ s.arc.stg.filter (fun (x : Nat × Byte) => decide (a + n ≤ x.1))
      stgPoison := (s.poison.filter (fun (p : Nat × Bool) => hits a n (p.1 * 64) 64)).foldl (fun (t : Tbl Bool) (p : Nat × Bool) => t.set false p.1 true) s.arc.stgPoison } }
  s.setFld ARC_STG_VALID 1 i
/-- A write of EN of a staging window (R403). [log entry 277 DEDUCED] -/
def stgEnable (s : State) (i : Nat) (en : Bool) : State :=
  if ¬ en then s.stgEnd i
  else if s.on ARC_STG_EN i then s
  else
    let (a, n) := s.stgRange i
    let on := (List.range 32).filter (fun j => s.on ARC_STG_EN j)
    let total := on.foldl (fun t j => t + (s.stgRange j).2) n
    if 0x800000 < total ∨ on.any (fun j => hits (s.stgRange j).1 (s.stgRange j).2 a n) then s.addSat ARC_CNT_STGREF 1
    else
      { s.setFld ARC_STG_EN 1 i with
        arc := { s.arc with stgAt := s.arc.stgAt.set (0, 0) i (s.fld ARC_STG_BASE i, s.fld ARC_STG_SIZE i) } }

/-! The fill engine (R404). -/

/-- GO of a fill channel takes the command as its registers hold it. [log entry 291 DEDUCED] -/
def fillGo (s : State) (q : Nat) : State :=
  if s.on ARC_FILL_CTRL_BUSY q then s
  else
    let c := s.fld ARC_FILL_CTRL_CTX q
    let x : FillCmd := ⟨c, s.cgen c, s.fld ARC_FILL_ADDR_BASE q, s.fld ARC_FILL_LEN_LEN q, s.fld ARC_FILL_PAT_PATTERN q,
      if s.on ARC_FILL_CTRL_WKV q then some (s.fld ARC_FILL_CTRL_WKT q) else none⟩
    { s.setFld ARC_FILL_CTRL_BUSY 1 q with arc := { s.arc with fills := s.arc.fills.set {} q x } }
/-- A fill completes: its writes are made, FILL_DONE is logged, its wicket is signalled. -/
def fillDone (s : State) (q : Nat) : State :=
  let x := s.fillCmd q
  let s := ((s.fillWrite q x.len).setFld ARC_FILL_CTRL_BUSY 0 q).logFree 0x0C07 4 q x.ctx
  match x.wkt with
  | some w => s.signalHw w x.ctx 1
  | none => s

/-! Power domains (R405-R407, R418). -/

/-- The logical pavilion at home in a physical one. -/
def logOf (s : State) (v : Nat) : Option Nat :=
  ((s.workingCols (v / 13)).take 12).findIdx? (fun c => c == v % 13) |>.map (fun i => 12 * (v / 13) + i)
/-- Whether a physical pavilion is retired. -/
def retired (s : State) (v : Nat) : Bool := bit (s.fld PTR_SPARE_ROW_FAILED (v / 13)) (v % 13)
/-- The plot whose pavilion this is is not OFF (R407). -/
def inLivePlot (s : State) (v : Nat) : Bool :=
  match s.logOf v with
  | some q => s.memberOf q != 0 && s.plotState (s.memberOf q - 1) != 0
  | none => false
/-- A scheduler hart runs while released and powered; one that comes out of reset starts in M-mode at ORG_HART_VEC, and a core whose
domain is not ON loses its L2 (R418). -/
def hartShow (s : State) (h : Nat) : State :=
  let up := s.fld PWR_DOM_CTRL_STATE (156 + h) == 2
  let run := s.on ORG_HART_CTRL_RELEASE h && up
  let pc := if ¬ run then 0 else if s.org.pc.get 0 h = 0 then s.fld ORG_HART_VEC_VEC * 4 + 1 else s.org.pc.get 0 h
  { s.setFld ORG_HART_CTRL_RUNNING (b2n run) h with
    org := { s.org with pc := s.org.pc.set 0 h pc,
                        stores := if up then s.org.stores else s.org.stores.filter (fun x => x.core != h),
                        l2 := if up then s.org.l2 else s.org.l2.filter (fun x => x.1 / 2 ^ 40 != h) } }
/-- Scheduler harts run while released and powered (R418); the L3 is on while any of their domains is (Table 16.3), and loses its lines
when it goes off. -/
def hartsShow (s : State) : State :=
  let s := (List.range 14).foldl (fun s i => s.hartShow (i + 2)) s
  let any := (List.range 14).any (fun i => s.fld PWR_DOM_CTRL_STATE (158 + i) != 0)
  let s : State := if any then s else { s with org := { s.org with l3 := [] } }
  (List.range 4).foldl (fun s i => s.ownDomain (172 + i) any) s
/-- A write of PWR_DOM_CTRL.EN (R405, R407). -/
def pwrWrite (s : State) (d : Fin 221) (b : Bool) : State :=
  if s.on PWR_DOM_CTRL_OWNED d then s
  else if d.val < 156 ∧ (s.retired d ∨ (b = false ∧ s.inLivePlot d)) then s
  else (s.enWrite (.pwr d) b).1.hartsShow
/-- A domain's turn to ramp: among the first four in STARTING (R406). -/
def pwrTurn (s : State) (d : Nat) : Bool :=
  ((List.range 221).filter (fun e => s.fld PWR_DOM_CTRL_STATE e == 1)).take 4 |>.contains d
/-- STARTING of a domain is done (R406): its SRAM wiped, a pavilion's self-test run. [log entry 73 DEDUCED] -/
def pwrOn (s : State) (d : Fin 221) (ok : Bool) : State :=
  let s := if d.val < 156 then s.wipePav d else s
  (s.startDone (.pwr d) (ok || decide (156 ≤ d.val))).hartsShow
/-- STOPPING of a domain is done (R406): its SRAM wiped, its supply off. -/
def pwrOff (s : State) (d : Fin 221) : State :=
  let s := if d.val < 156 then s.wipePav d else s
  (s.stopDone (.pwr d)).hartsShow

/-! Temperature and throttle (R410, R411). -/

/-- The Lodge requests level 5 (R344). -/
def powerRequest (s : State) : State :=
  let s := { s with tray := { s.tray with pwrReqLow := true, faultLow := true } }
  ((s.emit (.pin "PWR_REQ_N" false)).emit (.pin "TRAY_FAULT_N" false)).alarm 0x63 0x090F
/-- THERM_TRIP (R411): every pavilion and Belvedere domain goes off at once, without STOPPING; their SRAM and what runs in them is
lost, and the Lodge requests level 5. [log entry 74 DEDUCED] -/
def thermTrip (s : State) : State :=
  let s := (s.par.prog.map (fun x => x.1)).foldl (fun s k =>
    if isCond k then s else { s with par := { s.par with prog := s.par.prog.erase k } }) s
  let s := (List.range 156).foldl (fun s v =>
    ((s.wipePav v).setFld PWR_DOM_CTRL_STATE 0 v).setFld PWR_DOM_CTRL_PENDING_ON 0 v) s
  let s := (List.range 8).foldl belReset s
  let s := (List.range 6).foldl (fun s d =>
    ((s.setFld BEL_PWR_CTRL_STATE 0 d).setFld BEL_PWR_CTRL_PENDING_ON 0 d).ownDomain (176 + d) false) s
  (s.alarm 0x8A 0x0C0A).powerRequest
/-- One of the three conditions of R410 holds. -/
def emergNow (s : State) : Bool :=
  decide (s.fld PWR_THERM_CFG_T_EMERG * 16 ≤ s.fld PWR_STAT_HOT) || s.arc.droop
    || (match s.arc.powerHighAt with | some t => decide (t + 1000 * usTicks ≤ s.tick) | none => false)
/-- When the conditions cleared, while the throttle runs. -/
def emergWatch (s : State) : State :=
  if ¬ s.on PWR_STAT_EMERG then s
  else { s with arc := { s.arc with clearAt := if s.emergNow then none else some (s.arc.clearAt.getD s.tick) } }
/-- The sensors are read (R411): the hottest in 1/16 °C, and the package power in 0.1 W. -/
def tempRead (s : State) (hot sensor power : Nat) : State :=
  let s := ((s.setFld PWR_STAT_HOT hot).setFld PWR_STAT_SENSOR sensor).setFld PWR_STAT_POWER power
  let hi := decide (s.fld PWR_THERM_CFG_P_EMERG * 20 < power)
  let s := { s with arc := { s.arc with tempAt := s.tick, powerHighAt := if hi then some (s.arc.powerHighAt.getD s.tick) else none } }
  let s := s.emergWatch
  let s := if s.fld PWR_THERM_CFG_T_WARN * 16 ≤ hot then s.alarm 0x89 0x0C09 else s
  if s.fld PWR_THERM_CFG_T_TRIP * 16 ≤ hot then s.thermTrip else s
/-- The throttle starts (R410). -/
def emergStart (s : State) : State :=
  let s := (s.setFld PWR_STAT_EMERG 1).addSat PWR_STAT_EMERGS 1
  { s.tcount 3 with arc := { s.arc with thrAt := some s.tick, clearAt := none } }
/-- The throttle ends. -/
def emergEnd (s : State) : State :=
  { s.setFld PWR_STAT_EMERG 0 with arc := { s.arc with thrTicks := s.throttled, thrAt := none, clearAt := none } }
end State

/-- DENSITY_WRITE (R392): the first write starts training; any later one is ignored. [log entry 69 DEDUCED] -/
def execDensityWrite (v : BitVec 2) (s : State) : Outc :=
  done s (if s.arc.dens ∨ s.trained then s
    else { s.setFld ARC_CFG_DENSITY v.toNat with arc := { s.arc with dens := true } })
/-- REFRESH_SLOT (R395, R396): the bursts of 64 B, by address / 64, whose reads since the last slot were correctable or not. -/
def execRefreshSlot (ce ue : List (BitVec 30)) (s : State) : Outc :=
  done s (if s.slotDue then s.refreshSlot (ce.map (fun x => x.toNat)) (ue.map (fun x => x.toNat)) else s)
/-- DRAM_TEMP_POLL (R396): every 1 ms; whether any die reports more than 85 °C. -/
def execDramTempPoll (hot : Bool) (s : State) : Outc :=
  done s (if s.arc.pollAt + 1000 * usTicks ≤ s.tick then
    { s with arc := { s.arc with pollAt := s.tick, hotPolled := hot } } else s)
/-- RESV_WRITE (R400). -/
def execResvWrite (id : Fin 72) (rate : BitVec 12) (depth : BitVec 16) (s : State) : Outc :=
  done s (s.resvWrite id rate.toNat depth.toNat)
/-- STAGING_ENABLE (R403). -/
def execStagingEnable (i : Fin 32) (en : Bool) (s : State) : Outc := done s (s.stgEnable i en)
/-- STAGING_COPY_DONE (R403). -/
def execStagingCopyDone (i : Fin 32) (s : State) : Outc :=
  done s (if s.on ARC_STG_EN i ∧ ¬ s.on ARC_STG_VALID i ∧ s.trained then s.stgCopied i else s)
/-- FILL_GO (R404). -/
def execFillGo (q : Fin 4) (s : State) : Outc := done s (s.fillGo q)
/-- FILL_DONE (R404). -/
def execFillDone (q : Fin 4) (s : State) : Outc :=
  done s (if s.on ARC_FILL_CTRL_BUSY q ∧ s.trained then s.fillDone q else s)
/-- POWER_DOMAIN_ENABLE (R405-R407). -/
def execPowerDomainEnable (d : Fin 221) (e : PwrEv) (s : State) : Outc :=
  done s (match e with
    | .write b => s.pwrWrite d b
    | .on ok => if s.fld PWR_DOM_CTRL_STATE d = 1 ∧ s.pwrTurn d then s.pwrOn d ok else s)
/-- TEMP_SENSOR_READ (R411): every 50 µs. -/
def execTempSensorRead (hot : BitVec 16) (sensor : Fin 32) (power : BitVec 16) (s : State) : Outc :=
  done s (if s.arc.tempAt + 50 * usTicks ≤ s.tick then s.tempRead hot.toNat sensor power.toNat else s)
/-- EMERG_THROTTLE_START (R410): with the level of the VDD_FAB droop detector. -/
def execEmergThrottleStart (droop : Bool) (s : State) : Outc :=
  done s (
    let t := { s with arc := { s.arc with droop := droop } }.emergWatch
    if t.emergNow ∧ ¬ t.on PWR_STAT_EMERG then t.emergStart else t)
/-- EMERG_THROTTLE_END (R410). -/
def execEmergThrottleEnd (s : State) : Outc :=
  done s (match s.arc.clearAt with
    | some t => if s.on PWR_STAT_EMERG ∧ t + 100 * usTicks ≤ s.tick then s.emergEnd else s
    | none => s)
end Sys2Proof.Machine
end

