-- ==== Sys2Proof/Machine/Batch.lean ====
section
/-! DEFINITION. Batch groups (R286-R290): joins, leaves, the boundary at a drain point, the lane map and responses. -/
namespace Sys2Proof.Machine
open Sys2Proof
namespace State
/-- R_class of a class: granules reserved (R292). -/
def classRes (s : State) (g c : Nat) : Nat :=
  match c with
  | 0 => s.fld PLT_BAT_CLS01_R_EVEN g
  | 1 => s.fld PLT_BAT_CLS01_R_ODD g
  | 2 => s.fld PLT_BAT_CLS23_R_EVEN g
  | _ => s.fld PLT_BAT_CLS23_R_ODD g
/-- STARTING of a batch group (R286): its checks, then its settings are sampled, and its response count starts again (R292). -/
def batchStart (s : State) (g : Fin 16) : State :=
  let owner := s.fld PLT_BAT_CFG_OWNER g
  if s.ctxActive owner ∧ 1 ≤ s.fld PLT_BAT_GRAN_POOL g ∧ s.fld PLT_BAT_MAP_BASE g ≠ 0 ∧ s.fld PLT_BAT_RSP_BASE g ≠ 0 then
    let b : Batch := { plot := s.fld PLT_BAT_CFG_PLOT g, nlanes := s.fld PLT_BAT_CFG_LANES g + 1, owner := owner,
                       poolBase := s.fld PLT_BAT_POOL_BASE g * 0x10000, pool := s.fld PLT_BAT_GRAN_POOL g,
                       map := s.fld PLT_BAT_MAP_BASE g * 1024, rsp := s.fld PLT_BAT_RSP_BASE g * 64,
                       rspSize := s.fld PLT_BAT_RSP_SIZE g, mapWkt := s.fld PLT_BAT_WKT_MAPWKT g, maps := (s.batch g).maps }
    ((((s.setBatch g b).setFld PLT_BAT_STAT_FAULT 0 g).setFld PLT_BAT_RIDX_COUNT 0 g).showBatch g).startDone (.batch g) true
  else (s.setFld PLT_BAT_STAT_FAULT 0x0704 g).startDone (.batch g) false
/-- STOPPING of a batch group (R286): every lane retires with LEFT, every queued join is refused with cause STOP. -/
def batchStop (s : State) (g : Nat) : State :=
  let b := s.batch g
  let st := s.batchStep g
  let s := b.lanes.foldl (fun s x => match x.2 with | some l => s.respond g l.sid 4 0 x.1 st | none => s) s
  let s := b.queue.foldl (fun s j => (s.respond g j.sid 3 5 0xFF st).addSat PLT_BAT_CNT_REFUSED 1 g) s
  let s := s.addSat PLT_BAT_CNT_LEFT b.lanes.length g
  (s.setBatch g { s.batch g with lanes := [], queue := [] }).showBatch g
def batchWork (x : State × SwWork) (g : Fin 16) : State :=
  match x.2 with
  | .start => x.1.batchStart g
  | .stop => x.1.batchStop g
  | .none => x.1
/-- A SID is in a lane or in the queue. -/
def sidKnown (b : Batch) (sid : Nat) : Bool :=
  b.lanes.any (fun x => match x.2 with | some l => l.sid == sid | none => false) || b.queue.any (fun j => j.sid == sid)
/-- A JOIN request (R287). -/
def batchJoin (s : State) (g sid prio cls : Nat) : State :=
  let b := s.batch g
  let st := s.batchStep g
  if sidKnown b sid then (s.respond g sid 3 4 0xFF st).addSat PLT_BAT_CNT_REFUSED 1 g
  else if 64 ≤ b.queue.length then (s.respond g sid 3 1 0xFF st).addSat PLT_BAT_CNT_REFUSED 1 g
  else (s.setBatch g { b with queue := b.queue ++ [⟨sid, prio, cls, 0, s.fc⟩] }).showBatch g
/-- A LEAVE request (R287). -/
def batchLeave (s : State) (g sid : Nat) : State :=
  let b := s.batch g
  let st := s.batchStep g
  if b.queue.any (fun j => j.sid == sid) then
    ((s.setBatch g { b with queue := b.queue.filter (fun j => j.sid != sid) }).respond g sid 5 0 0xFF st).showBatch g
  else if sidKnown b sid then
    s.setBatch g { b with lanes := b.lanes.map (fun x => (x.1, x.2.map (fun l => if l.sid = sid ∧ l.leaveAt = 0 then { l with leaveAt := s.fc + 1 } else l))) }
  else s.respond g sid 6 0 0xFF st
/-- The lowest-addressed run of `n` free granules of a group. -/
def freeRun (b : Batch) (n : Nat) : Option Nat :=
  let ls := b.lanes.filterMap (fun x => x.2)
  let starts := 0 :: ls.map (fun l => l.first + l.size)
  let fits := starts.filter (fun a => decide (a + n ≤ b.pool) && ls.all (fun l => decide (a + n ≤ l.first ∨ l.first + l.size ≤ a)))
  fits.foldl (fun (m : Option Nat) a => match m with | none => some a | some x => some (min x a)) none
/-- The lowest free lane of a group. -/
def freeLane (b : Batch) : Option Nat :=
  (List.range (min 64 b.nlanes)).find? (fun i => (b.lanes.get none i).isNone)
/-- The queue in the order of R288: highest PRIO first, then arrival. -/
def joinOrder (q : List Join) : List Join :=
  (List.range 8).reverse.flatMap (fun p => q.filter (fun j => j.prio == p))
/-- Try one queued join at the boundary of step `k` (R288). -/
def tryJoin (s : State) (g k : Nat) (j : Join) : State :=
  let b := s.batch g
  let r := s.classRes g j.cls
  let out := fun (s : State) => s.setBatch g { s.batch g with queue := (s.batch g).queue.filter (fun x => x.sid != j.sid) }
  if r = 0 then ((out s).respond g j.sid 3 2 0xFF k).addSat PLT_BAT_CNT_REFUSED 1 g
  else if b.pool < r then ((out s).respond g j.sid 3 3 0xFF k).addSat PLT_BAT_CNT_REFUSED 1 g
  else match freeLane b, freeRun b r with
  | some i, some a =>
    let s := out s
    let s := s.setBatch g { s.batch g with lanes := (s.batch g).lanes.set none i (some ⟨j.sid, j.cls, a, r, k + 1, true, 0⟩) }
    (s.respond g j.sid 1 0 i k).addSat PLT_BAT_CNT_JOINED 1 g
  | _, _ =>
    if s.fld PLT_BAT_LIM_JOIN_LIMIT g ≤ j.deferred then
      ((out s).respond g j.sid 3 0 0xFF k).addSat PLT_BAT_CNT_REFUSED 1 g
    else
      let s := s.setBatch g { b with queue := b.queue.map (fun x => if x.sid = j.sid then { x with deferred := x.deferred + 1 } else x) }
      if j.deferred = 0 then (s.addSat PLT_BAT_CNT_DEFERRED 1 g).respond g j.sid 2 0 0xFF k else s
/-- One entry of the lane map (Table 11.2). -/
def laneEntry (b : Batch) (i : Nat) : List Byte :=
  match b.lanes.get none i with
  | none => List.replicate 16 0
  | some l => leBytes 2 l.sid ++ leBytes 1 (1 + 2 * b2n l.fresh) ++ leBytes 1 l.cls ++ leBytes 4 l.since
      ++ leBytes 8 (b.poolBase + l.first * 0x10000)
/-- A LEAVE of an earlier fc makes the lane leave at this boundary (R287). -/
def leaves (s : State) (l : Lane) : Bool := l.leaveAt != 0 && decide (l.leaveAt ≤ s.fc)
/-- The boundary of step `k` of group `g` (R288, R289): leaving lanes retire, joins are taken, the lane map of step k + 1
is written and awaits its acknowledgement. What was written in this fc waits for the next boundary (R287). -/
def batchBoundary (s : State) (g k : Nat) : State :=
  let b := s.batch g
  let gone := b.lanes.filter (fun x => match x.2 with | some l => s.leaves l | none => false)
  let stay := (b.lanes.filter (fun x => match x.2 with | some l => !s.leaves l | none => false)).map
    (fun x => (x.1, x.2.map (fun l => { l with fresh := false })))
  let s := s.setBatch g { b with lanes := stay }
  let s := gone.foldl (fun s x => match x.2 with
    | some l => (s.respond g l.sid 4 0 x.1 k).addSat PLT_BAT_CNT_LEFT 1 g
    | none => s) s
  let s := (joinOrder ((s.batch g).queue.filter (fun j => decide (j.wrote < s.fc)))).foldl (fun s j => s.tryJoin g k j) s
  let b := s.batch g
  let map := (List.range 64).flatMap (laneEntry b)
  let s := s.ctxPut b.owner (s.cgen b.owner) (b.map + ((k + 1) % 16) * 1024) map
  (s.setBatch g { s.batch g with maps := (s.batch g).maps ++ [(b.mapWkt, b.owner)] }).showBatch g
/-- The groups that plot `p` serves, which act at its conductor's drain point (R288). -/
def batchesOf (s : State) (p : Nat) : List Nat :=
  (List.range 16).filter (fun g => s.fld PLT_BAT_CFG_STATE g == 2 && !s.fnBrief (.batch (Fin.ofNat 16 g)) && (s.batch g).plot == p && s.plotCtx p == (s.batch g).owner)
end State
/-- BATCH_GROUP_ENABLE (R266, R286). [log entry 129 DEDUCED] -/
def execBatchGroupEnable (g : Fin 16) (en : Bool) (s : State) : Outc :=
  done s (State.batchWork (s.enWrite (.batch g) en) g)
/-- JOIN (R287): ignored while the group is not ON. -/
def execJoin (g : Fin 16) (sid : BitVec 16) (prio : Fin 8) (cls : Fin 4) (s : State) : Outc :=
  done s (if s.fld PLT_BAT_CFG_STATE g = 2 then s.batchJoin g sid.toNat prio cls else s)
/-- LEAVE (R287): ignored while the group is not ON. -/
def execLeave (g : Fin 16) (sid : BitVec 16) (s : State) : Outc :=
  done s (if s.fld PLT_BAT_CFG_STATE g = 2 then s.batchLeave g sid.toNat else s)
/-- LANE_MAP_ACK (R289): the oldest lane map that awaits it; its MAPWKT is signalled with a count of 1 as an agent of its OWNER. -/
def execLaneMapAck (g : Fin 16) (s : State) : Outc :=
  done s (match (s.batch g).maps with
    | (w, c) :: t => (s.setBatch g { s.batch g with maps := t }).signalHw w c 1
    | [] => s)
end Sys2Proof.Machine
end

