-- ==== Sys2Proof/Machine/Boundary.lean ====
section
/-! DEFINITION. What a plot's frame boundary brings about (R83), the suspension of a plot without grace (R326), and the suspects
of a replay that pass their drain points (R327). -/
namespace Sys2Proof.Machine
open Sys2Proof
namespace State
/-- Suspend a plot's running slot (R326 step 1): its commands are aborted at once, its record is saved, and no selection follows.
A slot whose load is in progress leaves the plot as it came. -/
def suspendNow (s : State) (p : Nat) : State :=
  let s := match s.running p with
    | some j =>
      match (s.plot p).act with
      | .load _ | .fenceWait _ => ((s.charge p).setRunning p none).setPlot p { (s.charge p).plot p with act := .idle, want := none }
      | _ => ((s.progKeys p).foldl abortCmds s).switchOut p j (some (s.slotSave p j))
    | none => s
  s.setPlot p { s.plot p with suspended := true }
/-- The image that slot `j` of plot `p` runs has ISLAND_VARIANT set (R87, R311). -/
def islandVariant (s : State) (p j : Nat) : Bool := bit (s.lpNat (s.slotImage p j + 0x14) 4) 0
/-- A frame boundary of plot `p` (R83): a held membership change, a re-image that is pending for the running slot and a period fall due,
budgets are sampled (R249), an ON plot with an island variant is re-imaged (R311), and a plot that a retirement affects is suspended
(R332). -/
def plotBoundary (s : State) (p : Nat) : State :=
  let g := s.plot p
  let on := s.plotState p = 2
  let re := match s.running p with | some j => s.on PLT_SLOT_CFG_REIMAGE p j | none => false
  let s := s.setPlot p { g with memberDue := g.memberHeld, boundAt := if g.memberHeld then s.tick else g.boundAt, reimgDue := re,
                                periodDue := g.periodDue || decide on, island := false }
  let s := if s.plotState p = 0 then s else s.sampleBudget p
  let s := match s.running p with
    | some j =>
      if g.island ∧ on ∧ s.islandVariant p j then (s.setSlot p j { s.slot p j with island := true }).preempt p .reimage else s
    | none => if g.island then s.setPlot p { s.plot p with island := true } else s
  if s.ldg.affected.contains p ∧ s.plotState p ≠ 0 ∧ ¬ (s.plot p).suspended then s.suspendNow p else s
/-- A frame start of the line clock of plot `p` (R83): RT slots are RT again, and the plot has a frame boundary. -/
def plotFrame (s : State) (p : Nat) : State :=
  if (s.plot p).rtHeld then
    (((s.charge p).setPlot p { (s.charge p).plot p with rtHeld := false })).plotBoundary p
  else s.plotBoundary p
/-- A tick of a plot whose line clock is OFF (R83): RT_OVERRUN once when it has turned OFF with an RT slot bound, and a frame boundary
where the plot is OFF, or ON with no slot running. -/
def plotTick (s : State) (p : Nat) : State :=
  let g := s.plot p
  if ¬ s.plotLcOff p then (if g.lcWasOff then s.setPlot p { g with lcWasOff := false } else s)
  else
    let s := if ¬ g.lcWasOff ∧ (s.bound p).any (fun j => (s.slot p j).rt) then
        (s.addSat PLT_PRE_CNT_OVERRUN 1 p).setPlot p { g with lcWasOff := true, rtHeld := true } else s
    if s.plotState p = 0 ∨ (s.plotState p = 2 ∧ (s.running p).isNone) then s.plotBoundary p else s
/-- The hang whose suspect now runs alone on plot `p`. -/
def replayOn (s : State) (p : Nat) : Option Recov := s.ldg.recs.find? (fun r => r.plot == p && r.cur.isSome)
/-- Replace the record of a hang. -/
def setRecov (s : State) (r : Recov) : State :=
  { s with ldg := { s.ldg with recs := s.ldg.recs.map (fun x => if x.engine = r.engine then r else x) } }
/-- The suspect in replay is innocent (R327): logged, and no longer a suspect. -/
def innocent (s : State) (r : Recov) : State :=
  let c := r.cur.getD 0
  (s.logFree 0x0903 12 r.engine c).setRecov { r with cur := none, passed := [] }
/-- Program `k` has passed a drain point during a replay (R327): once every program of the plot has, or has halted, the suspect is
innocent and is switched out. [log entry 95 DEDUCED] -/
def replayPassed (s : State) (k : Nat) : State :=
  match s.replayOn (keyPlot k) with
  | none => s
  | some r =>
    let r := { r with passed := k :: r.passed }
    if (s.progKeys (keyPlot k)).all (fun x => r.passed.contains x || (s.prog x).halted) then (s.innocent r).preempt (keyPlot k) .rewind
    else s.setRecov r
end State
end Sys2Proof.Machine
end

