-- ==== Sys2Proof/Machine/Due.lean ====
section
/-! DEFINITION. Deadline spans (R44, R105, R106, R135, R207) and drain points (R103, R104, R138). -/
namespace Sys2Proof.Machine
open Sys2Proof
namespace State
/-- Base value, in 1/16 ns, that `n` fabric cycles of 10/11 ns take (R44). -/
def fcTime (n : Nat) : Rat := ((n * 160 : Nat) : Rat) / 11
/-- The open span of plot `p`'s conductor. -/
def span (s : State) (p : Nat) : Option Span := (s.prog (condKey p)).span
def setSpan (s : State) (p : Nat) (x : Option Span) : State :=
  s.setProg (condKey p) { s.prog (condKey p) with span := x }
/-- Now, and the instant of the due position, on the base of the span's line clock. -/
def spanNow (s : State) (x : Span) : Rat := s.baseRat (s.lclock x.lc).base
def spanDue (s : State) (x : Span) : Rat := s.posTime x.lc (x.f, x.l, x.p)
/-- The due position is reached. -/
def spanLate (s : State) (x : Span) : Bool := (s.lclock x.lc).live && posReached (s.lcPos x.lc) (x.f, x.l, x.p)
/-- LATE_WARN, at most once for a DUE: counted, and its wicket signalled (R44). -/
def lateWarn (s : State) (p : Nat) : State :=
  match s.span p with
  | some x =>
    if x.warned then s
    else
      let g := s.prog (condKey p)
      let s := (s.setProg (condKey p) { g with span := some { x with warned := true }, warns := g.warns + 1 }).bump 0x0604 p
      match x.warn with | some w => s.signalHw w (s.plotCtx p) 1 | none => s
  | none => s
/-- At D, the span not committed (R44): LATE_WARN if none yet, then DUE_MISS. -/
def dueMiss (s : State) (p : Nat) : State :=
  let s := s.lateWarn p
  match s.span p with
  | some x =>
    if x.missed then s
    else
      let g := s.prog (condKey p)
      (s.setProg (condKey p) { g with span := some { x with missed := true }, misses := g.misses + 1 }).bump 0x0605 p
  | none => s
/-- Close the open span as committed in this fc (R105): a span whose D is reached has missed it (R35), and a posting span posts
its band (R207). -/
def closeSpan (s : State) (p : Nat) : State :=
  match s.span p with
  | none => s
  | some x =>
    let s := if s.spanLate x then s.dueMiss p else s
    let s := s.setSpan p none
    match x.band with
    | some fb => if s.on PLT_POST_SV p then s.bandPost p fb else s
    | none => s
/-- A position carried on by frames, lines and pixels, on line clock `n`. [log entry 84 DESIGN CHOICE] -/
def carryPos (s : State) (n : Nat) (p : Nat × Nat × Nat) (f l x : Nat) : Nat × Nat × Nat :=
  let h := max 1 (s.lclock n).htotal
  let v := max 1 (s.lclock n).vtotal
  let pix := p.2.2 + x
  let line := p.2.1 + l + pix / h
  ((p.1 + f + line / v) % 2 ^ 32, line % v, pix % h)
/-- The band whose signal the conductor of plot `p` has last consumed, of the stream it posts to. -/
def dueBand (s : State) (p : Nat) : Option (Nat × Nat) :=
  let st := s.strm (s.fld PLT_POST_STREAM p)
  if st.plotA = p then st.gotA else st.gotB
/-- Plot `p` is bound to a headless stream (R214), or posts to one. -/
def headlessPlot (s : State) (p : Nat) : Bool :=
  (List.range 16).any (fun i =>
    let st := s.strm i
    s.strmState i != 0 && st.heads == 0
      && (st.plotA == p || (st.bv && st.plotB == p) || (s.on PLT_POST_SV p && s.fld PLT_POST_STREAM p == i)))
/-- DUE (R135, R207, R214): a clock in OFF faults, the stream's for a DUE that posts, and so does REL = 1 on a headless stream; an open span
is closed; DUE_RISK counts when the WCET does not fit. Where no signal of the stream has been consumed, the due position of a posting
span is not stated: a free one. [log entries 83 DEDUCED, 85 DEDUCED, 87 DEDUCED] -/
def doDue (s : State) (k : Nat) (ws : List Nat) : State :=
  let p := keyPlot k
  let w := word ws 0
  let rel := bit w 51
  let post := rel && s.on PLT_POST_SV p
  let lc := if post ∧ s.strmState (s.fld PLT_POST_STREAM p) ≠ 0 then (s.strm (s.fld PLT_POST_STREAM p)).lc else bits w 52 2
  let f := bits w 0 32; let l := bits (word ws 2) 16 16; let x := bits (word ws 2) 0 16
  if (s.lclock lc).mode = 0 ∨ (rel = true ∧ s.headlessPlot p = true) then s.cmdFault k 0x0608
  else
    let s := s.closeSpan p
    let band := if post then s.dueBand p else none
    let st := s.strm (s.fld PLT_POST_STREAM p)
    let (lc, d, s) : Nat × (Nat × Nat × Nat) × State :=
      if ¬ post then (lc, (relFrame rel (s.prog k).step f, l, x), s)
      else match band with
      | some fb => (st.lc, s.carryPos st.lc (s.linePos st.lc fb.1 (s.dueLine st.lc st.bh fb.2)) f l x, s)
      | none => let (v, t) := s.freeBits 32; (lc, (v, 0, 0), t)
    let sp : Span :=
      { lc := lc, f := d.1, l := d.2.1, p := d.2.2, stat := bits (word ws 1) 32 32, wcet := bits (word ws 1) 0 32,
        warn := if bit w 33 then some (bits w 34 17) else none, issued := s.fc, done := 0, warned := false, missed := false,
        band := band }
    let s := if (s.lclock lc).live ∧ s.spanDue sp < s.spanNow sp + fcTime sp.wcet then s.bump 0x0606 p else s
    (s.setSpan p (some sp)).advance k
/-- A line of line clock `n` has started in this tick. -/
def lineStarted (s : State) (n : Nat) : Bool :=
  let c := s.lclock n
  let now := s.baseRat c.base
  let prev := now - ((s.fld SDL_TB_INC_INC c.base : Nat) : Rat) / (2 ^ 28 : Nat)
  c.live && (decide (prev < c.start) || (c.position now (s.headPaced n)).2.1 != (c.position prev (s.headPaced n)).2.1)
/-- The check at a line start (R44): `fin` static cycles of the span are complete. [log entry 82 DEDUCED] -/
def lineCheck (s : State) (p fin : Nat) : State :=
  match s.span p with
  | some x =>
    let x := { x with done := max x.done fin }
    let s := s.setSpan p (some x)
    if s.spanDue x < s.spanNow x + fcTime (x.stat - x.done) then s.lateWarn p else s
  | none => s

/-! Signals and drain points. -/

/-- A WSIG takes effect where its program may signal the wicket (R98); one that it may no longer signal faults WICKET_OWNER. -/
def giveSig (s : State) (k : Nat) (x : Sig) : State :=
  if s.wktOwned x.w (s.plotCtx (keyPlot k)) ∧ ¬ s.on PTR_WKT_BMODE x.w then s.wktGive x.w x.n else s.cmdFaultAt k x.pc 0x020A
/-- The WSIGs of a program whose turn has come take effect (R98). [log entry 86 DEDUCED] -/
def releaseSigs (s : State) (k : Nat) : State :=
  let g := s.prog k
  let go := g.sigs.filter (sigReady g)
  let s := s.setProg k { g with sigs := g.sigs.filter (fun x => !sigReady g x) }
  go.foldl (fun s x => s.giveSig k x) s
/-- The conductor of plot `p` has passed the drain point of step `st`: selections it served retire, batch groups have their
boundary, an iteration counts toward an RT quota (R202, R276, R288), and while the line clock is OFF the plot has a frame
boundary (R83). -/
def conductorDrain (s : State) (p st : Nat) : State :=
  let s := s.strmDrain p st
  let s := (s.batchesOf p).foldl (fun s g => s.batchBoundary g st) s
  let s := match s.running p with
    | some j => s.setSlot p j { s.slot p j with quota := (s.slot p j).quota + 1 }
    | none => s
  if s.plotLcOff p then s.plotBoundary p else s
/-- Whether the outermost ENDLOOP of program `k` may complete (R138). -/
def drainReady (s : State) (k : Nat) : Bool :=
  let g := s.prog k
  s.plotLive (keyPlot k) && g.running && !g.halted && g.wait == .drain && g.cmds.isEmpty
/-- The drain point of program `k` (R103, R104, R138): the step counter advances, the loop goes round or ends after COUNT
iterations, and the queue pointer stands there; open arms lapse (R141). -/
def drainPoint (s : State) (k : Nat) : State :=
  let s := s.releaseSigs k
  let g := s.prog k
  match g.loops.getLast? with
  | none => s
  | some f =>
    let st := g.step + 1
    let fin : Bool := f.count ≠ 0 ∧ f.count ≤ st
    let pc := if fin then f.endPc + 1 else f.start
    let s := s.setProg k { g with
      wait := .none, step := st, qstep := st, qpc := pc, pc := pc, arms := [],
      loops := if fin then [] else [{ f with idx := 0 }], outerDone := fin }
    let s := (s.showPtr k).haloAcks k
    let s := if fin then s.goto k pc else s
    let s := if isCond k then s.conductorDrain (keyPlot k) g.step else s
    s.replayPassed k
end State
end Sys2Proof.Machine
end

