-- ==== Sys2Proof/Machine/Conductor.lean ====
section
/-! DEFINITION. The commands of programs, wickets and channels (R89-R108, R116-R144): the instructions of the front end, the life of
slot commands, waits, spans and drain points. -/
namespace Sys2Proof.Machine
open Sys2Proof
namespace State
/-- A FENCE whose wait is over (R140). -/
def fenceDone (s : State) (k : Nat) : State :=
  match (s.prog k).wait with
  | .fence bel => if s.fenceOk k bel then (s.setProg k { s.prog k with wait := .none }).advance k else s
  | _ => s
/-- A Belvedere engine holds the requests of other contexts at fire while it replays a suspect (R328). -/
def belHolds (s : State) (k : Nat) (c : Cmd) : Bool :=
  isBel (opc (word c.words 0)) && s.ldg.recs.any (fun r =>
    r.engine == 256 + (bEngine (word c.words 0)).getD 0 && (match r.cur with | some x => x != s.plotCtx (keyPlot k) | none => false))
/-- COMMAND_FIRE (R90): the next command of slot `sl`, once it is ready. -/
def commandFire (s : State) (k sl : Nat) : State :=
  if ¬ s.plotLive (keyPlot k) then s
  else match s.nextToFire k sl with
  | some c => if s.cmdReady k c ∧ ¬ s.belHolds k c then s.fireCmd k c else s
  | none => s
/-- The engine of a program, as its beats are counted (R323). [log entry 93 DEDUCED] -/
def progBeat (s : State) (k : Nat) : State :=
  if isCond k then s
  else match s.stagePhys (keyPlot k) (keyStage k) with
  | some v => s.beat v
  | none => s
/-- COMMAND_COMMIT (R91, R92): a committed HALO then awaits its drain point (R305). -/
def commandCommit (s : State) (k : Nat) : State :=
  match s.commitReady k with
  | some c => ((s.commitCmd k c).haloCommitted k c).progBeat k
  | none => s
/-- An uncorrectable SRAM error on a read of the fired command of opcode `o` (R334): SRAM_UE, and the row counts as failed. -/
def sramUe (s : State) (k o b : Nat) : State :=
  match s.firedOf k o with
  | some c =>
    let s := { s with ldg := { s.ldg with bad := s.ldg.bad.set 0 b (s.ldg.bad.get 0 b + 1) } }
    s.cmdFaultAt k c.pc 0x0907
  | none => s
/-- A slot instruction, by the part of its life. -/
def slotRow (s : State) (o k : Nat) (ph : SlotPh) : State :=
  match ph with
  | .issue => s.issue k o (fun ws => s.issueSlot k ws)
  | .run => s.runSlot k o
  | .sramUe b => s.sramUe k o b.toNat
/-- A Belvedere request's image may be read: LPDDR only once it is served. -/
def belTrained (s : State) (e : Nat) : Bool :=
  s.trained || (match s.belCanStart e with
    | some r => (belImgs r.op r.a r.b r.o).all (fun i => i.kind != 1)
    | none => true)
/-- BEL_REQUEST_COMPLETE (R177, R178, R209, R328): the request in progress completes, its pacer's band is posted, and a suspect whose
first request this is is innocent. [log entry 169 DEDUCED] -/
def belFinish (s : State) (e : Nat) (r : BelReq) : State :=
  let s := ((s.belComplete e r).fallbackPost r).beat (256 + e)
  let s := (List.range 16).foldl strmFree s
  let s := if r.pacer.isNone then s.setPlot r.plot { s.plot r.plot with stallAt := s.tick } else s
  match s.ldg.recs.find? (fun x => x.engine == 256 + e && x.cur == some r.ctx) with
  | some x => s.innocent x
  | none => s
end State

/-! The front end. -/

/-- LOOP (R137). -/
def execLoop (k : ProgId) (s : State) : Outc := done s (s.issue (pkey k) 0x70 (fun ws => if bit (word ws 0) 53 then s else s.doLoop (pkey k) ws))
/-- ENDLOOP (R137, R138). -/
def execEndloop (k : ProgId) (s : State) : Outc := done s (s.issue (pkey k) 0x70 (fun ws => if bit (word ws 0) 53 then s.doEndloop (pkey k) else s))
/-- DRAIN_POINT (R103, R104, R138). -/
def execDrainPoint (k : ProgId) (s : State) : Outc := done s (if s.drainReady (pkey k) then s.drainPoint (pkey k) else s)
/-- BR (R139). -/
def execBr (k : ProgId) (s : State) : Outc := done s (s.issue (pkey k) 0x71 (s.doBr (pkey k)))
/-- COMMIT (R105, R207): in a conductor; without an open span it has no effect. -/
def execCommit (k : ProgId) (s : State) : Outc :=
  done s (s.issue (pkey k) 0x72 (fun _ => (s.closeSpan (keyPlot (pkey k))).advance (pkey k)))
/-- FENCE (R140). -/
def execFence (k : ProgId) (s : State) : Outc := done s (s.issue (pkey k) 0x73 (s.doFence (pkey k)))
/-- FENCE_DONE (R140). -/
def execFenceDone (k : ProgId) (s : State) : Outc := done s (if s.plotLive (keyPlot (pkey k)) then s.fenceDone (pkey k) else s)
/-- HALT (R140, R275). -/
def execHalt (k : ProgId) (s : State) : Outc := done s (s.issue (pkey k) 0x74 (fun _ => s.haltProg (pkey k)))
/-- NOP (R140). -/
def execNop (k : ProgId) (s : State) : Outc := done s (s.issue (pkey k) 0x75 (fun _ => s.advance (pkey k)))
/-- TDESC (R101, R117, R118). -/
def execTdesc (k : ProgId) (s : State) : Outc := done s (s.issue (pkey k) 0x10 (s.doTdesc (pkey k)))
/-- SDESC (R119, R120). -/
def execSdesc (k : ProgId) (s : State) : Outc := done s (s.issue (pkey k) 0x11 (s.doSdesc (pkey k)))
/-- KDESC (R121). -/
def execKdesc (k : ProgId) (s : State) : Outc := done s (s.issue (pkey k) 0x12 (s.doKdesc (pkey k)))
/-- AT (R43, R134). -/
def execAt (k : ProgId) (s : State) : Outc := done s (s.issue (pkey k) 0x60 (s.doAt (pkey k)))
/-- AT_COMPLETE (R43). -/
def execAtComplete (k : ProgId) (s : State) : Outc := done s (if s.plotLive (keyPlot (pkey k)) then s.atStep (pkey k) else s)
/-- DUE (R44, R105, R135, R207). -/
def execDue (k : ProgId) (s : State) : Outc := done s (s.issue (pkey k) 0x61 (s.doDue (pkey k)))
/-- LINE_START_CHECK (R44): a line of the span's clock starts; `fin` is how many of the span's static cycles are complete. -/
def execLineStartCheck (p : Fin 32) (fin : BitVec 32) (s : State) : Outc :=
  done s (match s.span p with
    | some x => if s.lineStarted x.lc then s.lineCheck p fin.toNat else s
    | none => s)
/-- DUE_POSITION_REACHED (R44). -/
def execDuePositionReached (p : Fin 32) (s : State) : Outc :=
  done s (match s.span p with
    | some x => if s.spanLate x then s.dueMiss p else s
    | none => s)

/-! Wickets. -/

/-- WICKET_ALLOC (R97): a write of a PTR_WKT entry. -/
def execWicketAlloc (w : BitVec 17) (owner : BitVec 10) (v : Bool) (s : State) : Outc := done s (s.wktWrite w.toNat owner.toNat v)
/-- WSIG (R98, R133). -/
def execWsig (k : ProgId) (s : State) : Outc := done s (s.issue (pkey k) 0x51 (s.doWsig (pkey k)))
/-- WICKET_SIGNAL (R98): the WSIGs whose turn has come take effect. -/
def execWicketSignal (k : ProgId) (s : State) : Outc :=
  done s (if s.ctxActive (s.plotCtx (keyPlot (pkey k))) then s.releaseSigs (pkey k) else s)
/-- WWAIT (R99, R133). -/
def execWwait (k : ProgId) (s : State) : Outc := done s (s.issue (pkey k) 0x50 (s.doWwait (pkey k)))
/-- WWAIT_RELEASE (R99). -/
def execWwaitRelease (k : ProgId) (s : State) : Outc :=
  done s (if s.plotLive (keyPlot (pkey k)) then s.wwaitRelease (pkey k) else s)
/-- WAIT_TIMEOUT (R133, R307). -/
def execWaitTimeout (k : ProgId) (s : State) : Outc :=
  done s (if s.plotLive (keyPlot (pkey k)) then s.wwaitTimeout (pkey k) else s)
/-- BARRIER (R100, R133). -/
def execBarrier (k : ProgId) (s : State) : Outc := done s (s.issue (pkey k) 0x52 (s.doBarrier (pkey k)))
/-- BARRIER_RELEASE (R100, R262). -/
def execBarrierRelease (w : BitVec 17) (s : State) : Outc := done s (s.barrierRelease w.toNat)

/-! The life of slot commands. -/

/-- COMMAND_FIRE (R90): the compute slot (false) or the movement slot (true). -/
def execCommandFire (k : ProgId) (move : Bool) (s : State) : Outc := done s (s.commandFire (pkey k) (b2n move))
/-- COMMAND_COMMIT (R91, R92, R95). -/
def execCommandCommit (k : ProgId) (s : State) : Outc := done s (s.commandCommit (pkey k))
/-- TOKEN_LAND (R95). -/
def execTokenLand (p : Fin 32) (chid : BitVec 8) (slot : Fin 8) (s : State) : Outc :=
  done s (match s.flightDue s.par.tokens (256 * p + chid.toNat) slot with
    | some f => s.landToken f
    | none => s)
/-- CREDIT_LAND (R95). -/
def execCreditLand (p : Fin 32) (chid : BitVec 8) (slot : Fin 8) (s : State) : Outc :=
  done s (match s.flightDue s.par.credits (256 * p + chid.toNat) slot with
    | some f => s.landCredit f
    | none => s)
/-- CONV (R149-R158). -/
def execConv (k : ProgId) (ph : SlotPh) (s : State) : Outc := done s (s.slotRow 0x20 (pkey k) ph)
/-- DWCONV (R159, R160). -/
def execDwconv (k : ProgId) (ph : SlotPh) (s : State) : Outc := done s (s.slotRow 0x21 (pkey k) ph)
/-- GEMM (R122-R124). -/
def execGemm (k : ProgId) (ph : SlotPh) (s : State) : Outc := done s (s.slotRow 0x22 (pkey k) ph)
/-- POOL (R161, R162). -/
def execPool (k : ProgId) (ph : SlotPh) (s : State) : Outc := done s (s.slotRow 0x23 (pkey k) ph)
/-- RESAMP (R162-R164). -/
def execResamp (k : ProgId) (ph : SlotPh) (s : State) : Outc := done s (s.slotRow 0x24 (pkey k) ph)
/-- ELT (R125). -/
def execElt (k : ProgId) (ph : SlotPh) (s : State) : Outc := done s (s.slotRow 0x25 (pkey k) ph)
/-- ACT (R125). -/
def execAct (k : ProgId) (ph : SlotPh) (s : State) : Outc := done s (s.slotRow 0x26 (pkey k) ph)
/-- NORM (R125). -/
def execNorm (k : ProgId) (ph : SlotPh) (s : State) : Outc := done s (s.slotRow 0x27 (pkey k) ph)
/-- SMAX (R125). -/
def execSmax (k : ProgId) (ph : SlotPh) (s : State) : Outc := done s (s.slotRow 0x28 (pkey k) ph)
/-- REDUCE (R125). -/
def execReduce (k : ProgId) (ph : SlotPh) (s : State) : Outc := done s (s.slotRow 0x29 (pkey k) ph)
/-- QUANT (R126). -/
def execQuant (k : ProgId) (ph : SlotPh) (s : State) : Outc := done s (s.slotRow 0x2A (pkey k) ph)
/-- RNG (R142). -/
def execRng (k : ProgId) (ph : SlotPh) (s : State) : Outc := done s (s.slotRow 0x79 (pkey k) ph)
/-- LOAD (R130). -/
def execLoad (k : ProgId) (ph : SlotPh) (s : State) : Outc := done s (s.slotRow 0x40 (pkey k) ph)
/-- STORE (R130). -/
def execStore (k : ProgId) (ph : SlotPh) (s : State) : Outc := done s (s.slotRow 0x41 (pkey k) ph)
/-- SEND (R130). -/
def execSend (k : ProgId) (ph : SlotPh) (s : State) : Outc := done s (s.slotRow 0x42 (pkey k) ph)
/-- RECV (R130). -/
def execRecv (k : ProgId) (ph : SlotPh) (s : State) : Outc := done s (s.slotRow 0x43 (pkey k) ph)
/-- ATOM (R132). -/
def execAtom (k : ProgId) (ph : SlotPh) (s : State) : Outc := done s (s.slotRow 0x45 (pkey k) ph)
/-- TIME (R136). -/
def execTime (k : ProgId) (ph : SlotPh) (s : State) : Outc := done s (s.slotRow 0x62 (pkey k) ph)
/-- STAT (R143). -/
def execStat (k : ProgId) (ph : SlotPh) (s : State) : Outc := done s (s.slotRow 0x7A (pkey k) ph)
/-- DIGEST (R141): MODE 0 arms the tensor in the front end, MODE 1 runs in the movement slot. -/
def execDigest (k : ProgId) (ph : SlotPh) (s : State) : Outc :=
  done s (match ph with
    | .issue => s.issue (pkey k) 0x78 (fun ws => if bit (word ws 0) 53 then s.issueSlot (pkey k) ws else s.armDigest (pkey k) ws)
    | _ => s.slotRow 0x78 (pkey k) ph)
/-- HALO (R131, R305): its run sends the request, or on an ISLAND chip completes at once (R311). -/
def execHalo (k : ProgId) (ph : SlotPh) (s : State) : Outc :=
  done s (match ph with
    | .run => s.haloRun (pkey k)
    | _ => s.slotRow 0x44 (pkey k) ph)

/-! Belvedere. -/

/-- FLOW (R128, R129, R173): issued; COMMAND_FIRE sends the request. -/
def execFlow (k : ProgId) (s : State) : Outc := done s (s.issue (pkey k) 0x30 (fun ws => s.issueSlot (pkey k) ws))
/-- DISP (R128, R129, R173). -/
def execDisp (k : ProgId) (s : State) : Outc := done s (s.issue (pkey k) 0x31 (fun ws => s.issueSlot (pkey k) ws))
/-- WARP (R128, R129, R173). -/
def execWarp (k : ProgId) (s : State) : Outc := done s (s.issue (pkey k) 0x32 (fun ws => s.issueSlot (pkey k) ws))
/-- BEL_REQUEST_ACCEPT (R129). -/
def execBelRequestAccept (e : Fin 8) (s : State) : Outc :=
  done s (match s.belTurn e with
    | some x => s.belAccept e x
    | none => s)
/-- BEL_REQUEST_START (R176, R178, R179): the head of the queue, started or discarded. -/
def execBelRequestStart (e : Fin 8) (s : State) : Outc :=
  done s (if s.belTrained e then (s.belStart e).beat (256 + e) else s)
/-- BEL_REQUEST_COMPLETE (R177, R178): once its duration is over. -/
def execBelRequestComplete (e : Fin 8) (s : State) : Outc :=
  done s (match (s.eng e).cur with
    | some r => if (s.eng e).due ≤ s.fc ∧ (s.trained ∨ (State.belImgs r.op r.a r.b r.o).all (fun i => i.kind != 1)) then s.belFinish e r else s
    | none => s)
/-- BEL_DOMAIN_ENABLE (R168, R197, R266): a write of EN, or the end of STARTING. -/
def execBelDomainEnable (d : Fin 6) (e : EnEv) (s : State) : Outc :=
  done s (match e with
    | .write b => let (t, w) := s.enWrite (.bel d) b; if w = .start then t.ownDomain (176 + d) true else t
    | .done => s.startDone (.bel d) true)
end Sys2Proof.Machine
end

