-- ==== Sys2Proof/Machine/Contexts.lean ====
section
/-! DEFINITION. Contexts (R268-R271) and the later steps of their teardown (R284, R432). -/
namespace Sys2Proof.Machine
open Sys2Proof
namespace State
/-- The wickets of the table that are allocated or hold anything. -/
def wktsUsed (s : State) : List Nat :=
  let st := Reg.addr .PTR_WKT 1 0 - Reg.addr .PTR_WKT 0 0
  let lo := Reg.addr .PTR_WKT 0 0
  (s.par.wkt.map (fun x => x.1)
    ++ (s.regs.filter (fun x => decide (lo ≤ x.1 ∧ x.1 < lo + st * 131072))).map (fun x => (x.1 - lo) / st)).eraseDups
/-- A plot whose running slot holds a torn context (R273, R284 step 5): its banks are wiped, its programs end, and it reaches a
selection point; in STARTING the next slot chosen is loaded. -/
def tearPlot (s : State) (p : Nat) : State :=
  let hold : Bool := match (s.plot p).act with
    | .pause _ .spare => true
    | .pause _ .rewind => true
    | _ => (s.plot p).suspended
  let stop := (s.plot p).want == some .stop
  let s := s.charge p
  let s := (s.plotPavs p).foldl wipePav s
  let s := (((s.clearRptr p).clearChans p).dropProgs p).setRunning p none
  let s := s.setPlot p { s.plot p with act := .idle, want := none, chanOk := false, suspended := hold }
  if stop then s.stopIdle p else s
/-- A plot in STARTING goes on after its load was ended: to the next slot chosen, or with none bound to ON (R273). -/
def startingOn (s : State) (p : Nat) : State :=
  if s.plotState p = 1 then
    match s.chooseSlot p with
    | some j => s.beginSwitchIn p j
    | none => s.startDone (.plot (Fin.ofNat 32 p)) true
  else s
/-- Steps 3 to 6 of the teardown of context `c` (R284): CGEN advances, its banks are wiped, its wickets reset, its slots unbound,
and the tag fence runs. -/
def tearFinish (s : State) (c : Nat) : State :=
  let s := s.setFld PTR_CTX_CTRL_CGEN ((s.cgen c + 1) % 4096) c
  let held := (List.range 32).filter (fun p => (s.running p).isSome && s.plotCtx p == c)
  let s := held.foldl tearPlot s
  let s := (s.wktsUsed.filter (fun w => s.wktOwned w c)).foldl (fun s w => (s.wktEndWaits w).wktReset w) s
  let s := (List.range 32).foldl (fun s p => (s.bound p).foldl (fun s j => if (s.slot p j).ctx = c then s.unbind p j else s) s) s
  let s := held.foldl startingOn s
  let s := { s with ldg := { s.ldg with recs := s.ldg.recs.map (fun (r : Recov) => if r.cur = some c then { r with cur := none, passed := [], guilty := true } else r) } }
  let s := (s.setFld PTR_CTX_CTRL_STATE 3 c).setCtx c { s.ctx c with tearStep := 6 }
  s.fenceStart (c + 1, 0, 0)
/-- A TEAR of context `c` (R283, R284): FAULT and FREC read 0. -/
def ctxTear (s : State) (c : Nat) : State :=
  if c = 0 ∨ s.ctxState c ≠ 1 then s
  else
    let t := s.tearStart c 0 0 0 0 0
    t.setCtx c { t.ctx c with tearFc := s.fc + 1 }
end State
/-- CTX_ALLOC (R268): ignored for a context that is not FREE. -/
def execCtxAlloc (c : BitVec 10) (s : State) : Outc :=
  done s (
    let n := c.toNat
    if s.ctxState n = 0 then
      (((s.setFld PTR_CTX_CTRL_STATE 1 n).setFld PTR_CTX_CTRL_FAULT 0 n).wr .PTR_CTX_FREC 0 n |>.wr .PTR_CTX_PCYC 0 n).wr .PTR_CTX_BCYC 0 n
    else s)
/-- CTX_TEAR (R268, R283, R284): a TEAR written by the scheduler. -/
def execCtxTear (c : BitVec 10) (s : State) : Outc := done s (s.ctxTear c.toNat)
end Sys2Proof.Machine
end

