-- ==== Sys2Proof/Machine/Eth.lean ====
section
/-! DEFINITION. Ethernet ports, the ring switch and its guard (R373-R379), PTP (R380-R384), the media endpoints (R385-R388) and
the CPU port (R389). -/
namespace Sys2Proof.Machine
open Sys2Proof
namespace State

/-! Ports (R373, R379). -/

def ethPort (s : State) (n : Nat) : EthPort := s.eth.port.get {} n
def setEthPort (s : State) (n : Nat) (x : EthPort) : State := { s with eth := { s.eth with port := s.eth.port.set {} n x } }
/-- Drive BYP_HOLD of a port (R379). -/
def bypHold (s : State) (n : Nat) (v : Bool) : State :=
  if s.on ETH_PORT_CFG_BYP n = v then s
  else (s.setFld ETH_PORT_CFG_BYP (b2n v) n).emit (.pin (["BYP_HOLD0", "BYP_HOLD1", "BYP_HOLD2", "BYP_HOLD3"].getD n "") v)
/-- Power and link as a port's state machine asks (R373). -/
def portWork (x : State × SwWork) (n : Fin 4) : State :=
  match x.2 with
  | .start => x.1.ownDomain (186 + n) true
  | .stop => x.1.bypHold n false
  | .none => x.1
/-- The links of the subports that the mode has are up. [log entry 243 DEDUCED] -/
def portLinked (s : State) (n : Nat) : State :=
  (s.setFld ETH_PORT_CFG_LINK (if s.fld ETH_PORT_CFG_MODE n = 1 then 15 else 1) n).setEthPort n { upAt := some s.tick }
/-- STARTING of a port is complete. -/
def portStarted (s : State) (n : Fin 4) : State :=
  if s.fld ETH_PORT_CFG_STATE n = 1 then (s.portLinked n).startDone (.port n) true else s
/-- STOPPING of a port is complete: powered down. -/
def portOff (s : State) (n : Fin 4) : State :=
  let s := ((s.setFld ETH_PORT_CFG_LINK 0 n).setEthPort n {}).ownDomain (186 + n) false
  s.stopDone (.port n)
/-- A subport loses its link (R373, R379). -/
def portDown (s : State) (p : Nat) : State :=
  let n := p / 4
  let s := s.setFld ETH_PORT_CFG_LINK (setBits (s.fld ETH_PORT_CFG_LINK n) (p % 4) 1 0) n
  let s := ((s.addSat ETH_CNT_DOWN 1 n).setEthPort n { upAt := none }).bypHold n false
  s.alarm (0x70 + p) 0x0B01

/-! Frames. -/

def mac6 (m : Nat) : List Byte := beBytes 6 m
/-- The part of a frame from byte `i`, of `n` bytes, as a big-endian number. -/
def fNat (bs : List Byte) (i n : Nat) : Nat := beNat ((bs.drop i).take n)
/-- A frame's addresses, VLAN tag (VID, PCP) if it has one, EtherType and what follows it. -/
structure Frm where
  dst : Nat
  src : Nat
  tag : Option (Nat × Nat)
  typ : Nat
  body : List Byte
def parseFrame (bs : List Byte) : Frm :=
  if fNat bs 12 2 = 0x8100 then ⟨fNat bs 0 6, fNat bs 6 6, some (fNat bs 14 2 % 4096, fNat bs 14 2 / 8192), fNat bs 16 2, bs.drop 18⟩
  else ⟨fNat bs 0 6, fNat bs 6 6, none, fNat bs 12 2, bs.drop 14⟩
/-- A frame's bytes, tagged or not. -/
def Frm.bytes (f : Frm) (tag : Option (Nat × Nat)) : List Byte :=
  mac6 f.dst ++ mac6 f.src ++ (match tag with | some (v, p) => beBytes 2 0x8100 ++ beBytes 2 (p * 8192 + v) | none => [])
    ++ beBytes 2 f.typ ++ f.body
/-- A frame with its FCS, right or inverted. -/
def withFcs (bs : List Byte) (ok : Bool) : List Byte :=
  let c := crc32 bs
  bs ++ leBytes 4 (if ok then c else c ^^^ 0xFFFFFFFF)
def isGroup (mac : Nat) : Bool := mac / 2 ^ 40 % 2 == 1
/-- The UDP datagram of an IPv4 frame: destination address, ports, payload, and where the UDP header begins in the body. -/
def udpOf (f : Frm) : Option (Nat × Nat × Nat × List Byte × Nat) :=
  let b := f.body
  let ihl := fNat b 0 1 % 16 * 4
  if f.typ = 0x0800 ∧ fNat b 0 1 / 16 = 4 ∧ 20 ≤ ihl ∧ fNat b 9 1 = 17 ∧ fNat b 6 2 % 0x4000 = 0 then
    some (fNat b 16 4, fNat b ihl 2, fNat b (ihl + 2) 2, (b.drop (ihl + 8)).take (fNat b (ihl + 4) 2 - 8), ihl)
  else none

/-! The ring guard (R378). -/

def ringE (s : State) : Nat := s.fld ETH_RING_CFG_RING_E
/-- A ring-guard frame: EtherType 0x88B5, chip id, kind (0 guard, 1 FLUSH), sequence number. [log entry 231 DESIGN CHOICE] -/
def guardFrame (s : State) (chip kind seq : Nat) : List Byte :=
  mac6 0xFFFFFFFFFFFF ++ mac6 s.eth.mac ++ beBytes 2 0x88B5 ++ beBytes 1 chip ++ beBytes 1 kind ++ beBytes 4 seq
def sendGuard (s : State) (p kind : Nat) : State :=
  let t := { s with eth := { s.eth with guardSeq := (s.eth.guardSeq + 1) % 2 ^ 32 } }
  if s.ethUp p then t.emit (.frame p 6 (withFcs (s.guardFrame s.zhl.chip kind s.eth.guardSeq) true)) else t
/-- Flush the learned addresses and send FLUSH on both ring ports. -/
def ringFlush (s : State) : State :=
  (({ s with eth := { s.eth with learned := [] } }).sendGuard s.ringE 1).sendGuard s.ringW 1
/-- Forward a guard frame from one ring port to the other, unchanged. -/
def guardForward (s : State) (p : Nat) (bs : List Byte) : State :=
  let q := if p = s.ringE then s.ringW else s.ringE
  if (p = s.ringE ∨ p = s.ringW) ∧ s.ethUp q then s.emit (.frame q 6 (withFcs bs true)) else s
/-- FLUSH arrives. -/
def flushIn (s : State) (p chip : Nat) (bs : List Byte) : State :=
  let s := { s with eth := { s.eth with learned := [] } }
  if chip = s.zhl.chip then s else s.guardForward p bs
/-- A guard frame arrives: the owner's own one returns on RING_W, another chip's goes on. Returns without a gap are those no
more than 3 ms apart. [log entry 232 DEDUCED] -/
def guardIn (s : State) (p : Nat) (bs : List Byte) : State :=
  let b := (parseFrame bs).body
  let chip := fNat b 0 1
  if fNat b 1 1 = 1 then s.flushIn p chip bs
  else if chip ≠ s.zhl.chip then s.guardForward p bs
  else if p = s.ringW then
    let gap := s.eth.backAt + 3000 * usTicks < s.tick
    { s with eth := { s.eth with backAt := s.tick, runAt := if gap ∨ s.eth.runAt.isNone then some s.tick else s.eth.runAt } }
  else s
/-- None of the owner's guard frames has returned for 3 ms. -/
def guardLost (s : State) : Bool :=
  s.ringBlocked && s.on ETH_RING_CFG_GUARD && decide (s.eth.backAt + 3000 * usTicks ≤ s.tick)
/-- Open RING_W (R378). -/
def ringOpen (s : State) : State :=
  let s := { s.setFld ETH_RING_CFG_OPEN 1 with eth := { s.eth with runAt := none } }
  s.ringFlush.alarm 0x80 0x0B03
/-- Guard frames have returned without a gap for 1 s. -/
def ringHealed (s : State) : Bool :=
  s.on ETH_RING_CFG_OWNER && s.on ETH_RING_CFG_OPEN && decide (s.tick ≤ s.eth.backAt + 3000 * usTicks)
    && (match s.eth.runAt with | some t => decide (t + 1000000 * usTicks ≤ s.tick) | none => false)
/-- Block RING_W again. -/
def ringClose (s : State) : State := ((s.setFld ETH_RING_CFG_OPEN 0).ringFlush).logFree 0x0B04 9 0 0xFFFF

/-! PTP (R380-R384). -/

def ptpi (s : State) (i : Nat) : PtpInst := s.eth.ptp.get {} i
def setPtpi (s : State) (i : Nat) (x : PtpInst) : State := { s with eth := { s.eth with ptp := s.eth.ptp.set {} i x } }
def ptpOn (s : State) (i : Nat) : Bool := 1 ≤ i && i ≤ 4 && s.on ETH_PTP_CFG_EN i
def ptpSlave (s : State) (i : Nat) : Bool := s.fld ETH_PTP_CFG_ROLE i == 1
def ptpMaster (s : State) (i : Nat) : Bool := s.fld ETH_PTP_CFG_ROLE i == 2
/-- Peer delay is in use. [log entry 238 DEDUCED] -/
def ptpP2p (s : State) : Bool := s.on ETH_RING_CFG_TC
/-- ASYM of an instance's port, in 2^-16 ns. -/
def ptpAsym (s : State) (p : Nat) : Int := toSigned 32 (s.fld ETH_PORT_ASYM_ASYM (p / 4)) * 4096
/-- 48-bit seconds and 32-bit nanoseconds of a time in ns, big-endian. -/
def ptpTime (ns : Nat) : List Byte := beBytes 6 (ns / 1000000000 % 2 ^ 48) ++ beBytes 4 (ns % 1000000000)
def ptpNs (bs : List Byte) : Nat := fNat bs 0 6 * 1000000000 + fNat bs 6 4
/-- The port identity of an instance: an EUI-64 of the chip's MAC address and the instance number. -/
def ptpIdent (s : State) (i : Nat) : List Byte :=
  beBytes 3 (s.eth.mac / 2 ^ 24) ++ [0xFF, 0xFE] ++ beBytes 3 (s.eth.mac % 2 ^ 24) ++ beBytes 2 i
/-- A PTP message: header and body. [log entry 236 PRESUMED] -/
def ptpMsg (s : State) (i typ flags : Nat) (corr : Int) (seq logi : Nat) (body : List Byte) : List Byte :=
  beBytes 1 typ ++ beBytes 1 0x12 ++ beBytes 2 (34 + body.length) ++ beBytes 1 (s.fld ETH_PTP_CFG_DOMAIN i) ++ beBytes 1 0
    ++ beBytes 2 flags ++ beBytes 8 (ofSigned 64 corr) ++ beBytes 4 0 ++ s.ptpIdent i ++ beBytes 2 seq ++ beBytes 1 0
    ++ beBytes 1 logi ++ body
def ptpGroup : Nat := 0xE0000181
def ptpPeerGroup : Nat := 0xE000006B
/-- Send a message of instance `i`; event messages go to port 319, general ones to 320. -/
def ptpSend (s : State) (i : Nat) (event peer : Bool) (m : List Byte) : State :=
  let u := if event then 319 else 320
  s.udpOut (s.fld ETH_PTP_CFG_PORT i) 7 (if peer then ptpPeerGroup else ptpGroup) u u 0 7 0 none m
/-- Ticks of an interval of 2^k seconds, k the signed 4-bit field `v`. -/
def ptpTicks (v : Nat) : Nat :=
  let k := toSigned 4 v
  if k < 0 then 500000000 / 2 ^ k.natAbs else 500000000 * 2 ^ k.toNat
/-- Send Sync as master (R381): one-step with the time of TB i and its SUB in correctionField, or two-step. -/
def ptpSync (s : State) (i : Nat) : State :=
  let x := s.ptpi i
  let t := s.tb16 i
  let two := s.on ETH_PTP_CFG_TWOSTEP i
  let sub : Int := (t % 16 * 4096 : Nat)
  let li := s.fld ETH_PTP_CFG_SYNC i
  let s := s.setPtpi i { x with syncAt := s.tick, txSeq := (x.txSeq + 1) % 65536 }
  if two then
    let s := s.ptpSend i true false (s.ptpMsg i 0 0x0200 0 x.txSeq li (ptpTime 0))
    s.ptpSend i false false (s.ptpMsg i 8 0 sub x.txSeq li (ptpTime (t / 16)))
  else s.ptpSend i true false (s.ptpMsg i 0 0 sub x.txSeq li (ptpTime (t / 16)))
/-- Whether a timestamp taken in TB i in this tick is marked STEPPED (R381). -/
def ptpStepped (s : State) (i : Nat) : Bool := (s.tbase i).stepAt == some s.tick
/-- Send Delay_Req, or Pdelay_Req in P2P, as slave: its transmission is T3. -/
def ptpDelay (s : State) (i : Nat) : State :=
  let x := s.ptpi i
  let p2p := s.ptpP2p
  let s := s.setPtpi i { x with dreqAt := s.tick, dqSeq := (x.dqSeq + 1) % 65536, t3 := some (s.tb16 i), t3At := s.tick, t4 := none,
                                stepped := x.stepped || s.ptpStepped i }
  let c := - s.ptpAsym (s.fld ETH_PTP_CFG_PORT i)
  if p2p then s.ptpSend i true true (s.ptpMsg i 2 0 c x.dqSeq 0x7F (ptpTime 0 ++ List.replicate 10 0))
  else s.ptpSend i true false (s.ptpMsg i 1 0 c x.dqSeq 0x7F (ptpTime 0))
/-- The bytes of a sample set (Table 15.3), little-endian as all registers. [log entry 237 DEDUCED] -/
def ptpSet (s : State) (i : Nat) : List Byte :=
  let x := s.ptpi i
  let t := fun (v : Nat) => leBytes 6 (v / 1000000000 % 2 ^ 48) ++ leBytes 4 (v % 1000000000)
  let t2 := x.t2.getD 0
  let fl := b2n x.stepped + 2 * b2n x.two + 4 * b2n s.ptpP2p + 8 * s.fld SDL_TB_STAT_HOLDOVER i
  let cms := x.corr + s.ptpAsym (s.fld ETH_PTP_CFG_PORT i) - ((t2 % 16 * 4096 : Nat) : Int)
  leBytes 2 x.seq ++ leBytes 2 fl ++ t (x.t1.getD 0) ++ t (t2 / 16)
    ++ (if s.ptpP2p then List.replicate 20 0 else t (x.t3.getD 0 / 16) ++ t (x.t4.getD 0)) ++ leBytes 4 0
    ++ leBytes 8 (ofSigned 64 cms) ++ leBytes 8 (ofSigned 64 x.corrSm)
/-- A read of `n` bytes at offset +0x40 latches the set and answers its first bytes (R382). -/
def ptpLatch (s : State) (i n : Nat) : State :=
  let x := s.ptpi i
  (s.setPtpi i { x with shown := x.set, latched := some (s.tick, s.out.length, n) }).emit (.read (leNat (x.set.take n)))
/-- A slave's delay exchange is complete with a Sync's T1 and T2: the set is stored (R382). A read of +0x40 in the same tick has latched
it. -/
def ptpComplete (s : State) (i : Nat) : State :=
  let x := s.ptpi i
  if s.ptpSlave i ∧ x.t1.isSome ∧ x.t2.isSome then
    let set := s.ptpSet i
    let y := { x with set := set, t3 := none, t4 := none, stepped := false }
    match x.latched with
    | some (t, k, n) =>
      if t = s.tick then { s.setPtpi i { y with shown := set } with out := s.out.set k (.read (leNat (set.take n))) } else s.setPtpi i y
    | none => s.setPtpi i y
  else s
/-- A PTP message arrives for instance `i` (R380-R384): type, sequenceId, correctionField, two-step flag, first timestamp in ns
of its body, and for an Announce its grandmaster and interval. Event messages are stamped on arrival in TB i. -/
def ptpIn (s : State) (i typ seq : Nat) (corr : Int) (two : Bool) (time : Nat) (peer : List Byte) : State :=
  let x := s.ptpi i
  let now := s.tb16 i
  let st := x.stepped || s.ptpStepped i
  let mine : Prop := seq = (x.dqSeq + 65535) % 65536
  match typ with
  | 0 => -- Sync
    s.setPtpi i { x with seq := seq, t2 := some now, t2At := s.tick, corr := corr, two := two, t1 := if two then none else some time,
                         stepped := st }
  | 1 => -- Delay_Req, to a master
    if s.ptpMaster i then
      s.ptpSend i false false (s.ptpMsg i 9 0 (corr - (now % 16 * 4096 : Nat)) seq (s.fld ETH_PTP_CFG_DREQ i) (ptpTime (now / 16) ++ peer))
    else s
  | 2 => -- Pdelay_Req
    if s.fld ETH_PTP_CFG_ROLE i = 1 ∨ s.ptpMaster i then
      s.ptpSend i true true (s.ptpMsg i 3 0 corr seq 0x7F (ptpTime 0 ++ peer))
    else s
  | 3 => -- Pdelay_Resp: the turnaround is in correctionField, or T2 here and T3 in its Follow_Up
    match x.t3 with
    | some a =>
      if ¬ mine then s else
      let d : Int := ((now : Int) - a) * 4096 - corr - s.ptpAsym (s.fld ETH_PTP_CFG_PORT i)
      if two then s.setPtpi i { x with t4 := some now, corrSm := d + (time * 65536 : Nat), stepped := st }
      else
        let p := s.fld ETH_PTP_CFG_PORT i
        let m := d / 2
        let s := { s with eth := { s.eth with mld := s.eth.mld.set 0 p m.toNat } }
        (s.setPtpi i { x with corrSm := m, stepped := st }).ptpComplete i
    | none => s
  | 8 => -- Follow_Up
    if x.two ∧ x.seq = seq then s.setPtpi i { x with t1 := some time, corr := x.corr + corr } else s
  | 9 => -- Delay_Resp
    if x.t3.isSome ∧ ¬ s.ptpP2p ∧ mine then
      (s.setPtpi i { x with t4 := some time, corrSm := corr }).ptpComplete i
    else s
  | 10 => -- Pdelay_Resp_Follow_Up
    match x.t4 with
    | some _ =>
      if ¬ mine then s else
      let m := (x.corrSm - (time * 65536 : Nat) - corr) / 2
      let s := { s with eth := { s.eth with mld := s.eth.mld.set 0 (s.fld ETH_PTP_CFG_PORT i) m.toNat } }
      (s.setPtpi i { x with t4 := none, corrSm := m }).ptpComplete i
    | none => s
  | _ => s
/-- HOLDOVER is set once in a tick (R384). -/
def holdoverOnce (s : State) (i : Nat) : State :=
  if (s.hw.get none (SDL_TB_STAT_HOLDOVER.place i 0)).isSome then s else s.setHoldover i
/-- An Announce arrives at a slave (R384): a changed grandmaster sets HOLDOVER and is logged. -/
def announceIn (s : State) (i gm : Nat) (logi : Int) : State :=
  let x := s.ptpi i
  let s := s.setPtpi i { x with gm := some gm, annAt := some s.tick, annLog := logi }
  match x.gm with
  | some g => if g ≠ gm ∧ s.ptpSlave i then (s.holdoverOnce i).logFree 0x0B05 9 i 0xFFFF else s
  | none => s
/-- ANN_TMO intervals without an Announce (R384). -/
def announceLate (s : State) (i : Nat) : Bool :=
  let x := s.ptpi i
  let n := if s.fld ETH_PTP_CFG_ANN_TMO i = 0 then 3 else s.fld ETH_PTP_CFG_ANN_TMO i
  s.ptpOn i && s.ptpSlave i && (match x.annAt with
    | some t =>
      let iv := if x.annLog < 0 then 500000000 / 2 ^ x.annLog.natAbs else 500000000 * 2 ^ x.annLog.toNat
      decide (t + n * iv ≤ s.tick)
    | none => false)
/-- HOLDOVER after the timeout, once. -/
def announceTimeout (s : State) (i : Nat) : State := (s.setPtpi i { s.ptpi i with annAt := none }).holdoverOnce i
/-- The instance to which a PTP message of a domain on a switch port belongs. -/
def ptpFor (s : State) (p dom : Nat) : Option Nat :=
  [1, 2, 3, 4].find? (fun i => s.ptpOn i && s.fld ETH_PTP_CFG_PORT i == p && s.fld ETH_PTP_CFG_DOMAIN i == dom)
/-- A PTP message by its bytes; a response is for the instance whose port identity it names. -/
def ptpBytes (s : State) (i : Nat) (m : List Byte) : State :=
  let typ := fNat m 0 1 % 16
  if typ = 11 then s.announceIn i (fNat m 53 8) (toSigned 8 (fNat m 33 1))
  else if (typ = 3 ∨ typ = 9 ∨ typ = 10) ∧ (m.drop 44).take 10 ≠ s.ptpIdent i then s
  else s.ptpIn i typ (fNat m 30 2) (toSigned 64 (fNat m 8 8)) (bit (fNat m 6 1) 1) (ptpNs (m.drop 34)) ((m.drop 20).take 10)

/-! ST 2110 receivers (R386, R387). -/

/-- The stamp of a frame: seconds, and NSS, from its RTP timestamp and its first packet's arrival (R387). -/
def rtpStamp (s : State) (r rts : Nat) : Nat × Nat :=
  let ta := s.tb16 (s.rxBase r)
  let n : Int := (ta * 90000 / sixteenths : Nat)
  let k := n - (n - rts) % (2 ^ 32 : Nat)
  let st := (k * sixteenths / 90000).toNat
  (st / sixteenths, (st / 16 % 1000000000) <<< SDL_TB_LOAD_NSS_NS.lo + (st % 16) <<< SDL_TB_LOAD_NSS_SUB.lo)
/-- Ten-bit components of a byte string, most significant first. -/
def tenBits (bs : List Byte) : List Nat :=
  let v := beNat bs
  let n := bs.length * 8 / 10
  (List.range n).map (fun i => bits v (bs.length * 8 - 10 * (i + 1)) 10)
/-- Pixels of RGB components as ARGB2101010 words with A = 0b11. [log entry 240 DEDUCED] -/
def rgbWords : List Nat → List Byte
  | r :: g :: b :: t => leBytes 4 (3 * 2 ^ 30 + r * 2 ^ 20 + g * 2 ^ 10 + b) ++ rgbWords t
  | _ => []
/-- The stored bytes of a segment, and their offset in the row. -/
def srdBytes (fmt : Nat) (x : Srd) : Nat × List Byte :=
  if fmt = 0 then (x.pix.toNat / 2 * 5, x.data) else (x.pix.toNat * 4, rgbWords (tenBits x.data))
/-- Slot `j` of the receiver's stream is its frame's. -/
def rxTake (s : State) (r j : Nat) (f : RxFrame) : State :=
  let i := s.rxStream r
  let st := s.strm i
  let s := (s.setStrm i { st with busy := st.busy.set false j true, claim := st.claim.set 0 j (r + 1) }).showFree i
  s.setRxc r { s.rxc r with cur := some { f with slot := j } }
/-- Write what a receiver has written into its slot since it claimed it, at slot `j`: the new bytes, or those that stood there. -/
def rxRedo (s : State) (r j : Nat) (f : RxFrame) (old : Bool) : State :=
  let st := s.strm (s.rxStream r)
  (if old then f.wrote.reverse else f.wrote).foldl (fun s (x : Nat × List Byte × List Byte) =>
    s.ctxPut (s.fld ETH_RX_CFG_CTX r) (s.rxc r).cgen (st.ibase + j * st.istride + x.1) (if old then x.2.2 else x.2.1)) s
/-- The receivers above `r` that have claimed a slot of its stream in this tick, with their frames. -/
def rxLater (s : State) (r : Nat) : List (Nat × RxFrame) :=
  (List.range 16).filterMap (fun q => match (s.rxc q).cur with
    | some f => if r < q ∧ s.rxStream q = s.rxStream r ∧ f.claimAt = s.tick then some (q, f) else none
    | none => none)
/-- Claim the lowest free slot for a new frame, or discard it as RX_NOSLOT (R386). Claims of one tick count in receiver order (R202): a
receiver takes the slot of the next one above it that has claimed in this tick, and so on up. -/
def rxClaim (s : State) (r rts : Nat) : State :=
  let i := s.rxStream r
  let st := s.strm i
  let s := s.setRxc r { s.rxc r with drop := some rts }
  let free := if s.strmState i = 2 then (List.range st.nslots).find? (fun j => !st.busy.get false j && st.claim.get 0 j == 0) else none
  let later := if s.strmState i = 2 then s.rxLater r else []
  let slots := later.map (fun x => x.2.slot) ++ free.toList
  let (sec, nss) := s.rtpStamp r rts
  let s := later.foldl (fun s x => s.rxRedo x.1 x.2.slot x.2 true) s
  let who := (r, (⟨rts, 0, 0, sec, nss, s.tick, []⟩ : RxFrame)) :: later
  let s := (who.zip slots).foldl (fun s x => (s.rxTake x.1.1 x.2 x.1.2).rxRedo x.1.1 x.2 x.1.2 false) s
  (who.drop slots.length).foldl (fun s x => (s.setRxc x.1 { s.rxc x.1 with cur := none }).bump 0x0B06 x.1) s
/-- Write a packet's samples into the slot of the frame in progress, and post a complete frame. -/
def rxWrite (s : State) (r : Nat) (segs : List Srd) : State :=
  match (s.rxc r).cur with
  | none => s
  | some f =>
    let st := s.strm (s.rxStream r)
    let fmt := s.fld ETH_RX_CFG_FMT r
    let w := s.fld ETH_RX_GEO_WIDTH r; let h := s.fld ETH_RX_GEO_HEIGHT r
    let base := st.ibase + f.slot * st.istride
    let ok := segs.filter (fun x => x.line.toNat < h)
    let (s, n, wr) := ok.foldl (fun (a : State × Nat × List (Nat × List Byte × List Byte)) x =>
      let (o, bs) := srdBytes fmt x
      let bs := bs.take (mediaRow fmt w - o)
      let off := x.line.toNat * mediaPitch fmt w + o
      let at_ := base + off
      ((a.1.ctxPut (s.fld ETH_RX_CFG_CTX r) (s.rxc r).cgen at_ bs).resvWait (44 + r) (bursts at_ bs.length), a.2.1 + bs.length,
        a.2.2 ++ [(off, bs, a.1.lpBytes at_ bs.length)])) (s, 0, [])
    let f := { f with bytes := f.bytes + n, wrote := if f.claimAt = s.tick then f.wrote ++ wr else [] }
    let s := s.setRxc r { s.rxc r with cur := some f }
    if mediaRow fmt w * h ≤ f.bytes then s.rxPost r f else s
/-- A packet of receiver `r` (R386). -/
def rxPacket (s : State) (r rts rseq : Nat) (marker overflow : Bool) (segs : List Srd) : State :=
  let x := s.rxc r
  if s.on ETH_RX_CFG_DUAL r ∧ x.seen.contains rseq then s
  else
    let s := s.setRxc r { x with seen := (rseq :: x.seen).take 16384 }
    let s := match x.cur with | some f => if f.rts ≠ rts then s.rxShort r else s | none => s
    let s := if (s.rxc r).drop = some rts then s else s.rxClaim r rts
    let s := if overflow then s.rxShort r else s.rxWrite r segs
    if marker then s.rxShort r else s
/-- The receiver that takes a UDP datagram on a switch port, with its path (true for B). [log entry 241 DEDUCED] -/
def rxFor (s : State) (p ip udp : Nat) : Option (Nat × Bool) :=
  (List.range 16).findSome? (fun r =>
    if s.fld ETH_RX_CFG_STATE r ≠ 2 then none
    else if s.fld ETH_RX_CFG_PORT_A r = p ∧ s.fld ETH_RX_DST_A_ADDR r = ip ∧ s.fld ETH_RX_DST_A_UDP r = udp then some (r, false)
    else if s.on ETH_RX_CFG_DUAL r ∧ s.fld ETH_RX_CFG_PORT_B r = p ∧ s.fld ETH_RX_DST_B_ADDR r = ip ∧ s.fld ETH_RX_DST_B_UDP r = udp then
      some (r, true)
    else none)
/-- The sample row data headers of an ST 2110-20 payload: length, line, offset; at most three. -/
def srdHeads : Nat → List Byte → List (Nat × Nat × Nat)
  | 0, _ => []
  | n + 1, b =>
    let h := (fNat b 0 2, fNat b 2 2 % 2 ^ 15, fNat b 4 2 % 2 ^ 15)
    if fNat b 4 2 < 2 ^ 15 then [h] else h :: srdHeads n (b.drop 6)
/-- The segments that their headers cut from the data. -/
def srdCut : List (Nat × Nat × Nat) → List Byte → List Srd
  | [], _ => []
  | (n, l, o) :: t, b => ⟨BitVec.ofNat 15 l, BitVec.ofNat 15 o, b.take n⟩ :: srdCut t (b.drop n)
/-- A packet by its RTP bytes. -/
def rxBytes (s : State) (r : Nat) (p : List Byte) : State :=
  let q := p.drop (12 + 4 * (fNat p 0 1 % 16) + 2)
  let hs := srdHeads 3 q
  s.rxPacket r (fNat p 4 4) (fNat p 2 2) (bit (fNat p 1 1) 7) false (srdCut hs (q.drop (6 * hs.length)))

/-! The CPU port (R389) and the switch (R375-R377, R383). -/

/-- Address of an entry of CPU ring `k` (0 to 3 receive, 4 to 7 transmit), if the ring has any. -/
def cpuEntry (s : State) (k : Nat) : Option Nat :=
  let (b, n) := s.eth.cpuRing.get (0, 0) k
  if n = 0 then none else some (b + 16 * (s.eth.cpuIdx.get 0 k % n))
/-- Hand an entry back: OWN cleared, length and VLAN written, a free status; the ring moves on. -/
def cpuDone (s : State) (k a len tag : Nat) : State :=
  let (st, s) := s.freeBits 16
  let s := s.lpPut (a + 8) (leBytes 2 len ++ leBytes 2 (setBits (s.lpNat (a + 10) 2) 0 1 0) ++ leBytes 2 tag ++ leBytes 2 st)
  { s with eth := { s.eth with cpuIdx := s.eth.cpuIdx.set 0 k (s.eth.cpuIdx.get 0 k + 1) } }
/-- A frame to the CPU port, from switch port `p` (R389). -/
def cpuRx (s : State) (p : Nat) (bs : List Byte) (vid pcp : Nat) : State :=
  let drop := (s.bump 0x0B0B (p / 4)).addSat ETH_CNT_CPUDROP 1 (p / 4)
  match s.cpuEntry (pcp / 2) with
  | some a =>
    if bit (s.lpNat (a + 10) 2) 0 then
      (s.lpPut (s.lpNat a 8) bs).cpuDone (pcp / 2) a bs.length (pcp * 8192 + vid)
    else drop
  | none => drop
/-- PVID of a switch port. [log entry 229 PRESUMED] -/
def pvid (s : State) (p : Nat) : Nat := s.eth.pvid.get 1 p
/-- Learn a source address (R376). -/
def learn (s : State) (vid mac p : Nat) : State :=
  if isGroup mac then s
  else
    let t := s.eth.learned.filter (fun l => !(l.vid == vid && l.mac == mac))
    { s with eth := { s.eth with learned := t ++ [⟨vid, mac, p, s.tick⟩] } }
/-- The external egress ports of a frame (R376, R377): the learned one, or the VID's members, never the ingress, none that is
down, and RING_W only while it is not blocked. -/
def egressOf (s : State) (p vid dst : Nat) (guarded : Bool) : List Nat :=
  let mem := (List.range 16).filter (fun q => bit (s.fld ETH_VLAN_MEMBER vid) q && q != p && s.ethUp q
    && !(guarded && s.ringBlocked && q == s.ringW))
  match (if isGroup dst then none else s.eth.learned.find? (fun l => l.vid == vid && l.mac == dst)) with
  | some l => mem.filter (fun q => q == l.port)
  | none => mem
/-- A 16-bit ones'-complement checksum with a field of words changed. -/
def csumFix (c : Nat) (old new : List Nat) : Nat :=
  if c = 0 then 0
  else
    let fold := fun (v : Nat) => v % 65536 + v / 65536
    let x := (65535 - c) + (old.map (fun w => 65535 - w)).foldl (· + ·) 0 + new.foldl (· + ·) 0
    let r := 65535 - fold (fold (fold x))
    if r = 0 then 65535 else r
/-- Replace bytes of a list at a place. -/
def splice (bs : List Byte) (i : Nat) (new : List Byte) : List Byte := bs.take i ++ new ++ bs.drop (i + new.length)
/-- The body of a forwarded PTP event message with `add` (2^-16 ns) in its correctionField and its UDP checksum updated
(R383); `u` is where its UDP header begins. -/
def tcBody (b : List Byte) (u : Nat) (add : Int) : List Byte :=
  let at_ := u + 8 + 8
  let old := (List.range 4).map (fun i => fNat b (at_ + 2 * i) 2)
  let v := ofSigned 64 (toSigned 64 (fNat b at_ 8) + add)
  let nb := beBytes 8 v
  let new := (List.range 4).map (fun i => fNat nb (2 * i) 2)
  splice (splice b at_ nb) (u + 6) (beBytes 2 (csumFix (fNat b (u + 6) 2) old new))
/-- Send a frame out of external port `q` (R376, R377), with its FCS right or inverted. [log entry 235 DEDUCED] -/
def sendOut (s : State) (q vid pcp : Nat) (f : Frm) (ok : Bool) : State :=
  let ptp := match udpOf f with | some (_, _, d, _, _) => d == 319 || d == 320 | none => false
  let tag := if bit (s.fld ETH_VLAN_UNTAG vid) q then none else some (vid, pcp)
  s.emit (.frame q (s.egressQueue ptp pcp) (withFcs (f.bytes tag) ok))
/-- Answer a Pdelay_Req on an external port as a transparent clock (R383): the turnaround is nought within the command. -/
def tcPdelay (s : State) (p : Nat) (m : List Byte) : State :=
  let r := beBytes 1 3 ++ beBytes 1 0x12 ++ beBytes 2 54 ++ beBytes 1 (fNat m 4 1) ++ beBytes 1 0 ++ beBytes 2 0
    ++ (m.drop 8).take 8 ++ beBytes 4 0 ++ s.ptpIdent 0 ++ (m.drop 30).take 2 ++ beBytes 1 0 ++ beBytes 1 0x7F
    ++ ptpTime 0 ++ (m.drop 20).take 10
  s.udpOut p 7 ptpPeerGroup 319 319 0 7 0 none r
/-- Forward a frame between external ports (R376, R383): `idle` are the egress ports on which it goes cut-through, `resid` the
residence time in 1/16 ns. One with a bad FCS ends stomped where it went cut-through and is dropped elsewhere. -/
def bridge (s : State) (p vid pcp : Nat) (f : Frm) (ok : Bool) (idle resid : Nat) : State :=
  let ptp := match udpOf f with
    | some (_, _, d, m, u) => if d = 319 ∨ d = 320 then some (fNat m 0 1 % 16, u, m) else none
    | none => none
  let p2p := s.on ETH_RING_CFG_TC
  let out := s.egressOf p vid f.dst ptp.isNone
  let f := match ptp with
    | some (t, u, _) =>
      if t ≤ 3 then
        { f with body := tcBody f.body u ((resid * 4096 : Nat) + (if p2p ∧ t = 0 then ((s.eth.mld.get 0 p : Nat) : Int) else 0)) }
      else f
    | none => f
  let kept := match ptp with | some (t, _, _) => p2p && (t == 1 || t == 2 || t == 3 || t == 10) | none => false
  if kept then (match ptp with | some (2, _, m) => (if ok then s.tcPdelay p m else s) | _ => s)
  else if ok then out.foldl (fun s q => s.sendOut q vid pcp f true) s
  else
    let cut := out.filter (fun q => bit idle q)
    let s := cut.foldl (fun s q => s.sendOut q vid pcp f false) s
    if cut.isEmpty then s else (s.bump 0x0B02 (p / 4)).addSat ETH_CNT_STOMP 1 (p / 4)
/-- A frame enters external switch port `p` (R373-R377, R383, R389). [log entries 233 DEDUCED, 234 DESIGN CHOICE] -/
def frameIn (s : State) (p : Nat) (bs : List Byte) (ok : Bool) (idle resid : Nat) : State :=
  let f := parseFrame bs
  let vid := match f.tag with | some (v, _) => if v = 0 then s.pvid p else v | none => s.pvid p
  let pcp := match f.tag with | some (_, c) => c | none => 0
  let outside : Bool := (match f.tag with | some (v, _) => v != 0 | none => false) && !bit (s.fld ETH_VLAN_MEMBER vid) p
  if ¬ s.ethUp p then s
  else if 9216 < bs.length + 4 then (s.bump 0x0B0C (p / 4)).addSat ETH_CNT_RXERR 1 (p / 4)
  else if f.typ = 0x8808 then s
  else if outside then s
  else
    let udp := udpOf f
    let inst := match udp with
      | some (_, _, d, m, _) => if d = 319 ∨ d = 320 then s.ptpFor p (fNat m 4 1) else none
      | none => none
    let isPtp := match udp with | some (_, _, d, _, _) => d == 319 || d == 320 | none => false
    match inst, udp with
    | some i, some (_, _, _, m, _) =>
      if ¬ ok then s
      else if s.ptpP2p ∧ fNat m 0 1 % 16 = 2 ∧ ¬ s.ptpSlave i ∧ ¬ s.ptpMaster i then s.tcPdelay p m
      else s.ptpBytes i m
    | _, _ =>
      if f.typ = 0x88B5 then (if ok then s.guardIn p bs else s)
      else if s.ringBlocked ∧ p = s.ringW ∧ ¬ isPtp then s
      else
        let s := if ok then s.learn vid f.src p else s
        let fwd := fun (s : State) => s.bridge p vid pcp f ok idle resid
        let rx := match udp with | some (ip, _, d, _, _) => s.rxFor p ip d | none => none
        match rx, udp with
        | some (r, _), some (_, _, _, m, _) =>
          let s := if ok ∧ s.trained then s.rxBytes r m else s
          if isGroup f.dst then fwd s else s
        | _, _ =>
          if f.dst = s.eth.mac ∨ f.dst = 0xFFFFFFFFFFFF ∨ s.eth.mcast.contains f.dst then
            let s := if ok then s.cpuRx p bs vid pcp else s
            if isGroup f.dst then fwd s else s
          else fwd s
/-- A transmit descriptor of CPU ring `k` (R389): its frame leaves by the switch. [log entry 290 DEDUCED] -/
def cpuTx (s : State) (k : Nat) : State :=
  match s.cpuEntry (4 + k) with
  | some a =>
    if bit (s.lpNat (a + 10) 2) 0 then
      let (bs, s) := s.lpRead (s.lpNat a 8) (s.lpNat (a + 8) 2)
      let f := parseFrame bs
      let t := s.lpNat (a + 12) 2
      let vid := if bit (s.lpNat (a + 10) 2) 1 then t % 4096 else s.pvid 16
      let s := (s.egressOf 16 vid f.dst true).foldl (fun s q => s.sendOut q vid (t / 8192) f true) s
      s.cpuDone (4 + k) a bs.length t
    else s
  | none => s

/-! ST 2110 senders (R388). -/

def txc (s : State) (t : Nat) : TxChan := s.eth.tx.get {} t
def setTxc (s : State) (t : Nat) (x : TxChan) : State := { s with eth := { s.eth with tx := s.eth.tx.set {} t x } }
/-- STARTING of a sender ends (R388): refused with ETH_CFG_BAD unless its line clock is in PTP mode; in ON it binds itself to
its wicket. [log entry 244 DEDUCED] -/
def txStarted (s : State) (t : Fin 8) : State :=
  if s.fld ETH_TX_CFG_STATE t ≠ 1 then s
  else if (s.lclock (s.fld ETH_TX_CFG_LC t)).mode ≠ 3 then (s.startDone (.tx t) false).bump 0x0B0A t
  else
    let w := s.fld ETH_TX_CFG_WKT t
    let s := (s.startDone (.tx t) true).setTxc t {}
    if s.on ETH_TX_CFG_WKV t ∧ s.wktOwned w (s.fld ETH_TX_BUF_CTX t % 1024) ∧ s.fld PTR_WKT_WKIND w = 0 then
      (s.setFld PTR_WKT_WKIND 3 w).setFld PTR_WKT_WID t w
    else s
/-- The packets of a row (R374, R385): at most `most` bytes of whole pixel groups each. -/
def txRow (fmt w most : Nat) (row : List Byte) : List (Nat × List Byte) :=
  let data := if fmt = 0 then row.take (mediaRow 0 w)
    else
      let v := (List.range w).flatMap (fun i => let x := leNat ((row.drop (4 * i)).take 4); msbBits 10 (bits x 20 10) ++ msbBits 10 (bits x 10 10) ++ msbBits 10 (bits x 0 10))
      packBits (cdiv (w * 30) 8) v
  let (gb, gp) := if fmt = 0 then (5, 2) else (15, 4)
  let per := max 1 (most / gb)
  let n := cdiv data.length (per * gb)
  (List.range n).map (fun i => (i * per * gp, (data.drop (i * per * gb)).take (per * gb)))
/-- Send the packets of a buffer (R388): RTP over UDP, general packing, one segment a packet, within the port's IP MTU (R374): 48 bytes
are the IP, UDP and RTP headers and the sample row data header. [log entry 239 DESIGN CHOICE] -/
def txSend (s : State) (t buf rts : Nat) : State :=
  let fmt := s.fld ETH_TX_CFG_FMT t
  let w := s.fld ETH_TX_GEO_WIDTH t; let h := s.fld ETH_TX_GEO_HEIGHT t
  let base := s.fld ETH_TX_BUF_BASE t * 64 + buf * s.fld ETH_TX_RING_STRIDE t * 64
  let vid := s.fld ETH_QOS_TX_VID
  let (ssrc, s) := s.freeBits 32
  (List.range h).foldl (fun s y =>
    let (row, s) := s.lpRead (base + y * mediaPitch fmt w) (mediaPitch fmt w)
    let s := s.resvWait (60 + t) (mediaPitch fmt w / 64)
    let ps := txRow fmt w (min 1200 (s.fld ETH_PORT_CFG_MTU (s.fld ETH_TX_CFG_PORT t / 4) - 48)) row
    (ps.zip (List.range ps.length)).foldl (fun s x =>
      let q := (s.txc t).seq
      let last := y + 1 = h ∧ x.2 + 1 = ps.length
      let hdr := [0x80] ++ beBytes 1 ((if last then 128 else 0) + 96) ++ beBytes 2 (q % 65536) ++ beBytes 4 rts ++ beBytes 4 ssrc
        ++ beBytes 2 (q / 65536) ++ beBytes 2 x.1.2.length ++ beBytes 2 y ++ beBytes 2 x.1.1
      let s := s.setTxc t { s.txc t with seq := (q + 1) % 2 ^ 32 }
      s.udpOut (s.fld ETH_TX_CFG_PORT t) 5 (s.fld ETH_TX_DST_ADDR t) (s.fld ETH_TX_DST_UDP t) (s.fld ETH_TX_DST_UDP t) vid
        (s.fld ETH_QOS_TX_PCP) 0 none (hdr ++ x.1.2)) s) s
/-- A frame of the sender's line clock has started that it has not served. -/
def txDue (s : State) (t : Nat) : Bool :=
  let c := s.lclock (s.fld ETH_TX_CFG_LC t)
  s.fld ETH_TX_CFG_STATE t == 2 && !s.fnBrief (.tx (Fin.ofNat 8 t)) && c.live && (s.txc t).frame != some c.frame
/-- The sender at frame start F (R388). -/
def txFrame (s : State) (t : Nat) : State :=
  let lc := s.fld ETH_TX_CFG_LC t
  let f := (s.lclock lc).frame
  let ring := max 1 (s.fld ETH_TX_RING_RING t)
  let w := s.fld ETH_TX_CFG_WKT t
  let mine := s.fld PTR_WKT_WKIND w = 3 ∧ s.fld PTR_WKT_WID w = t
  let g := s.wkt w
  let ready := ¬ s.on ETH_TX_CFG_WKV t ∨ (mine ∧ 1 ≤ g.count)
  let s := if s.on ETH_TX_CFG_WKV t ∧ ready then s.setWkt w { g with count := g.count - 1 } else s
  let s := if ready then s else s.bump 0x0B08 t
  let j := ((if ready then f else f + 2 ^ 32 - 1) % 2 ^ 32 + s.fld ETH_TX_RING_OFS t) % ring
  let rts := ((s.lclock lc).start * 90000 / (sixteenths : Nat)).floor.toNat % 2 ^ 32
  let s := s.setTxc t { s.txc t with frame := some f, buf := j }
  s.txSend t j rts
end State

/-! The commands. -/

/-- PORT_ENABLE (R266, R373). -/
def execPortEnable (n : Fin 4) (e : EnEv) (s : State) : Outc :=
  done s (match e with
    | .write b => State.portWork (s.enWrite (.port n) b) n
    | .done => s.portStarted n)
/-- PORT_LINK_LOSS (R373, R379). -/
def execPortLinkLoss (p : Fin 16) (s : State) : Outc := done s (if s.ethUp p then s.portDown p else s)
/-- PORT_LINK_UP (R373, R379). -/
def execPortLinkUp (p : Fin 16) (s : State) : Outc :=
  done s (if s.fld ETH_PORT_CFG_STATE (p / 4) = 2 ∧ (p.val % 4 = 0 ∨ s.fld ETH_PORT_CFG_MODE (p / 4) = 1)
      ∧ ¬ bit (s.fld ETH_PORT_CFG_LINK (p / 4)) (p % 4) then
    (s.setFld ETH_PORT_CFG_LINK (setBits (s.fld ETH_PORT_CFG_LINK (p / 4)) (p % 4) 1 1) (p / 4)).setEthPort (p / 4) { upAt := some s.tick }
  else s)
/-- BYP_HOLD_TIMER (R379). -/
def execBypHoldTimer (n : Fin 4) (s : State) : Outc :=
  done s (match (s.ethPort n).upAt with
    | some t =>
      if s.fld ETH_PORT_CFG_STATE n = 2 ∧ s.fld ETH_PORT_CFG_MODE n ≠ 1 ∧ ¬ s.on ETH_PORT_CFG_BYP_OFF n
        ∧ t + 100000 * usTicks ≤ s.tick then s.bypHold n true else s
    | none => s)
/-- FRAME_INGRESS (R375): a frame without its FCS; whether its FCS is right and its link held; the egress ports on which it goes
cut-through; its residence time in 1/16 ns. -/
def execFrameIngress (p : Fin 16) (bs : List Byte) (ok : Bool) (idle : BitVec 16) (resid : BitVec 48) (s : State) : Outc :=
  done s (s.frameIn p bs ok idle.toNat resid.toNat)
/-- GUARD_TIMER (R378): every 1 ms. -/
def execGuardTimer (s : State) : Outc :=
  done s (if s.on ETH_RING_CFG_GUARD ∧ s.eth.guardAt + 1000 * usTicks ≤ s.tick then
    ({ s with eth := { s.eth with guardAt := s.tick } }).sendGuard s.ringE 0
  else s)
/-- GUARD_RETURN_TIMEOUT (R378). -/
def execGuardReturnTimeout (s : State) : Outc := done s (if s.guardLost then s.ringOpen else s)
/-- RING_CLOSED (R378). -/
def execRingClosed (s : State) : Outc := done s (if s.ringHealed then s.ringClose else s)
/-- FLUSH (R378): on a switch port, from a chip. -/
def execFlush (p : Fin 16) (chip : BitVec 8) (seq : BitVec 32) (s : State) : Outc :=
  done s (if s.ethUp p then s.flushIn p chip.toNat (s.guardFrame chip.toNat 1 seq.toNat) else s)
/-- LEARNED_ENTRY_AGE_OUT (R376): 300 s after the last frame from the address. -/
def execLearnedEntryAgeOut (vid : BitVec 12) (mac : BitVec 48) (s : State) : Outc :=
  done s { s with eth := { s.eth with learned := s.eth.learned.filter (fun l =>
    !(l.vid == vid.toNat && l.mac == mac.toNat && decide (l.at_ + 300000000 * usTicks ≤ s.tick))) } }
/-- PTP_ENABLE (R380): instance 1 to 4. -/
def execPtpEnable (i : Fin 4) (en : Bool) (s : State) : Outc :=
  done s ((s.setFld ETH_PTP_CFG_EN (b2n en) (i + 1)).setPtpi (i + 1) {})
/-- PTP_MESSAGE_TIMER (R380): the interval of Sync at a master, of the delay request at a slave, of Pdelay_Req at either, has passed. -/
def execPtpMessageTimer (i : Fin 4) (s : State) : Outc :=
  done s (
    let n := i.val + 1
    let delay := fun (s : State) => if (s.ptpi n).dreqAt + State.ptpTicks (s.fld ETH_PTP_CFG_DREQ n) ≤ s.tick then s.ptpDelay n else s
    if ¬ s.ptpOn n then s
    else if s.ptpMaster n then
      let s := if (s.ptpi n).syncAt + State.ptpTicks (s.fld ETH_PTP_CFG_SYNC n) ≤ s.tick then s.ptpSync n else s
      if s.ptpP2p then delay s else s
    else if s.ptpSlave n then delay s
    else s)
/-- PTP_EVENT_RX (R381): an event message, type 0 Sync, 1 Delay_Req, 2 Pdelay_Req, 3 Pdelay_Resp. -/
def execPtpEventRx (i typ : Fin 4) (seq : BitVec 16) (corr : BitVec 64) (two : Bool) (time : BitVec 80) (peer : BitVec 80)
    (s : State) : Outc :=
  done s (if s.ptpOn (i + 1) then
    s.ptpIn (i + 1) typ seq.toNat (toSigned 64 corr.toNat) two (State.ptpNs (beBytes 10 time.toNat)) (beBytes 10 peer.toNat)
  else s)
/-- PTP_GENERAL_MESSAGE (R382): 0 Follow_Up, 1 Delay_Resp, 2 Pdelay_Resp_Follow_Up. -/
def execPtpGeneralMessage (i : Fin 4) (kind : Fin 3) (seq : BitVec 16) (corr : BitVec 64) (time : BitVec 80) (s : State) : Outc :=
  done s (if s.ptpOn (i + 1) then
    s.ptpIn (i + 1) (8 + kind) seq.toNat (toSigned 64 corr.toNat) false (State.ptpNs (beBytes 10 time.toNat)) []
  else s)
/-- SAMPLE_SET_LATCH (R382): the read of offset +0x40. -/
def execSampleSetLatch (i : Fin 4) (s : State) : Outc :=
  done s (s.ptpLatch (i + 1) 4)
/-- ANNOUNCE_RX (R384). -/
def execAnnounceRx (i : Fin 4) (gm : BitVec 64) (logi : BitVec 8) (s : State) : Outc :=
  done s (if s.ptpOn (i + 1) then s.announceIn (i + 1) gm.toNat (toSigned 8 logi.toNat) else s)
/-- ANNOUNCE_TIMEOUT (R384). -/
def execAnnounceTimeout (i : Fin 4) (s : State) : Outc :=
  done s (if s.announceLate (i + 1) then s.announceTimeout (i + 1) else s)
/-- RX_ENABLE (R386): a stop ends the frame in progress; STARTING samples the generation of CTX. -/
def execRxEnable (r : Fin 16) (e : EnEv) (s : State) : Outc :=
  done s (match e with
    | .write b =>
      let x := s.enWrite (.rx r) b
      if x.2 = .stop then x.1.rxShort r else x.1
    | .done =>
      if s.fld ETH_RX_CFG_STATE r = 1 then
        (s.startDone (.rx r) true).setRxc r { count := (s.rxc r).count, cgen := s.cgen (s.fld ETH_RX_CFG_CTX r) }
      else s)
/-- RX_PACKET (R386). -/
def execRxPacket (r : Fin 16) (pathB : Bool) (rts : BitVec 32) (rseq : BitVec 16) (marker overflow : Bool) (segs : List Srd)
    (s : State) : Outc :=
  done s (if s.fld ETH_RX_CFG_STATE r = 2 ∧ (pathB = false ∨ s.on ETH_RX_CFG_DUAL r) ∧ s.trained then
    s.rxPacket r rts.toNat rseq.toNat marker overflow segs
  else s)
/-- TX_ENABLE (R388). -/
def execTxEnable (t : Fin 8) (e : EnEv) (s : State) : Outc :=
  done s (match e with
    | .write b => (s.enWrite (.tx t) b).1
    | .done => s.txStarted t)
/-- TX_FRAME_START (R388). -/
def execTxFrameStart (t : Fin 8) (s : State) : Outc := done s (if s.txDue t ∧ s.trained then s.txFrame t else s)
/-- SND_LATE (R388). -/
def execSndLate (t : Fin 8) (s : State) : Outc := done s (if s.fld ETH_TX_CFG_STATE t = 2 then s.bump 0x0B09 t else s)
/-- CPU_TX (R389). -/
def execCpuTx (k : Fin 4) (s : State) : Outc := done s (if s.trained then s.cpuTx k else s)
end Sys2Proof.Machine
end

