-- ==== Sys2Proof/Machine/CoreMem.lean ====
section
/-! DEFINITION. LPDDR as the Orangery cores access it (R17, R416): stores on their way to the Arcade, the L2 of each core and the L3. -/
namespace Sys2Proof.Machine
open Sys2Proof
/-- Key of a line of 64 bytes in the L2 of a core. -/
def l2Key (core line : Nat) : Nat := core * 2 ^ 40 + line
namespace State
/-- A core executes instructions: a keeper, or a scheduler core that runs (R418). -/
def coreUp (s : State) (c : Nat) : Bool := decide (c < 2) || s.on ORG_HART_CTRL_RUNNING c
/-- A line of LPDDR as the caches of a core hold it: its L2, else the L3 (R416). -/
def coreLineOf (s : State) (c n : Nat) : Option (List Byte) :=
  match s.org.l2.find? (fun x => x.1 == l2Key c n) with
  | some x => some x.2
  | none => (s.org.l3.find? (fun x => x.1 == n)).map (fun x => x.2)
/-- A line enters the L2 of a core and the L3. -/
def lineFill (s : State) (c n : Nat) (bs : List Byte) : State :=
  { s with org := { s.org with l2 := s.org.l2.set [] (l2Key c n) bs, l3 := s.org.l3.set [] n bs } }
/-- A run of bytes with those of a store that reaches it. -/
def overlay (a : Nat) (bs : List Byte) (x : CoreStore) : List Byte :=
  (bs.zip (List.range bs.length)).map (fun p =>
    if x.addr ≤ a + p.2 ∧ a + p.2 < x.addr + x.bytes.length then x.bytes.getD (a + p.2 - x.addr) 0 else p.1)
/-- A line of LPDDR as a core reads it (R416): from its caches, or from the Arcade, which fills them; the stores of every core that are on
their way, for the caches are coherent. How long a line stays is open and cannot be told: a line that stays is what LPDDR holds.
[log entry 252 DESIGN CHOICE] -/
def coreLine (s : State) (c n : Nat) : List Byte × State :=
  let (bs, s) := match s.coreLineOf c n with
    | some bs => (bs, s)
    | none => let (bs, t) := s.lpSee (64 * n) 64 none; (bs, t.lineFill c n bs)
  (s.org.stores.foldl (overlay (64 * n)) bs, s)
/-- A load of a core from LPDDR. -/
def coreLp (s : State) (c a n : Nat) : List Byte × State :=
  let (bs, s) := (List.range ((a + n - 1) / 64 + 1 - a / 64)).foldl (fun (x : List Byte × State) i =>
    let (bs, t) := x.2.coreLine c (a / 64 + i); (x.1 ++ bs, t)) ([], s)
  ((bs.drop (a % 64)).take n, s)
/-- The caches keep their copy of what a core stores: every line that holds the range takes the bytes. -/
def lineStore (s : State) (x : CoreStore) : State :=
  { s with org := { s.org with
      l2 := s.org.l2.map (fun l => (l.1, overlay (l.1 % 2 ^ 40 * 64) l.2 x))
      l3 := s.org.l3.map (fun l => (l.1, overlay (l.1 * 64) l.2 x)) } }
/-- A store of a core reaches the Arcade (R416): the caches keep their copy where LPDDR has taken the bytes, and lose the line where it
has dropped some (R210, R393, R431). -/
def coreLand (s : State) (x : CoreStore) : State :=
  let t := s.lpPut x.addr x.bytes
  if t.lpBytes x.addr x.bytes.length = x.bytes then ({ t with org := { t.org with l2 := s.org.l2, l3 := s.org.l3 } }).lineStore x else t
/-- The stores of the cores for which `own` holds reach the Arcade, oldest first; none while LPDDR is not served (R392).
[log entry 252 DESIGN CHOICE] -/
def coreDrain (s : State) (own : CoreStore → Bool) : State :=
  if s.trained then
    (s.org.stores.filter own).foldl coreLand { s with org := { s.org with stores := s.org.stores.filter (fun x => !own x) } }
  else s
end State
end Sys2Proof.Machine
end

