-- ==== Sys2Proof/Machine/HeadCmds.lean ====
section
/-! DEFINITION. The commands of streams and heads (R198-R240), one meaning each. -/
namespace Sys2Proof.Machine
open Sys2Proof
/-- STREAM_ENABLE (R199, R266). -/
def execStreamEnable (i : Fin 16) (en : Bool) (s : State) : Outc :=
  done s (State.strmWork (s.enWrite (.stream i) en) i)
/-- INPUT_POST (R201): a write of PLT_STRM_POST. -/
def execInputPost (i : Fin 16) (slot : BitVec 16) (s : State) : Outc := done s (s.postSlot i slot.toNat)
/-- HEADLESS_SIGNAL (R214): at a tick after the acceptance. -/
def execHeadlessSignal (i : Fin 16) (s : State) : Outc :=
  done s (if s.strmState i = 2 ∨ s.strmState i = 3 then s.headlessSignal i else s)
/-- BAND_LATCH (R204). -/
def execBandLatch (i : Fin 16) (s : State) : Outc :=
  done s (if s.strmState i = 2 ∨ s.strmState i = 3 then s.bandLatch i else s)
/-- ALIAS_READ (R206): `n` bytes at an offset of a stream's window; a read of a band not yet latched is held until the latch. -/
def execAliasRead (i : Fin 16) (off : BitVec 32) (n : Fin 65) (who : Reader) (s : State) : Outc :=
  done s (s.windowRead i who off.toNat (min n.val (2 ^ 32 - off.toNat)))
/-- BAND_DUE (R208). -/
def execBandDue (n : Fin 4) (s : State) : Outc := done s (if s.bandDueNow n then s.bandDue n else s)
/-- HOLD_PROMOTE (R210). -/
def execHoldPromote (i : Fin 16) (s : State) : Outc :=
  done s (if s.strmState i = 2 ∨ s.strmState i = 3 then s.holdPromote i else s)
/-- HEAD_ENABLE (R217, R266). -/
def execHeadEnable (n : Fin 4) (en : Bool) (s : State) : Outc := done s (s.headEnable n en)
/-- HEAD_COMMIT (R220). -/
def execHeadCommit (mask : BitVec 4) (s : State) : Outc := done s (s.headCommit mask.toNat)
/-- COMMIT_TAKE (R220). -/
def execCommitTake (n : Fin 4) (s : State) : Outc := done s (if s.commitDue n then s.commitTake n else s)
/-- HPD_LOSS (R222): HPD falls (`pin`), or the link drops out of training. -/
def execHpdLoss (n : Fin 4) (pin : Bool) (s : State) : Outc := done s (s.hpdLoss n pin)
/-- HPD_RETURN (R222). -/
def execHpdReturn (n : Fin 4) (s : State) : Outc := done s (s.hpdReturn n)
/-- DP_TRAIN_RETRY (R222): a training attempt ends, well or not. -/
def execDpTrainRetry (n : Fin 4) (ok : Bool) (s : State) : Outc := done s (if s.trainDue n then s.trainResult n ok else s)
/-- UNDERRUN (R231). -/
def execUnderrun (n l : Fin 4) (s : State) : Outc :=
  done s (if s.underrunNow n l then s.switchOff n l (s.lcPos n).1 (s.lcPos n).2.1 (s.lcPos n).2.2 true else s)
/-- FETCH_LINE (R230). -/
def execFetchLine (n : Fin 4) (s : State) : Outc := done s (if s.fetchDue n then s.fetchLineDo n else s)
/-- FILL_BELOW_CRIT (R402): non-real-time bursts are held. -/
def execFillBelowCrit (n : Fin 4) (s : State) : Outc :=
  done s (if s.belowCrit n then { s with arc := { s.arc with crit := true } } else s)
/-- CRIT_HOLD_END (R402): no head is below CRIT any more; the episode counts. -/
def execCritHoldEnd (s : State) : Outc :=
  done s (if s.arc.crit ∧ ¬ (List.range 4).any s.belowCrit then
    { s.addSat ARC_CNT_CRITPRE 1 with arc := { s.arc with crit := false } } else s)
/-- REGION_ROW_DONE (R234). -/
def execRegionRowDone (n : Fin 4) (s : State) : Outc := done s (if s.rowComposed n then s.regionRow n else s)
/-- REGION_SENT (R234). -/
def execRegionSent (n : Fin 4) (s : State) : Outc := done s (if s.trained ∧ s.regionCanLeave n then s.regionSent n else s)
/-- STAGE_SLOT_REUSE (R234). -/
def execStageSlotReuse (n : Fin 4) (s : State) : Outc :=
  done s (if (s.overdueRegions n).isEmpty then s else s.stageReuse n)
/-- KEEPALIVE_TIMER (R237). -/
def execKeepaliveTimer (n : Fin 4) (s : State) : Outc := done s (if s.keepaliveDue n then s.keepalive n else s)
/-- PIN_CHECK (R240): the CRC measured at the pads of the DisplayPort output or of the pushed packets. -/
def execPinCheck (n : Fin 4) (push : Bool) (crc : BitVec 32) (s : State) : Outc := done s (s.pinCheck n push crc.toNat)
end Sys2Proof.Machine
end

