-- ==== Sys2Proof/Machine/SundialCmds.lean ====
section
/-! DEFINITION. The commands of Sundial's registers and pins (R29-R42, R46). The frame start of a line clock, which other
blocks act on, is in FrameStart. -/
namespace Sys2Proof.Machine
open Sys2Proof
/-- TB_STEP_WRITE (R30): arms a signed step in 1/16 ns. -/
def execTbStepWrite (n : Fin 8) (v : BitVec 64) (s : State) : Outc := done s (s.tbStepWrite n v.toNat)
/-- TB_LOAD (R30): arms an absolute load. -/
def execTbLoad (n : Fin 8) (s : State) : Outc := done s (s.tbLoad n)
/-- TB_OVR (R31): the next step or load of the base may jump by any size. -/
def execTbOvr (n : Fin 8) (s : State) : Outc := done s (s.setFld SDL_TB_CTRL_OVR 1 n)
/-- TB_INC_WRITE (R29): [39:0] of the written value. -/
def execTbIncWrite (n : Fin 8) (v : BitVec 64) (s : State) : Outc := done s (s.tbIncWrite n (bits v.toNat 0 40))
/-- TB_PHASE_APPLY (R31): at a tick after the one in which a step or load was armed. -/
def execTbPhaseApply (n : Fin 8) (s : State) : Outc :=
  done s (if (s.tbase n).arm ≠ .none ∧ (s.tbase n).armTick < s.tick then s.tbApply n else s)
/-- HOLDOVER_CLEAR (R33, R7). -/
def execHoldoverClear (n : Fin 8) (s : State) : Outc := done s (if (s.hw.get none (SDL_TB_STAT_HOLDOVER.place n 0)).isSome = true then s else s.setFld SDL_TB_STAT_HOLDOVER 0 n)
/-- TB_CAPTURE (R46). -/
def execTbCapture (mask : BitVec 8) (s : State) : Outc := done s (s.tbCaptureMask mask.toNat)
/-- PAIR_FORCE (R34): the bit reads 1 until the pair is taken at the next tick. -/
def execPairForce (s : State) : Outc :=
  done s { s.setFld SDL_CAPT_PAIR 1 with sdl := { s.sdl with pairDue := true } }
/-- A periodic pair is due in this tick: a multiple of 500,000 ticks after the first pair, none yet taken (R34). -/
def pairPeriodicDue (s : State) : Bool :=
  match s.sdl.firstPair with
  | none => false
  | some t => decide (t < s.tick ∧ (s.tick - t) % 500000 = 0 ∧ s.sdl.pairTick ≠ s.tick)
/-- PAIR_PERIODIC (R34). -/
def execPairPeriodic (s : State) : Outc := done s (if pairPeriodicDue s then s.takePair else s)
/-- LC_APPLY (R42): bits of heads that are OFF read 1 until their shadows apply, at the next tick while the active MODE
is OFF and else at the clock's next frame start; bits of other heads are ignored. -/
def State.lcApplyWrite (s : State) (mask : Nat) : State :=
  (List.range 4).foldl (fun s n =>
    if bit mask n ∧ s.fld BST_HCTRL_STATE n = 0 then
      s.setFld SDL_LC_APPLY_APPLY (setBits (s.fld SDL_LC_APPLY_APPLY) n 1 1)
    else s) s
def execLcApply (mask : BitVec 4) (s : State) : Outc := done s (s.lcApplyWrite mask.toNat)
/-- GENLOCK_PULSE (R40): a rising edge of GENLOCK_IN reaches every line clock in GENLOCK mode. -/
def execGenlockPulse (s : State) : Outc := done s ((List.range 4).foldl State.genlockPulse s)
/-- The pulse of line clock `n` is overdue: 2 × (DIV + 1) frame periods without one (R40). -/
def genlockOverdue (s : State) (n : Nat) : Bool :=
  let c := s.lclock n
  c.mode = 2 ∧ ¬ s.on SDL_LC_STAT_GENLOCK_LOST n ∧ c.lastPulse + (2 * (c.div + 1) : Nat) * c.period ≤ s.baseRat c.base
/-- GENLOCK_TIMEOUT (R40). -/
def execGenlockTimeout (n : Fin 4) (s : State) : Outc := done s (if genlockOverdue s n then s.genlockLost n else s)
end Sys2Proof.Machine
end

