-- ==== Sys2Proof/Machine/FrameStart.lean ====
section
/-! DEFINITION. The start of a frame on a line clock, which every block that follows the clock acts on (R37, R83, R199, R300, R343),
and the tick of CLK_TIME that the block makes when no command waits (R27-R29, R42). -/
namespace Sys2Proof.Machine
open Sys2Proof
namespace State
/-- What a frame start of line clock `n` brings about: frame boundaries of its plots, streams that turn ON, the group's and the
hand-over's frames. -/
def frameHooks (s : State) (n : Nat) : State :=
  let s := (List.range 32).foldl (fun s p => if s.fld PLT_CTRL_LC p = n then s.plotFrame p else s) s
  let s := s.strmFrame n
  let s := if s.zhl.lc = n then
      { s with zhl := { s.zhl with cfgDue := s.zhl.cfgDue || s.zhl.cfgPending, formDue := s.mayForm } } else s
  if s.fld LDG_FW_CTRL_LC = n then { s with ldg := { s.ldg with fwDue := true } } else s
/-- Apply the shadows of a line clock whose bit of SDL_LC_APPLY is set (R42); a bit of a head that is not OFF is dropped.
[log entry 22 DEDUCED] -/
def lcApplyDue (s : State) (n : Nat) : State :=
  if bit (s.fld SDL_LC_APPLY_APPLY) n then
    let s := s.setFld SDL_LC_APPLY_APPLY (setBits (s.fld SDL_LC_APPLY_APPLY) n 1 0)
    if s.headState n = 0 then s.lcApply n true else s
  else s
/-- Line clock `n` starts its next frame (R37, R39, R42, R225). -/
def frameStart (s : State) (n : Nat) : State :=
  let s := if 2 ≤ s.headState n ∧ (s.head n).running ∧ s.frameShort n then
      (s.setHead n { s.head n with shorts := (s.lclock n).frame :: (s.head n).shorts.take 3 }).addSat BST_HCNT2_SHORTFR 1 n
    else s
  ((s.lcAdvance n (s.lclock n).next).lcApplyDue n).frameHooks n
/-- A head starts a frame (R226); where it paces its line clock, the clock's followers act on it. -/
def headStarts (s : State) (n : Nat) : State :=
  let t := s.headFrameStart n
  (List.range 4).foldl (fun (t : State) m =>
    if s.headPaced m ∧ (t.lclock m).frame ≠ (s.lclock m).frame then t.frameHooks m else t) t
/-- A tick of CLK_TIME: time bases and pairs, the shadows of line clocks in OFF (R42); the stores of cores reach the Arcade (R416). A device
held in reset has no ticks. -/
def tickStep (s : State) : State :=
  if s.gth.held then s
  else
    let s := ({ s with hw := [], sw := [] }).clkTick
    let s := (List.range 32).foldl plotTick s.settleAll
    let s := (List.range 4).foldl (fun s n => if (s.lclock n).mode = 0 then s.lcApplyDue n else s) s
    s.coreDrain (fun _ => true)
end State
/-- LC_FRAME_START (R37, R39): line clock `n` reaches its next frame start. -/
def execLcFrameStart (n : Fin 4) (s : State) : Outc := done s (if s.lcDue n then s.frameStart n else s)
/-- HEAD_FRAME_START (R226). -/
def execHeadFrameStart (n : Fin 4) (s : State) : Outc := done s (s.headStarts n)
end Sys2Proof.Machine
end

