-- ==== Sys2Proof/Machine/Sha.lean ====
section
/-! DEFINITION. SHA-384 and what R430 builds on it. The spec names these standards and uses them as they are (R421, R428, R430): FIPS 180-4,
RFC 2104 and RFC 5869, whose content is taken from there (PRESUMED). -/
namespace Sys2Proof.Machine
open Sys2Proof
/-- The round constants of SHA-384. -/
def shaK : List Nat :=
  [0x428A2F98D728AE22, 0x7137449123EF65CD, 0xB5C0FBCFEC4D3B2F, 0xE9B5DBA58189DBBC, 0x3956C25BF348B538,
   0x59F111F1B605D019, 0x923F82A4AF194F9B, 0xAB1C5ED5DA6D8118, 0xD807AA98A3030242, 0x12835B0145706FBE,
   0x243185BE4EE4B28C, 0x550C7DC3D5FFB4E2, 0x72BE5D74F27B896F, 0x80DEB1FE3B1696B1, 0x9BDC06A725C71235,
   0xC19BF174CF692694, 0xE49B69C19EF14AD2, 0xEFBE4786384F25E3, 0xFC19DC68B8CD5B5, 0x240CA1CC77AC9C65] ++
  [0x2DE92C6F592B0275, 0x4A7484AA6EA6E483, 0x5CB0A9DCBD41FBD4, 0x76F988DA831153B5, 0x983E5152EE66DFAB,
   0xA831C66D2DB43210, 0xB00327C898FB213F, 0xBF597FC7BEEF0EE4, 0xC6E00BF33DA88FC2, 0xD5A79147930AA725,
   0x6CA6351E003826F, 0x142929670A0E6E70, 0x27B70A8546D22FFC, 0x2E1B21385C26C926, 0x4D2C6DFC5AC42AED,
   0x53380D139D95B3DF, 0x650A73548BAF63DE, 0x766A0ABB3C77B2A8, 0x81C2C92E47EDAEE6, 0x92722C851482353B] ++
  [0xA2BFE8A14CF10364, 0xA81A664BBC423001, 0xC24B8B70D0F89791, 0xC76C51A30654BE30, 0xD192E819D6EF5218,
   0xD69906245565A910, 0xF40E35855771202A, 0x106AA07032BBD1B8, 0x19A4C116B8D2D0C8, 0x1E376C085141AB53,
   0x2748774CDF8EEB99, 0x34B0BCB5E19B48A8, 0x391C0CB3C5C95A63, 0x4ED8AA4AE3418ACB, 0x5B9CCA4F7763E373,
   0x682E6FF3D6B2B8A3, 0x748F82EE5DEFB2FC, 0x78A5636F43172F60, 0x84C87814A1F0AB72, 0x8CC702081A6439EC] ++
  [0x90BEFFFA23631E28, 0xA4506CEBDE82BDE9, 0xBEF9A3F7B2C67915, 0xC67178F2E372532B, 0xCA273ECEEA26619C,
   0xD186B8C721C0C207, 0xEADA7DD6CDE0EB1E, 0xF57D4F7FEE6ED178, 0x6F067AA72176FBA, 0xA637DC5A2C898A6,
   0x113F9804BEF90DAE, 0x1B710B35131C471B, 0x28DB77F523047D84, 0x32CAAB7B40C72493, 0x3C9EBE0A15C9BEBC,
   0x431D67C49C100D4C, 0x4CC5D4BECB3E42B6, 0x597F299CFC657E2A, 0x5FCB6FAB3AD6FAEC, 0x6C44198C4A475817]
/-- Its initial hash value. -/
def shaH0 : List Nat :=
  [0xCBBB9D5DC1059ED8, 0x629A292A367CD507, 0x9159015A3070DD17, 0x152FECD8F70E5939,
   0x67332667FFC00B31, 0x8EB44A8768581511, 0xDB0C2E0D64F98FA7, 0x47B5481DBEFA4FA4]
/-- Words of 64 bits: sum, and rotation to the right. -/
def add64 (a b : Nat) : Nat := (a + b) % 2 ^ 64
def rotr64 (n x : Nat) : Nat := (x >>> n) ||| ((x <<< (64 - n)) % 2 ^ 64)
/-- The message schedule, newest word first, `n` words more. -/
def shaSched : Nat → List Nat → List Nat
  | 0, w => w
  | n + 1, w =>
    let a := w.getD 1 0; let b := w.getD 14 0
    let s1 := rotr64 19 a ^^^ rotr64 61 a ^^^ (a >>> 6)
    let s0 := rotr64 1 b ^^^ rotr64 8 b ^^^ (b >>> 7)
    shaSched n (add64 (add64 s1 (w.getD 6 0)) (add64 s0 (w.getD 15 0)) :: w)
/-- The eight working words. -/
structure ShaW where
  a : Nat
  b : Nat
  c : Nat
  d : Nat
  e : Nat
  f : Nat
  g : Nat
  h : Nat
  deriving DecidableEq, Repr
/-- A round, with its constant and schedule word. -/
def shaRound (x : ShaW) (kw : Nat × Nat) : ShaW :=
  let S1 := rotr64 14 x.e ^^^ rotr64 18 x.e ^^^ rotr64 41 x.e
  let ch := (x.e &&& x.f) ^^^ ((2 ^ 64 - 1 - x.e) &&& x.g)
  let t1 := add64 (add64 x.h S1) (add64 ch (add64 kw.1 kw.2))
  let S0 := rotr64 28 x.a ^^^ rotr64 34 x.a ^^^ rotr64 39 x.a
  let maj := (x.a &&& x.b) ^^^ (x.a &&& x.c) ^^^ (x.b &&& x.c)
  ⟨add64 t1 (add64 S0 maj), x.a, x.b, x.c, add64 x.d t1, x.e, x.f, x.g⟩
/-- The words of a block of 128 bytes. -/
def shaWords (blk : List Byte) : List Nat := (List.range 16).map (fun i => beNat ((blk.drop (8 * i)).take 8))
/-- The hash value after a block. -/
def shaBlock (h : List Nat) (blk : List Byte) : List Nat :=
  let w := (shaSched 64 (shaWords blk).reverse).reverse
  let x : ShaW := ⟨h.getD 0 0, h.getD 1 0, h.getD 2 0, h.getD 3 0, h.getD 4 0, h.getD 5 0, h.getD 6 0, h.getD 7 0⟩
  let y := (shaK.zip w).foldl shaRound x
  (h.zip [y.a, y.b, y.c, y.d, y.e, y.f, y.g, y.h]).map (fun p => add64 p.1 p.2)
/-- Over `n` blocks. -/
def shaBlocks : Nat → List Nat → List Byte → List Nat
  | 0, h, _ => h
  | n + 1, h, bs => shaBlocks n (shaBlock h (bs.take 128)) (bs.drop 128)
/-- SHA-384 of a message: 48 bytes. [log entry 208 PRESUMED] -/
def sha384 (m : List Byte) : List Byte :=
  let z := (128 - (m.length + 17) % 128) % 128
  let p := m ++ [0x80] ++ List.replicate z 0 ++ beBytes 16 (8 * m.length)
  ((shaBlocks (p.length / 128) shaH0 p).take 6).flatMap (beBytes 8)
/-- HMAC with SHA-384. -/
def hmac (key m : List Byte) : List Byte :=
  let k := if 128 < key.length then sha384 key else key
  let k := k ++ List.replicate (128 - k.length) 0
  sha384 (k.map (fun b => b ^^^ 0x5C) ++ sha384 (k.map (fun b => b ^^^ 0x36) ++ m))
/-- HKDF-SHA-384 with an output of at most 48 bytes. -/
def hkdf (salt ikm info : List Byte) (n : Nat) : List Byte := (hmac (hmac salt ikm) (info ++ [1])).take n
end Sys2Proof.Machine
end

