-- ==== Sys2Proof/Machine/Curve.lean ====
section
/-! DEFINITION. ECDSA and key agreement on brainpoolP384r1 (R421, R429, R430, R433). The spec names the curve and the algorithms and uses
them as they are; their content is taken from RFC 5639 and FIPS 186 (PRESUMED). -/
namespace Sys2Proof.Machine
open Sys2Proof
/-- The field's prime, the curve's coefficients, its base point and the base point's order. -/
def cvP : Nat := 0x8CB91E82A3386D280F5D6F7E50E641DF152F7109ED5456B412B1DA197FB71123ACD3A729901D1A71874700133107EC53
def cvA : Nat := 0x7BC382C63D8C150C3C72080ACE05AFA0C2BEA28E4FB22787139165EFBA91F90F8AA5814A503AD4EB04A8C7DD22CE2826
def cvB : Nat := 0x04A8C7DD22CE28268B39B55416F0447C2FB77DE107DCD2A62E880EA53EEB62D57CB4390295DBC9943AB78696FA504C11
def cvG : Nat × Nat :=
  (0x1D1C64F068CF45FFA2A63A81B7C13F6B8847A3E77EF14FE3DB7FCAFE0CBD10E8E826E03436D646AAEF87B2E247D4AF1E,
   0x8ABE1D7520F9C2A45CB1EB8E95CFD55262B70B29FEEC5864E19C054FF99129280E4646217791811142820341263C5315)
def cvN : Nat := 0x8CB91E82A3386D280F5D6F7E50E641DF152F7109ED5456B31F166E6CAC0425A7CF3AB6AF6B7FC3103B883202E9046565
/-- `b ^ e` modulo `m`, over the low `k` bits of `e`. -/
def powMod (m : Nat) : Nat → Nat → Nat → Nat
  | 0, _, _ => 1 % m
  | k + 1, b, e => (if e % 2 = 1 then b else 1) * powMod m k (b * b % m) (e / 2) % m
/-- The inverse modulo a prime of at most 384 bits. -/
def invMod (m a : Nat) : Nat := powMod m 384 (a % m) (m - 2)
/-- A difference modulo `m`. -/
def subMod (m a b : Nat) : Nat := (a % m + m - b % m) % m
/-- A point of the curve, none at infinity. -/
abbrev Point := Option (Nat × Nat)
/-- The third point of a chord or tangent of slope `l` through two points, reflected. -/
def cvThird (l x1 y1 x2 : Nat) : Point :=
  let x := subMod cvP (subMod cvP (l * l) x1) x2
  some (x, subMod cvP (l * subMod cvP x1 x) y1)
/-- The sum of two points. -/
def cvAdd (a b : Point) : Point :=
  match a, b with
  | none, b => b
  | a, none => a
  | some (x1, y1), some (x2, y2) =>
    if x1 = x2 then
      if (y1 + y2) % cvP = 0 then none
      else cvThird ((3 * x1 * x1 + cvA) * invMod cvP (2 * y1) % cvP) x1 y1 x2
    else cvThird (subMod cvP y2 y1 * invMod cvP (subMod cvP x2 x1) % cvP) x1 y1 x2
/-- A multiple of a point, over the low `n` bits of `k`. -/
def cvMulBits : Nat → Nat → Point → Point
  | 0, _, _ => none
  | n + 1, k, p => cvAdd (if k % 2 = 1 then p else none) (cvMulBits n (k / 2) (cvAdd p p))
def cvMul (k : Nat) (p : Point) : Point := cvMulBits 384 k p
/-- An uncompressed point of 97 bytes, on the curve or none. -/
def readPoint (bs : List Byte) : Point :=
  let x := beNat ((bs.drop 1).take 48); let y := beNat ((bs.drop 49).take 48)
  if bs.length = 97 ∧ bs.headD 0 = 4 ∧ x < cvP ∧ y < cvP ∧ y * y % cvP = (x * x * x + cvA * x + cvB) % cvP then some (x, y) else none
/-- The 97 bytes of a point. -/
def pointBytes : Point → List Byte
  | some (x, y) => 4 :: (beBytes 48 x ++ beBytes 48 y)
  | none => List.replicate 97 0
/-- The public key of a secret one. -/
def pubKey (d : Nat) : List Byte := pointBytes (cvMul d (some cvG))
/-- The x coordinate of a point, 0 at infinity. -/
def cvX (p : Point) : Nat := match p with | some q => q.1 | none => 0
/-- Whether r and s (48 bytes each) sign the message of a digest under a public key. [log entry 209 DEDUCED] -/
def ecdsaOk (pub sig digest : List Byte) : Bool :=
  let r := beNat (sig.take 48); let t := beNat ((sig.drop 48).take 48)
  match readPoint pub with
  | none => false
  | some q =>
    if sig.length ≠ 96 ∨ r = 0 ∨ cvN ≤ r ∨ t = 0 ∨ cvN ≤ t then false
    else
      let w := invMod cvN t
      let u := cvAdd (cvMul (beNat digest * w % cvN) (some cvG)) (cvMul (r * w % cvN) (some q))
      u.isSome && cvX u % cvN == r
/-- The signature of a digest with secret key `d` and the nonce `k`. -/
def ecdsaSign (d k : Nat) (digest : List Byte) : List Byte :=
  let r := cvX (cvMul k (some cvG)) % cvN
  beBytes 48 r ++ beBytes 48 (invMod cvN k * (beNat digest + r * d) % cvN)
/-- A number that the TRNG gives, as a secret key or nonce: 1 to n − 1. -/
def scalarOf (x : Nat) : Nat := x % (cvN - 1) + 1
end Sys2Proof.Machine
end

