-- ==== Sys2Proof/Machine/Gcm.lean ====
section
/-! DEFINITION. AES-256-GCM decryption (R430, R431). The spec names the algorithm and uses it as it is; its content is taken from FIPS 197 and
SP 800-38D (PRESUMED). -/
namespace Sys2Proof.Machine
open Sys2Proof
/-- Products in GF(2^8) of AES, over the low `n` bits of `b`. -/
def xtime (a : Nat) : Nat := if 128 ≤ a then ((2 * a) % 256) ^^^ 0x1B else 2 * a
def gfMul : Nat → Nat → Nat → Nat
  | 0, _, _ => 0
  | n + 1, a, b => (if b % 2 = 1 then a else 0) ^^^ gfMul n (xtime a) (b / 2)
/-- The inverse in GF(2^8), as the power 254; 0 of 0. -/
def gfInv (a : Nat) : Nat :=
  let m := gfMul 8
  let a2 := m a a; let a3 := m a2 a; let a6 := m a3 a3; let a12 := m a6 a6; let a15 := m a12 a3
  let a30 := m a15 a15; let a60 := m a30 a30; let a120 := m a60 a60; let a126 := m a120 a6; let a127 := m a126 a
  m a127 a127
/-- The S-box. -/
def sbox (b : Nat) : Nat :=
  let x := gfInv b
  let r := fun n => ((x <<< n) % 256) ||| (x >>> (8 - n))
  x ^^^ r 1 ^^^ r 2 ^^^ r 3 ^^^ r 4 ^^^ 0x63
/-- Words of four bytes added. -/
def xorList (a b : List Nat) : List Nat := (a.zip b).map (fun p => p.1 ^^^ p.2)
/-- The 60 key-schedule words of AES-256, newest first, from word 8 on. -/
def keyWords : Nat → Nat → Nat → List (List Nat) → List (List Nat)
  | 0, _, _, w => w
  | n + 1, i, rc, w =>
    let t := w.headD []
    let t := if i % 8 = 0 then
        (match (t.drop 1 ++ t.take 1).map sbox with | a :: r => (a ^^^ rc) :: r | [] => [])
      else if i % 8 = 4 then t.map sbox else t
    keyWords n (i + 1) (if i % 8 = 0 then xtime rc else rc) (xorList (w.getD 7 []) t :: w)
/-- The fifteen round keys. -/
def roundKeys (key : List Byte) : List (List Nat) :=
  let k := key.map BitVec.toNat
  let w := (keyWords 52 8 1 ((List.range 8).map (fun i => (k.drop (4 * i)).take 4)).reverse).reverse
  (List.range 15).map (fun i => ((w.drop (4 * i)).take 4).flatten)
/-- MixColumns of one column. -/
def mixCol (c : List Nat) : List Nat :=
  (List.range 4).map (fun i =>
    let g := fun j => c.getD ((i + j) % 4) 0
    xtime (g 0) ^^^ (xtime (g 1) ^^^ g 1) ^^^ g 2 ^^^ g 3)
/-- A round: the last one mixes no columns. -/
def aesRound (last : Bool) (st rk : List Nat) : List Nat :=
  let b := st.map sbox
  let r := (List.range 16).map (fun i => b.getD ((i + 4 * (i % 4)) % 16) 0)
  let m := if last then r else (List.range 4).flatMap (fun c => mixCol ((r.drop (4 * c)).take 4))
  xorList m rk
/-- AES-256 of a block under its round keys. -/
def aesBlock (rks : List (List Nat)) (blk : List Nat) : List Nat :=
  let s0 := xorList blk (rks.headD [])
  let s1 := ((rks.drop 1).take 13).foldl (aesRound false) s0
  aesRound true s1 (rks.getD 14 [])
/-- The product of GHASH, over `n` bits of `x` from bit `n - 1` down. -/
def ghMul : Nat → Nat → Nat → Nat
  | 0, _, _ => 0
  | n + 1, x, v => (if x.testBit n then v else 0) ^^^ ghMul n x (if v % 2 = 1 then (v / 2) ^^^ (0xE1 <<< 120) else v / 2)
/-- Bytes in blocks of 16, the last one filled with zeros, as numbers. -/
def blocks16 (bs : List Byte) : List Nat :=
  (List.range (cdiv bs.length 16)).map (fun i =>
    let b := (bs.drop (16 * i)).take 16
    beNat (b ++ List.replicate (16 - b.length) 0))
def ghash (h : Nat) (xs : List Nat) : Nat := xs.foldl (fun y x => ghMul 128 (y ^^^ x) h) 0
/-- The bytes of a number as AES takes them. -/
def blockOf (x : Nat) : List Nat := (beBytes 16 x).map BitVec.toNat
/-- Decrypt `ct` under a key, a 12-byte IV and additional data; none where the tag does not match. -/
def gcmOpen (key iv aad ct tag : List Byte) : Option (List Byte) :=
  let rks := roundKeys key
  let e := fun (x : Nat) => beNat ((aesBlock rks (blockOf x)).map (BitVec.ofNat 8))
  let j0 := beNat iv * 2 ^ 32
  let t := ghash (e 0) (blocks16 aad ++ blocks16 ct ++ [8 * aad.length * 2 ^ 64 + 8 * ct.length]) ^^^ e (j0 + 1)
  if beBytes 16 t = tag then
    some ((List.range (cdiv ct.length 16)).flatMap (fun i =>
      let c := (ct.drop (16 * i)).take 16
      (c.zip (beBytes 16 (e (j0 + 2 + i)))).map (fun p => p.1 ^^^ p.2)))
  else none
end Sys2Proof.Machine
end

