-- ==== Sys2Proof/Machine/Pcie.lean ====
section
/-! DEFINITION. The host attachment (R349-R372): the endpoint and its functions, DMA channels, Spout ports, interrupts, BAR4,
and the tray controller's SMBus reads. -/
namespace Sys2Proof.Machine
open Sys2Proof
namespace State

/-! Functions (R351, R370). -/

/-- The host reaches the device: the link is up and the Gatehouse has released the endpoint. -/
def hostUp (s : State) : Bool := s.pci.up && s.pci.released
/-- Whether function `f` owns channel or port `n` (R351). -/
def owns (s : State) (f : PFn) (n : Nat) : Bool :=
  match f with
  | .pf0 => !s.vfOn n
  | .vf v => v.val == n && s.vfOn n
/-- HOST_WR_DENIED (R351, R353), counted by channel or page. [log entry 27 DEDUCED] -/
def hostDenied (s : State) (n : Nat) : State := s.bump 0x0A02 n
/-- HOST_WR_DENIED at a DMA channel counts in its register too (R372). -/
def deniedAt (s : State) (off : Nat) : State :=
  if 0xA01000 ≤ off ∧ off < 0xA02000 then s.addSat PCI_DMA_CNT_DENIED 1 ((off - 0xA01000) / 0x100) else s

/-! DMA channels (R354-R359). -/

/-- STARTING of a channel is done (R354): CTRL, RING and the window are sampled. -/
def dmaStarted (s : State) (c : Fin 16) : State :=
  let s := s.setDma c
    { rloc := s.fld PCI_DMA_CTRL_RLOC c, rsize := s.fld PCI_DMA_CTRL_RSIZE c, weight := max 1 (s.fld PCI_DMA_CTRL_WEIGHT c),
      ctx := s.fld PCI_DMA_CTRL_CTX c, ring := s.fld PCI_DMA_RING_BASE c * 64, wlo := s.fld PCI_DMA_WLO_ADDR c,
      whi := s.fld PCI_DMA_WHI_ADDR c, cgen := s.cgen (s.fld PCI_DMA_CTRL_CTX c) }
  s.startDone (.dma c) true
/-- A channel is OFF with EN = 0, its descriptor given up without a status (R359, R369). -/
def dmaOff (s : State) (c : Nat) : State :=
  let s := ((s.setFld PCI_DMA_CTRL_EN 0 c).setFld PCI_DMA_CTRL_STATE 0 c).setFld PCI_DMA_CTRL_PENDING_ON 0 c
  s.setDma c {}
end State
/-- A descriptor (Table 14.3). -/
structure Desc where
  dir : Nat
  bad : Bool
  len : Nat
  lines : Nat
  src : Nat
  dst : Nat
  spitch : Nat
  dpitch : Nat
  deriving DecidableEq, Repr
/-- Read a descriptor's 64 bytes. A LEN of 0, and LINES of 0 where it counts, lie outside the field's range and are BAD.
[log entry 56 DEDUCED] -/
def parseDesc (bs : List Byte) : Desc :=
  let f := fun (o n : Nat) => leNat ((bs.drop o).take n)
  let ctrl := f 0 4
  let two := bit ctrl 4
  { dir := bits ctrl 0 2, len := f 4 4, lines := if two then f 8 4 else 1, src := f 0x10 8, dst := f 0x18 8,
    spitch := f 0x20 4, dpitch := f 0x24 4,
    bad := bits ctrl 0 2 == 3 || bits ctrl 5 27 != 0 || f 4 4 == 0 || (two && (f 8 4 == 0 || 65535 < f 8 4)) || f 0x28 24 != 0 }
/-- The end of the extent of a descriptor's side. -/
def Desc.last (d : Desc) (a pitch : Nat) : Nat := a + (d.lines - 1) * pitch + d.len
namespace State
/-- Whether one device side lies in LPDDR within the channel's window (R356). -/
def dmaIn (s : State) (c a e : Nat) : Bool := decide ((s.dma c).wlo ≤ a ∧ e ≤ (s.dma c).whi ∧ e ≤ s.usable)
/-- The result of a descriptor's checks before any byte moves, 0 when they pass (Table 14.4, R359). -/
def dmaCheck (s : State) (c : Nat) (d : Desc) : Nat :=
  let host := d.dir ≠ 2
  if ¬ s.ctxActive (s.dma c).ctx then 5
  else if host ∧ (s.dma c).lostTail.isSome then 3
  else if d.bad ∨ (host ∧ ¬ s.hostUp) then 4
  else if (d.dir ≠ 0 ∧ ¬ s.dmaIn c d.src (d.last d.src d.spitch)) ∨ (d.dir ≠ 1 ∧ ¬ s.dmaIn c d.dst (d.last d.dst d.dpitch)) then 1
  else 0
/-- Bytes of a line before its first poisoned burst, and whether it has one. [log entry 58 DEDUCED] -/
def cleanRun (s : State) (a n : Nat) : Nat × Bool :=
  let ps := (s.poison ++ s.arc.stgPoison).map (fun p => p.1)
  match ps.filter (fun p => hits (p * 64) 64 a n && s.poisoned (p * 64) 64) with
  | [] => (n, false)
  | p :: t => (t.foldl min p * 64 - a, true)
/-- Move the lines of a descriptor from LPDDR, in order; a poisoned burst ends it with the bytes before it moved. -/
def dmaOut (s : State) (c : Nat) (d : Desc) : Nat → Nat → State × Nat
  | 0, _ => (s, 0)
  | n + 1, i =>
    let x := s.dma c
    let a := d.src + i * d.spitch
    let (k, bad) := s.cleanRun a d.len
    let (bs, t) := s.lpSee a k none
    let t := if d.dir = 2 then t.ctxPut x.ctx x.cgen (d.dst + i * d.dpitch) bs else t.emit (.host (d.dst + i * d.dpitch) bs)
    if bad then (t, 2) else t.dmaOut c d n (i + 1)
/-- Move host bytes into LPDDR, line by line. -/
def dmaInto (s : State) (c : Nat) (d : Desc) : Nat → Nat → List Byte → State
  | 0, _, _ => s
  | n + 1, i, bs =>
    let x := s.dma c
    let s := if bs.isEmpty then s else s.ctxPut x.ctx x.cgen (d.dst + i * d.dpitch) (bs.take d.len)
    s.dmaInto c d n (i + 1) (bs.drop d.len)
/-- Whether the channel has a descriptor to run; while its context is TEARING none is fetched (R358). -/
def dmaWaits (s : State) (c : Nat) : Bool :=
  s.fld PCI_DMA_CTRL_STATE c == 2 && (s.dma c).cur.isNone && s.fld PCI_DMA_PTR_TAIL c % s.dmaSize c != s.fld PCI_DMA_PTR_HEAD c
    && s.trained && ((s.dma c).rloc == 1 || s.hostUp) && s.ctxState (s.dma c).ctx != 2
    && !s.fnBrief (.dma (Fin.ofNat 16 c))
/-- Fetch the descriptor at HEAD, check it and move its bytes (R355, R356): `desc` is what a host ring holds there, `data` the
bytes that the host delivered, `ok` that every completion was good. [log entry 59 DESIGN CHOICE] -/
def dmaRun (s : State) (c : Nat) (desc data : List Byte) (ok : Bool) : State :=
  let x := s.dma c
  let (bs, s) := if x.rloc = 1 then s.lpRead (x.ring + s.fld PCI_DMA_PTR_HEAD c * 64) 64 else ((desc ++ List.replicate 64 0).take 64, s)
  let d := parseDesc bs
  let r := s.dmaCheck c d
  let y : State × Nat :=
    if r ≠ 0 then (s, r)
    else if d.dir = 0 then
      let total := d.len * d.lines
      (s.dmaInto c d d.lines 0 (data.take total), if ok ∧ total ≤ data.length then 0 else 2)
    else s.dmaOut c d d.lines 0
  (y.1.setDma c { y.1.dma c with cur := some bs, result := y.2 }).beat (768 + c)
/-- The descriptor's writes are acknowledged: it completes (R356). -/
def dmaDone (s : State) (c : Nat) : State :=
  let s := (s.dmaFinish c (s.dma c).result).beat (768 + c)
  if (s.dma c).lostTail = some (s.fld PCI_DMA_PTR_HEAD c) then s.setDma c { s.dma c with lostTail := none } else s
/-- Link loss at a channel (R359). [log entry 57 DEDUCED] -/
def dmaLinkLost (s : State) (c : Nat) : State :=
  let x := s.dma c
  let st := s.fld PCI_DMA_CTRL_STATE c
  if st = 0 ∨ (st = 1 ∧ s.on PCI_DMA_CTRL_RLOC c) then s
  else if st = 1 ∨ x.rloc = 0 then s.dmaOff c
  else
    let host := match x.cur with | some bs => (parseDesc bs).dir != 2 | none => false
    let s := if host then s.dmaFinish c 3 else s
    let t := s.fld PCI_DMA_PTR_TAIL c % s.dmaSize c
    s.setDma c { s.dma c with lostTail := if t = s.fld PCI_DMA_PTR_HEAD c then none else some t }

/-! Link, PERST_N and Function Level Reset (R350, R369). -/

/-- HOST_LINK_DOWN (R350, R359). -/
def hostLinkDown (s : State) : State :=
  let s := { s with pci := { s.pci with up := false } }
  let s := ((s.setFld PCI_LINK_SPEED 0).setFld PCI_LINK_WIDTH 0).addSat PCI_LINK_DOWNS 1
  (List.range 16).foldl dmaLinkLost (s.alarm 0x68 0x0A01)
/-- A Spout port clears POS and its prefetch. -/
def spoutClear (s : State) (p : Nat) : State :=
  let s := s.setFld SPT_POS_POS 0 p
  { s with pci := { s.pci with spt := s.pci.spt.set {} p { s.pci.spt.get {} p with prefetch := [] } } }
/-- Clear the MSI-X table and pending bits of function `fn`. -/
def msixClear (s : State) (fn : Nat) : State :=
  { s with pci := { s.pci with msix := s.pci.msix.filter (fun x => x.1 / 4096 != fn),
                               pba := s.pci.pba.filter (fun x => x.1 / 1024 != fn) } }
/-- What PERST_N and a hot reset reset (R369). [log entry 60 DEDUCED] -/
def pcieReset (s : State) : State :=
  let s := (List.range 16).foldl (fun s c => (s.dmaOff c).spoutClear c) s
  let s := (s.setFld PCI_LINK_SPEED 0).setFld PCI_LINK_WIDTH 0
  { s with pci := { s.pci with up := false, vfOn := [], msix := [], pba := [] } }
/-- PERST_N low or high, or a hot reset. The PCIe domain is on while PERST_N is high (Table 16.3). -/
def perst (s : State) (k : Fin 3) : State :=
  match k with
  | 0 => { (s.pcieReset.setFld PWR_DOM_CTRL_STATE 0 198).setFld PWR_DOM_CTRL_EN 0 198 with pci := { s.pcieReset.pci with perst := true } }
  | 1 => { (s.setFld PWR_DOM_CTRL_STATE 2 198).setFld PWR_DOM_CTRL_EN 1 198 with pci := { s.pci with perst := false } }
  | _ => s.pcieReset
/-- Function Level Reset (R369). -/
def flr (s : State) (f : PFn) : State :=
  let s := (List.range 16).foldl (fun s n => if s.owns f n then (s.dmaOff n).spoutClear n else s) s
  s.msixClear (match f with | .pf0 => 0 | .vf v => 1 + v)

/-! Spout (R360-R363). -/

def spt (s : State) (p : Nat) : SpoutPort := s.pci.spt.get {} p
def setSpt (s : State) (p : Nat) (x : SpoutPort) : State := { s with pci := { s.pci with spt := s.pci.spt.set {} p x } }
/-- Discard what a port has prefetched. -/
def spoutDrop (s : State) (p : Nat) : State := s.setSpt p { s.spt p with prefetch := [] }
/-- Address of position `n`, and the bytes from there that stay on its line (R360). -/
def spoutPlace (s : State) (p n : Nat) : Nat × Option Nat :=
  let a := s.fld SPT_ADDR_ADDR p; let l := s.fld SPT_LINE_LINE p
  if l = 0 then (a + n, none) else (a + n / l * s.fld SPT_STRIDE_STRIDE p + n % l, some (l - n % l))
/-- Cut bytes at successive positions into runs on one line each: address, bytes. -/
def spoutRuns (s : State) (p : Nat) : Nat → Nat → List Byte → List (Nat × List Byte)
  | 0, _, _ => []
  | fuel + 1, n, bs =>
    if bs.isEmpty then []
    else
      let (a, k) := s.spoutPlace p n
      let k := match k with | some k => min k bs.length | none => bs.length
      (a, bs.take k) :: s.spoutRuns p fuel (n + k) (bs.drop k)
/-- A data write (R360, R361). -/
def spoutWrite (s : State) (p : Nat) (bs : List Byte) : State :=
  let cnt := s.fld SPT_COUNT_COUNT p
  let pos := s.fld SPT_POS_POS p
  let land := bs.take cnt
  let c := s.fld SPT_CFG_CTX p
  let s := if land.length < bs.length then s.addSat SPT_CNT_OVER (bs.length - land.length) p else s
  let s := (s.spoutRuns p land.length pos land).foldl (fun s r =>
    let ok := r.2.take (s.usable - r.1)
    let s := if ok.length < r.2.length then s.addSat SPT_CNT_RANGE (r.2.length - ok.length) p else s
    if ok.isEmpty then s else s.ctxWrite c (s.cgen c) r.1 ok) s
  let s := (s.setFld SPT_POS_POS (pos + land.length) p).setFld SPT_COUNT_COUNT (cnt - land.length) p
  s.spoutDrop p
/-- The runs of `n` positions from `pos`: address, bytes. -/
def spoutSpan (s : State) (p : Nat) : Nat → Nat → Nat → List (Nat × Nat)
  | 0, _, _ => []
  | fuel + 1, pos, n =>
    if n = 0 then []
    else
      let (a, k) := s.spoutPlace p pos
      let k := match k with | some k => min k n | none => n
      (a, k) :: s.spoutSpan p fuel (pos + k) (n - k)
/-- Bytes of memory in runs, each with whether its burst is poisoned; those outside LPDDR read 0. -/
def spanRead (s : State) (runs : List (Nat × Nat)) : List (Byte × Bool) × State :=
  runs.foldl (fun (x : List (Byte × Bool) × State) r =>
    let (bs, t) := if r.1 < 64 * 2 ^ 30 then x.2.lpSee r.1 r.2 none else (List.replicate r.2 0, x.2)
    (x.1 ++ (bs.zip (List.range bs.length)).map (fun b => (b.1, x.2.poisoned (r.1 + b.2) 1)), t)) ([], s)
/-- The answer to a read of those bytes (R335). -/
def spanSay (s : State) (bs : List (Byte × Bool)) : State :=
  if bs.any (fun b => b.2) then s.emit .poisoned else s.emit (.data (bs.map (fun b => b.1)))
/-- A read of the data window (R362, R335): what was prefetched comes first; how far the port then prefetches, up to 64 KiB, is
open. Before LPDDR is served the read waits (R392). [log entry 61 DESIGN CHOICE] -/
def spoutRead (s : State) (p n : Nat) : State :=
  let pos := s.fld SPT_POS_POS p
  let t := s.setFld SPT_POS_POS (pos + n) p
  if ¬ s.trained then t.lpWait (.spout (s.spoutSpan p n pos n))
  else
    let have_ := (s.spt p).prefetch
    let (bs, t) :=
      if n ≤ have_.length then (have_, t)
      else
        let (f, t) := t.freeBits 16
        let want := n - have_.length + f
        let (more, t) := t.spanRead (s.spoutSpan p want (pos + have_.length) want)
        (have_ ++ more, t)
    (t.setSpt p { t.spt p with prefetch := bs.drop n }).spanSay (bs.take n)
/-- The doorbell at the head of a port's queue is performed (R363), once the port's earlier writes have been acknowledged. -/
def doorbell (s : State) (p : Nat) : State :=
  match (s.spt p).bells with
  | [] => s
  | v :: t =>
    if ¬ s.arc.waits.isEmpty then s else
    let s := s.setSpt p { s.spt p with bells := t }
    let c := s.fld SPT_CFG_CTX p
    let w := s.fld SPT_CFG_WKT p
    let i := w % 16
    let owner := if s.strmState i = 0 then s.fld PLT_STRM_BIND_OWNER i else (s.strm i).owner
    let s := match s.fld SPT_CFG_DBACT p with
      | 1 => s.signalHw w c v
      | 2 =>
        if owner ≠ c then (s.addSat SPT_CNT_DBDROP 1 p).bump 0x0A06 p
        else s.postSlot i (v % 65536)
      | _ => s
    (s.addSat SPT_CNT_DBELLS 1 p).raiseMsi (16 + p)

/-! Interrupts and BAR4 (R352, R364). -/

/-- Clear the mask of a vector: a pending message is sent (R364). -/
def msixUnmask (s : State) (fn v : Nat) : State :=
  let s := { s with pci := { s.pci with msix := s.pci.msix.set 1 (msixKey fn v 3) (setBits (s.pci.msix.get 1 (msixKey fn v 3)) 0 1 0) } }
  if s.pci.pba.get false (1024 * fn + v) then
    { s with pci := { s.pci with pba := s.pci.pba.set false (1024 * fn + v) false } }.emit (.msix fn v)
  else s
/-- A write through BAR4 at device address `a` in region `r` (R352): register space, alias windows, Gatehouse space and unmapped addresses
drop it; Gatehouse space counts ORG_WR_DENIED (R417). -/
def bar4At (s : State) (a : Nat) (bs : List Byte) (r : Region) : State :=
  match r with
  | .lpddr _ => s.ctxWrite 0 (s.cgen 0) a bs
  | .lpHole => s.arcRange
  | .pav p o => s.pavHostWrite p o bs
  | .fs _ => s.devWrite a bs
  | .gth => s.bump 0x0D0E 13
  | _ => s
/-- A host write through BAR4 (R352). -/
def bar4Write (s : State) (off : Nat) (bs : List Byte) : State :=
  s.bar4At (s.fld PCI_BAR4_OFS_OFS * 2 ^ 28 + off) bs (s.region (s.fld PCI_BAR4_OFS_OFS * 2 ^ 28 + off))
end State

/-- DMA_ENABLE (R354, R266). -/
def execDmaEnable (c : Fin 16) (e : EnEv) (s : State) : Outc :=
  done s (match e with
    | .write b => (s.enWrite (.dma c) b).1
    | .done => if s.fld PCI_DMA_CTRL_STATE c = 1 then s.dmaStarted c else s)
/-- DMA_TAIL_WRITE (R355). -/
def execDmaTailWrite (c : Fin 16) (tail : BitVec 16) (s : State) : Outc := done s (s.setFld PCI_DMA_PTR_TAIL tail.toNat c)
/-- DMA_DESCRIPTOR (R355, R356): the descriptor of a host ring, the bytes that the host delivers, whether each completion was
good. -/
def execDmaDescriptor (c : Fin 16) (desc data : List Byte) (ok : Bool) (s : State) : Outc :=
  done s (if s.dmaWaits c then s.dmaRun c desc data ok else s)
/-- DMA_DESC_DONE (R356). -/
def execDmaDescDone (c : Fin 16) (s : State) : Outc := done s (if (s.dma c).cur.isSome then s.dmaDone c else s)
/-- HOST_LINK_DOWN (R350, R359). -/
def execHostLinkDown (s : State) : Outc := done s (if s.pci.up then s.hostLinkDown else s)
/-- PERST (R369): PERST_N falls (0) or rises (1), or a hot reset (2). -/
def execPerst (k : Fin 3) (s : State) : Outc := done s (s.perst k)
/-- FLR (R369): a write to configuration space, of a Function Level Reset or of the number of VFs enabled (R351).
[log entry 55 DESIGN CHOICE] -/
def execFlr (w : CfgWrite) (s : State) : Outc :=
  done s (match w with
    | .flr f => s.flr f
    | .vfs n => if s.hostUp then { s with pci := { s.pci with vfOn := (List.range n).map (fun v => (v, true)) } } else s)
/-- PCIE_LINK_TRAINED (R349, R370): 2.5 to 32 GT/s as speed + 1, and 2 ^ width lanes. -/
def execPcieLinkTrained (speed : Fin 5) (width : Fin 4) (s : State) : Outc :=
  done s (if s.pci.perst ∨ s.pci.up then s
    else ({ s with pci := { s.pci with up := true } }.setFld PCI_LINK_SPEED (speed + 1)).setFld PCI_LINK_WIDTH (2 ^ width.val))
/-- SPOUT_ADDR_WRITE (R360, R362). -/
def execSpoutAddrWrite (p : Fin 16) (a : BitVec 48) (s : State) : Outc :=
  done s (((s.setFld SPT_ADDR_ADDR a.toNat p).setFld SPT_POS_POS 0 p).spoutDrop p)
/-- SPOUT_DATA_WRITE (R351, R360, R361): 1 to 4096 bytes below the doorbell page. -/
def execSpoutDataWrite (p : Fin 16) (f : PFn) (off : BitVec 22) (bs : List Byte) (s : State) : Outc :=
  done s (if ¬ s.hostUp ∨ bs.isEmpty ∨ 0x3FF000 < off.toNat + bs.length ∨ 4096 < bs.length then s
    else if s.owns f p then s.spoutWrite p bs
    else if f = .pf0 then s.hostDenied p else s)
/-- SPOUT_READ (R351, R362, R363): a read of `n` bytes. -/
def execSpoutRead (p : Fin 16) (f : PFn) (off : BitVec 22) (n : Fin 4097) (s : State) : Outc :=
  done s (if ¬ s.hostUp then s
    else if ¬ s.owns f p then (if f = .pf0 then s.emit (.data (List.replicate n 0)) else s)
    else if off.toNat < 0x3FF000 then s.spoutRead p n
    else
      let page := List.replicate 8 0 ++ leBytes 8 (s.fld SPT_COUNT_COUNT p) ++ List.replicate 4096 0
      s.emit (.data ((page.drop (off.toNat - 0x3FF000)).take n)))
/-- SPOUT_DOORBELL (R363): a 32-bit write to the doorbell page; only offset 0 acts. -/
def execSpoutDoorbell (p : Fin 16) (f : PFn) (off : BitVec 12) (v : BitVec 32) (s : State) : Outc :=
  done s (if ¬ s.hostUp then s
    else if s.owns f p then
      (if off = 0 then s.setSpt p { s.spt p with bells := (s.spt p).bells ++ [v.toNat] } else s)
    else if f = .pf0 then s.hostDenied p else s)
/-- DOORBELL_DONE (R363). -/
def execDoorbellDone (p : Fin 16) (s : State) : Outc := done s (s.doorbell p)
/-- MSIX_UNMASK (R364). -/
def execMsixUnmask (f : PFn) (vec : BitVec 10) (s : State) : Outc :=
  done s (match f with
    | .pf0 => s.msixUnmask 0 vec.toNat
    | .vf v => if vec.toNat < 64 then s.msixUnmask (1 + v) vec.toNat else s)
/-! The tray controller (R366, R367). -/

namespace State
/-- The reset level in progress (R348, Table 14.5): a teardown that drains is level 1. -/
def lvlShown (s : State) : Nat :=
  let l := s.fld LDG_STAT_LEVEL
  if l = 0 ∧ s.par.ctx.any (fun x => x.2.tearStep == 2) then 1 else l
/-- Answer an SMBus read, least significant byte first. [log entries 62 PRESUMED, 63 DEDUCED] -/
def smbus (s : State) (n v : Nat) : State := s.emit (.smbus (leBytes n v))
end State
/-- DEVID (R366). -/
def execDevid (s : State) : Outc := done s (s.smbus 4 (s.rd .GLB_DEVID))
/-- HEARTBEAT (R366, R425): in recovery, 0x8000_0000 or the next expected offset. -/
def execHeartbeat (s : State) : Outc :=
  done s (s.smbus 4 (if s.on GTH_STAT_RECOVERY then 0x80000000 ||| s.gth.bufS.length else s.tray.heartbeat))
/-- STATUS (Table 14.5). -/
def execStatus (s : State) : Outc :=
  done s (s.smbus 4 (s.lvlShown + 8 * b2n s.tray.pwrReqLow + 16 * s.fld GTH_STAT_LC + 65536 * s.fld PWR_STAT_HOT))
/-- POWER (Table 14.5). -/
def execPower (s : State) : Outc := done s (s.smbus 2 (s.fld PWR_STAT_POWER))
/-- ALARM_MAP (Table 14.5): the sticky bits, source 0 first. -/
def execAlarmMap (s : State) : Outc :=
  done s (s.emit (.smbus ((List.range 8).flatMap (fun i => leBytes 4 (s.fld GZB_ALM_STICKY_STICKY i)))))
/-- ALARM_SEL (R366): a write with a wrong PEC is NAKed and counted. [log entry 64 DEDUCED] -/
def execAlarmSel (src : BitVec 8) (pec : Bool) (s : State) : Outc :=
  done s (if pec then { s with tray := { s.tray with almSel := src.toNat } } else (s.emit .nak).bump 0x0A07)
/-- ALARM_ENTRY (R366, R367): the selected entry; its unread bit is cleared, and TRAY_ALERT_N goes high with the last. -/
def execAlarmEntry (s : State) : Outc :=
  done s (
    let i := s.tray.almSel
    let t := s.emit (.smbus (leBytes 8 (s.fld GZB_ALM_ENTRY_FIRST i) ++ leBytes 4 (s.fld GZB_ALM_ENTRY_HI_COUNT i)
      ++ leBytes 2 (s.fld GZB_ALM_ENTRY_HI_CODE i) ++ leBytes 2 0))
    let t := { t with gzb := { t.gzb with unread := t.gzb.unread.set false i false } }
    if t.gzb.unread.any (fun x => x.2) then t else t.emit (.pin "TRAY_ALERT_N" true))
/-- ALERT_RESPONSE (R367): the device's own address while it asks for attention. -/
def execAlertResponse (s : State) : Outc :=
  done s (if s.gzb.unread.any (fun x => x.2) then s.emit (.smbus [BitVec.ofNat 8 ((0x58 + s.tray.addrSel) * 2)]) else s.emit .nak)
end Sys2Proof.Machine
end

