-- ==== Sys2Proof/Machine/Recover.lean ====
section
/-! DEFINITION. Recovery (R317-R345): dumps, hangs and their suspects, what each reset level asks for, sparing, keepers and the
firmware hand-over. Engines are numbered as LDG_RESET.TARGET; 1024 + p is the controller of plot p. -/
namespace Sys2Proof.Machine
open Sys2Proof
/-- Engine numbers that LDG_RESET.TARGET may name. -/
def engineOk (e : Nat) : Bool := e < 156 || (256 ≤ e && e < 264) || (512 ≤ e && e < 516) || (768 ≤ e && e < 784)
namespace State

/-! Dumps (R337-R340). -/

/-- The plot of a pavilion or of a plot controller. -/
def engPlot (s : State) (e : Nat) : Option Nat :=
  if 1024 ≤ e then some (e - 1024)
  else if e < 156 then
    match s.logOf e with
    | some q => if s.memberOf q = 0 then none else some (s.memberOf q - 1)
    | none => none
  else none
/-- The unit number of the block with a register page (Table 1.1). -/
def pageUnit (p : Nat) : Nat := 2048 + p
/-- The units that a dump reads (R339), in order, for an affected plot and a hung engine: by SCOPE those of the affected partition or
every unit; those not suspect first, then the hung engine, the plot's pavilions and an implicated Arcade, each part rising.
[log entry 206 DESIGN CHOICE] -/
def dumpUnits (s : State) (plot : Option Nat) (engine : Nat) (arcBad : Bool) : List Nat :=
  let pavs := match plot with
    | some p => (List.range 156).filter (fun v => s.engPlot v == some p)
    | none => []
  let hit := fun (u : Nat) => u == engine || pavs.contains u || (arcBad && u == pageUnit 0x04)
  let all := (List.range 2065).filter (fun u => engineOk u || (decide (1024 ≤ u) && decide (u < 1056)) || decide (2048 ≤ u))
  let us := all.filter (fun u =>
    s.on LDG_DUMP_CFG_SCOPE || u == pageUnit 0x0C || u == pageUnit 0x04 || u == pageUnit 0x06 || hit u
      || (match plot with | some p => u == 1024 + p | none => false))
  us.filter (fun u => !hit u) ++ us.filter hit
/-- Trigger `n` of a dump (1 HANG, 2 level 3, 3 level 4, 4 keeper, 5 host) for an affected plot and with the hung engine, 0xFFFFFFFF for
none. -/
def dumpStart (s : State) (n : Nat) (plot : Option Nat) (engine : Nat) : State :=
  if ¬ bit (s.fld LDG_DUMP_CFG_TRIG) (n - 1) then s
  else if s.ldg.dump.isSome then s.addSat LDG_DUMP_STAT_MISSED 1
  else
    { s.setFld LDG_DUMP_STAT_BUSY 1 with
      ldg := { s.ldg with dump := some ⟨n, engine, s.stamp, !s.trained, [], s.dumpUnits plot engine (!s.trained)⟩ } }
/-- A unit's section (R338, R340): header, words, void bitmap; words that timed out and, after sixteen of them, all the rest are
VOID. -/
def dumpUnit (d : Dump) (id : Nat) (ws : List Nat) : List Byte × Nat × Bool :=
  let n := ws.length
  let tgt := (List.range n).filter (fun i => d.voids.contains (id, i))
  let cut := match tgt[15]? with | some i => i + 1 | none => n
  let isVoid := fun i => tgt.contains i || decide (cut ≤ i)
  let vs := (List.range n).filter isVoid
  let body := (ws.zip (List.range n)).flatMap (fun x => leBytes 4 (if isVoid x.2 then 0x5EED0B0E else x.1))
  let map := (List.range (cdiv n 32)).flatMap (fun w =>
    leBytes 4 ((List.range 32).foldl (fun m i => if isVoid (32 * w + i) ∧ 32 * w + i < n then m + 2 ^ i else m) 0))
  let aband := decide (16 ≤ tgt.length)
  (leBytes 4 id ++ leBytes 4 n ++ leBytes 4 vs.length ++ leBytes 4 (b2n aband) ++ body ++ map, vs.length, aband)
/-- The dump is written (R339, R340), its units in order with the words that were read of each: to LPDDR, or on chip, from where it goes out
over PCIe in writes of 4 KiB. [log entry 203 DEDUCED] -/
def dumpDone (s : State) (words : List (Nat × List Nat)) : State :=
  match s.ldg.dump with
  | none => s
  | some d =>
    let budget := max 1 (s.fld LDG_DUMP_CFG_UNIT_WORDS)
    let us := d.units.map (fun u => dumpUnit d u (((words.find? (fun w => w.1 == u)).map (fun w => w.2)).getD [] |>.take budget))
    let body := us.flatMap (fun u => u.1)
    let voids := us.foldl (fun a u => a + u.2.1) 0
    let base := s.fld LDG_DUMP_BASE_ADDR * 4096
    let host := s.fld LDG_DUMP_HOST_ADDR * 4096
    let chip : Bool := d.arcBad || !s.trained || base == 0
    let out : Bool := chip && host != 0
    let room := if ¬ chip then s.fld LDG_DUMP_BASE_SIZE * 0x100000 else if out then 64 + body.length else 0x40000
    let len := min room (64 + body.length)
    let flags := b2n (len < 64 + body.length) + 2 * b2n chip + 4 * b2n (us.any (fun u => u.2.2))
    let hdr := leBytes 4 0x4C444D50 ++ leBytes 2 1 ++ leBytes 1 d.trigger ++ leBytes 1 flags ++ leBytes 8 d.time
      ++ leBytes 4 d.units.length ++ leBytes 4 voids ++ leBytes 8 len ++ leBytes 4 d.engine ++ List.replicate 28 0
    let all := (hdr ++ body).take len
    let s := { s with ldg := { s.ldg with dump := none, buf := if chip then all.take 0x40000 else s.ldg.buf } }
    let s := if ¬ chip then s.lpPut base all
      else if out && s.hostUp then (List.range (cdiv len 4096)).foldl (fun s i =>
        s.emit (.host (host + 4096 * i) ((all.drop (4096 * i)).take 4096))) s
      else s
    ((s.setFld LDG_DUMP_STAT_BUSY 0).raise LDG_DUMP_STAT_DONE).logFree 0x0910 12 0 0xFFFF

/-! Asking for a reset level (R317, R320). -/

/-- LEVEL of LDG_STAT: the highest level in progress. -/
def showLevel (s : State) : State := s.setFld LDG_STAT_LEVEL (s.ldg.lvl.foldl (fun a x => max a x.1) 0)
/-- The level and target to which a level escalates: an engine of no plot goes on to level 4. [log entry 194 DEDUCED] -/
def nextLevel (s : State) (lvl tgt : Nat) : Nat × Nat :=
  if lvl = 2 then (match s.engPlot tgt with | some p => (3, p) | none => (4, 0))
  else (lvl + 1, 0)
/-- ESCALATE names both levels (R320). -/
def logEscalate (s : State) (lvl next ctx : Nat) : State := s.logNamed 0x0904 12 lvl ctx (leBytes 1 lvl ++ leBytes 1 next)
/-- A reset level is asked for. One whose trigger recurs while it is wanted or runs escalates, logged (R320); levels 3 and 4 ask
for their dump first (R337), and level 5 for a power cycle (R344). -/
def askReset : Nat → State → Nat → Nat → State
  | 0, s, _, _ => s.powerRequest
  | n + 1, s, lvl, tgt =>
    if 5 ≤ lvl then s.powerRequest
    else if s.ldg.want.contains (lvl, tgt) ∨ s.ldg.lvl.any (fun x => x.1 == lvl && x.2.1 == tgt) then
      let (l, t) := s.nextLevel lvl tgt
      askReset n (s.logEscalate lvl l 0xFFFF) l t
    else
      let s := if lvl = 3 then s.dumpStart 2 (some tgt) 0xFFFFFFFF else if lvl = 4 then s.dumpStart 3 none 0xFFFFFFFF else s
      { s with ldg := { s.ldg with want := s.ldg.want ++ [(lvl, tgt)] } }
def ask (s : State) (lvl tgt : Nat) : State := askReset 4 s lvl tgt
/-- Escalate from a level that is given up. -/
def escalate (s : State) (lvl tgt : Nat) : State :=
  let (l, t) := s.nextLevel lvl tgt
  (s.logEscalate lvl l 0xFFFF).ask l t
/-- A write of LDG_RESET (R317, R348): a level 2 of a head goes by its fault. -/
def resetWrite (s : State) (lvl tgt : Nat) : State :=
  if lvl = 2 ∧ engineOk tgt then
    (if 512 ≤ tgt ∧ tgt < 516 then s.setHead (tgt - 512) { s.head (tgt - 512) with faulted := true } else s.ask 2 tgt)
  else if lvl = 3 ∧ tgt < 32 then s.ask 3 tgt
  else if lvl = 4 then s.ask 4 0
  else s
/-- A wanted level begins, or a running one ends. -/
def lvlBegin (s : State) (lvl tgt : Nat) : State :=
  { s with ldg := { s.ldg with want := s.ldg.want.erase (lvl, tgt), lvl := s.ldg.lvl ++ [(lvl, tgt, s.tick)] } }.showLevel
def lvlEnd (s : State) (lvl tgt : Nat) : State :=
  { s with ldg := { s.ldg with lvl := s.ldg.lvl.filter (fun x => !(x.1 == lvl && x.2.1 == tgt)) } }.showLevel
/-- Whether a wanted level may begin: its dump is over (R337). -/
def mayBegin (s : State) (lvl tgt : Nat) : Bool := s.ldg.want.contains (lvl, tgt) && s.ldg.dump.isNone
def running2 (s : State) (lvl tgt : Nat) : Bool := s.ldg.lvl.any (fun x => x.1 == lvl && x.2.1 == tgt)

/-! Hangs (R323-R328). -/

/-- The oldest command that an engine's programs have fired and not committed, HALOs apart (R323): the fc at which it is due. -/
def cmdDue (s : State) (k : Nat) : Option Nat :=
  (((s.prog k).cmds.filter (fun c => c.phase != .dispatched && opc (word c.words 0) != 0x44)).map (fun c => c.due)).head?
/-- The fc since which an engine has been busy with no beat; none where it is not busy. -/
def quietSince (s : State) (e : Nat) : Option Nat :=
  let due : Option Nat :=
    if e < 156 then
      ((List.range 32).flatMap (fun p => (s.progKeys p).filter (fun k => !isCond k && s.stagePhys p (keyStage k) == some e))).findSome? s.cmdDue
    else if 256 ≤ e ∧ e < 264 then (if (s.eng (e - 256)).cur.isSome then some (s.eng (e - 256)).due else none)
    else if 768 ≤ e ∧ e < 784 then (if (s.dma (e - 768)).cur.isSome then some 0 else none)
    else if 1024 ≤ e ∧ e < 1056 then s.cmdDue (condKey (e - 1024))
    else none
  due.map (fun d => max d (s.ldg.beat.get 0 e))
/-- A hang is detected (R323): a busy engine without a beat for HANG_WIN; of an ON head the command itself says that it has sent no
line for 4 line periods. [log entry 191 DESIGN CHOICE] -/
def hungNow (s : State) (e : Nat) : Bool :=
  s.fld LDG_HANG_CFG_HANG_WIN != 0 &&
    (if 512 ≤ e ∧ e < 516 then s.headState (e - 512) == 2
     else match s.quietSince e with
     | some t => decide (t + s.fld LDG_HANG_CFG_HANG_WIN * 1100 ≤ s.fc)
     | none => false)
/-- The suspects of a hang (R325), rising: ACTIVE contexts that held the plot within HANG_WIN, or with a request in the engine. -/
def suspectsOf (s : State) (e : Nat) : List Nat :=
  let cs : List Nat :=
    if 256 ≤ e ∧ e < 264 then
      let g := s.eng (e - 256)
      (match g.cur with | some r => [r.ctx] | none => []) ++ g.queue.map (fun r => r.ctx)
    else match s.engPlot e with
    | some p =>
      (if (s.running p).isSome then [s.plotCtx p] else [])
        ++ ((s.plot p).held.filter (fun h => decide (s.tick ≤ h.2 + s.fld LDG_HANG_CFG_HANG_WIN * usTicks))).map (fun h => h.1)
    | none => []
  (List.range 1024).filter (fun c => c != 0 && cs.contains c && s.ctxActive c)
/-- REPLAY of LDG_STAT. -/
def showReplay (s : State) : State := s.setFld LDG_STAT_REPLAY (b2n (!s.ldg.recs.isEmpty))
/-- A suspect is guilty (R327): torn down with HANG_GUILTY, and its engine reset again. FREC names the program on a hung pavilion, the
conductor of a hung controller's plot, or the program of the request in a hung engine of Belvedere. -/
def guilty (s : State) (r : Recov) : State :=
  let s := s.setRecov { r with cur := none, passed := [], guilty := true }
  let k := if r.plot < 32 then progKey r.plot (((List.range (s.plot r.plot).stages).find? (fun i => s.stagePhys r.plot i == some r.engine)).getD 255)
    else match (s.eng (r.engine - 256)).cur with | some q => q.prog | none => condKey 0
  let g := s.prog k
  let s := s.tearStart (r.cur.getD 0) 0x0902 (keyPlot k) (keyStage k) g.pc g.step
  if 1024 ≤ r.engine then s.ask 3 (r.engine - 1024) else s.ask 2 r.engine
/-- The Lodge handles a hang (R326, R328). -/
def handleHang (s : State) (e : Nat) : State :=
  if 512 ≤ e ∧ e < 516 then s.setHead (e - 512) { s.head (e - 512) with faulted := true }
  else
    let s0 := s
    let s := s.dumpStart 1 (s.engPlot e) e
    match s.ldg.recs.find? (fun r => r.engine == e && r.cur.isSome) with
    | some r => s.guilty r
    | none =>
      match s.engPlot e with
      | some p =>
        if s.ldg.recs.any (fun r => r.plot == p) then s.ask 3 p
        else
          let r : Recov := ⟨e, p, s0.suspectsOf e, none, [], false⟩
          let s := { s.suspendNow p with ldg := { (s.suspendNow p).ldg with recs := (s.suspendNow p).ldg.recs ++ [r] } }.showReplay
          if 1024 ≤ e then s.ask 3 p else s.ask 2 e
      | none =>
        if 256 ≤ e ∧ e < 264 then
          if s.ldg.recs.any (fun r => r.engine == e) then s.escalate 2 e
          else
            let g := s.eng (e - 256)
            let rs := ((match g.cur with | some r => [r] | none => []) ++ g.queue).filter (fun r => r.pacer.isNone)
            let ps := (rs.map (fun r => r.plot)).eraseDups
            let s := ps.foldl suspendNow s
            let r : Recov := ⟨e, 32, s0.suspectsOf e, none, [], false⟩
            ({ s with ldg := { s.ldg with recs := s.ldg.recs ++ [r] } }.showReplay).ask 2 e
        else s.ask 2 e
/-- Some keeper core runs (R341). -/
def keeperRuns (s : State) : Bool := s.ldg.k0At.isSome || s.ldg.k1At.isSome
/-- HANG (R323): the alarm, and its handling once a keeper runs. ENGINE of a plot controller, which has no number, is open.
[log entries 192 DEDUCED, 193 DESIGN CHOICE] -/
def hang (s : State) (e : Nat) : State :=
  let s := s.alarm 0x58 0x0901
  let s := if 1024 ≤ e then let (v, t) := s.freeBits 16; t.setFld LDG_STAT_ENGINE v else s.setFld LDG_STAT_ENGINE e
  if s.keeperRuns then s.handleHang e else { s with ldg := { s.ldg with waiting := s.ldg.waiting ++ [e] } }
/-- Hangs held pending are handled once a keeper runs (R341). -/
def hangsPending (s : State) : State :=
  if s.keeperRuns then
    let es := s.ldg.waiting
    es.foldl handleHang { s with ldg := { s.ldg with waiting := [] } }
  else s
/-- A plot stalls (R324): the beats within a command's or a request's body end when it is due. [log entry 94 DEDUCED] -/
def stalled (s : State) (p : Nat) : Bool :=
  let g := s.plot p
  let ks := s.progKeys p
  let quiet := fun (t : Nat) => decide (t + s.fld LDG_HANG_CFG_PLOT_WIN * 1100 ≤ s.fc)
  s.fld LDG_HANG_CFG_PLOT_WIN != 0 && s.plotState p == 2 && (s.running p).isSome && g.act == .idle
    && decide (g.stallAt + s.fld LDG_HANG_CFG_PLOT_WIN * usTicks ≤ s.tick)
    && quiet (s.ldg.beat.get 0 (1024 + p))
    && ks.all (fun k => match (s.prog k).wait with
        | .none => true
        | .fence _ => true
        | .drain => true
        | _ => false)
    && ks.all (fun k => (s.prog k).cmds.all (fun c => c.phase == .dispatched || (quiet c.due && opc (word c.words 0) != 0x44)))
    && s.bel.eng.all (fun x => match x.2.cur with | some r => r.pacer.isSome || r.plot != p || quiet x.2.due | none => true)
/-- Plots whose suspension is over go on: no replay on them, no retirement or reset that they wait for. -/
def resumePlots (s : State) : State :=
  (List.range 32).foldl (fun s p =>
    let g := s.plot p
    let held := s.ldg.affected.contains p || s.ldg.recs.any (fun r => r.plot == p)
      || (s.ldg.want ++ s.ldg.lvl.map (fun x => (x.1, x.2.1))).any (fun x =>
          (x.1 == 3 && x.2 == p) || (x.1 == 2 && (s.engPlot x.2 == some p || decide (256 ≤ x.2))))
    if g.suspended ∧ ¬ held then s.setPlot p { g with suspended := false } else s) s
/-- The next suspect of a hang runs alone (R326, R327), or, with none left, selection goes on; a pavilion whose suspects were all
innocent twice within an hour is to be retired (R331), which the answer tells. -/
def replayNext (s : State) (r : Recov) : State × Bool :=
  let slotOf := fun c => (s.bound r.plot).find? (fun j => (s.slot r.plot j).ctx == c)
  match r.suspects.find? (fun c => s.ctxActive c && (256 ≤ r.engine && r.engine < 264 || (slotOf c).isSome)) with
  | none =>
    let s := { s with ldg := { s.ldg with recs := s.ldg.recs.filter (fun x => x.engine != r.engine) } }.showReplay
    let s := s.resumePlots
    if r.engine < 156 ∧ r.suspects.isEmpty ∧ ¬ r.guilty then
      let t := s.ldg.innocent.get 0 r.engine
      ({ s with ldg := { s.ldg with innocent := s.ldg.innocent.set 0 r.engine (s.tick + 1) } },
        decide (t ≠ 0 ∧ s.tick ≤ t - 1 + 3600000000 * usTicks))
    else (s, false)
  | some c =>
    let rest := r.suspects.filter (fun x => x != c)
    let s := s.setRecov { r with suspects := rest, cur := some c, passed := [] }
    if r.plot < 32 then
      match slotOf c with
      | some j => (s.beginSwitchIn r.plot j, false)
      | none => (s, false)
    else (s, false)
/-- Whether the engine of a hang has been reset and its plot stands still, so that a suspect can run. -/
def replayReady (s : State) (r : Recov) : Bool :=
  let busy := fun (l t : Nat) => s.ldg.want.contains (l, t) || s.running2 l t
  r.cur.isNone && !busy 2 r.engine && s.ldg.dump.isNone
    && (r.plot == 32 || (!busy 3 r.plot && s.plotState r.plot == 2 && (s.running r.plot).isNone && (s.plot r.plot).act == .idle))
/-- The watchdog of a replay has run out (R327, R328): twice the step WCET of the suspect's image since it began, or twice the
duration of its first request. -/
def watchdogOut (s : State) (r : Recov) : Bool :=
  match r.cur with
  | none => false
  | some c =>
    if r.plot < 32 then
      match s.running r.plot with
      | some j =>
        (s.slot r.plot j).ctx == c && (s.plot r.plot).act == .idle
          && decide ((s.plot r.plot).onAt + 2 * (s.imageW (s.slotImage r.plot j)).getD 0 ≤ s.fc)
      | none => false
    else
      let g := s.eng (r.engine - 256)
      match g.cur with
      | some q => q.ctx == c && decide (g.began + 2 * (g.due - g.began) ≤ s.fc)
      | none => false

/-! Sparing (R13, R331-R333). -/

/-- SPARE and UNHOMED of a row, by its FAILED columns. -/
def showSpare (s : State) (r : Nat) : State :=
  let w := s.workingCols r
  let s := s.setFld PTR_SPARE_ROW_SPARE (match w[12]? with | some c => c | none => 0xF) r
  s.setFld PTR_SPARE_ROW_UNHOMED (b2n (w.length < 12)) r
/-- The working column number of a physical pavilion in its row. -/
def colIndex (s : State) (v : Nat) : Option Nat := (s.workingCols (v / 13)).findIdx? (fun c => c == v % 13)
/-- The plots whose logical pavilions a retirement moves. -/
def movedPlots (s : State) (v : Nat) : List Nat :=
  match s.colIndex v with
  | some i => (((List.range 12).filter (fun l => i ≤ l)).filterMap (fun l =>
      let m := s.memberOf (12 * (v / 13) + l)
      if m = 0 then none else some (m - 1))).eraseDups.filter (fun p => s.plotState p != 0)
  | none => []
/-- A pavilion is to be retired (R331, R332): the plots it moves are suspended at their frame boundaries; a column that carries
no logical one is retired at once. [log entry 202 DEDUCED] -/
def retire (s : State) (v : Nat) : State :=
  if 155 < v ∨ s.retired v ∨ s.ldg.retiring.contains v then s
  else
    let ps := s.movedPlots v
    { s with ldg := { s.ldg with retiring := s.ldg.retiring ++ [v], affected := (s.ldg.affected ++ ps).eraseDups } }
/-- Every plot that a retirement moves is suspended. -/
def mapReady (s : State) (v : Nat) : Bool :=
  s.ldg.retiring.contains v && (s.movedPlots v).all (fun p => (s.plot p).suspended && (s.running p).isNone)
/-- A plot with an unhomed pavilion stops (R332). -/
def unhomedStop (s : State) (p : Nat) : State :=
  if s.plotState p ≠ 0 ∧ s.unhomed p then
    let s := ((s.setFld PLT_STAT_STATE 0 p).setFld PLT_STAT_PENDING_ON 0 p).setFld PLT_STAT_LOADFAULT 0x0906 p
    s.setPlot p { s.plot p with suspended := false, act := .idle }
  else s
/-- The map changes (R332): the column is FAILED, its domain goes off, pavilions without a home are reported and their plots
stopped, the others resume. -/
def mapChange (s : State) (v : Nat) : State :=
  let r := v / 13
  let ps := s.movedPlots v
  let before := (s.workingCols r).length
  let s := s.setFld PTR_SPARE_ROW_FAILED (setBits (s.fld PTR_SPARE_ROW_FAILED r) (v % 13) 1 1) r
  let s := (((s.wipePav v).setFld PWR_DOM_CTRL_STATE 0 v).setFld PWR_DOM_CTRL_PENDING_ON 0 v).showSpare r
  let s := s.alarm 0x59 0x0905
  let s := if before ≤ 12 then s.alarm 0x5A 0x0906 else s
  let s := ps.foldl unhomedStop s
  let left := s.ldg.retiring.erase v
  let s := { s with ldg := { s.ldg with retiring := left, affected := (left.flatMap s.movedPlots).eraseDups } }
  s.resumePlots

/-! Keepers and the hand-over of the Lodge image (R341-R343). -/

/-- A keeper core starts again: it resumes its duties within 5 ms. [log entry 204 DEDUCED] -/
def keeperStart (s : State) (k : Nat) : State :=
  let t := some (s.tick + 5000 * usTicks)
  { s with ldg := if k = 0 then { s.ldg with k0At := t, k0Beat := false } else { s.ldg with k1At := t, k1Beat := false } }
/-- End a hand-over: STATE idle, GO self-clears. -/
def fwEnd (s : State) : State := (s.setFld LDG_FW_CTRL_STATE 0).setFld LDG_FW_CTRL_GO 0
/-- Roll both keepers back to the old image (R343 step 5). -/
def fwRollback (s : State) : State :=
  let s := ((s.keeperStart 0).keeperStart 1).fwEnd
  let g := s.gth
  { s with gth := { g with img := if g.old.isSome then g.old else g.img, old := none, staged := none }, ldg := { s.ldg with fwStep := 0 } }.alarm 0x62 0x090E
/-- A keeper's restart during a hand-over rolls it back. -/
def fwWatch (s : State) : State := if s.fld LDG_FW_CTRL_STATE = 2 ∨ s.fld LDG_FW_CTRL_STATE = 3 then s.fwRollback else s
/-- A keeper has missed its heartbeat for 1 ms and its partner has not (R342). -/
def keeperMissed (s : State) (k : Nat) : Bool :=
  let a := if k = 0 then s.ldg.k0At else s.ldg.k1At
  let b := if k = 0 then s.ldg.k1At else s.ldg.k0At
  match a, b with
  | some a, some b => decide (a + 1000 * usTicks ≤ s.tick) && decide (s.tick < b + 1000 * usTicks)
  | _, _ => false
def keeperRestart (s : State) (k : Nat) : State :=
  ((((s.alarm 0x60 0x090C).dumpStart 4 none 0xFFFFFFFF).keeperStart k).fwWatch).hangsPending
/-- A write of LDG_KEEP (R342, R345): a field that changes is a heartbeat. [log entries 44 DEDUCED, 65 DESIGN CHOICE] -/
def keepWrite (s : State) (k0 k1 sched win : Nat) : State :=
  let b0 := decide (s.fld LDG_KEEP_K0 ≠ k0); let b1 := decide (s.fld LDG_KEEP_K1 ≠ k1); let bs := decide (s.fld LDG_KEEP_SCHED ≠ sched)
  let s := (((s.setFld LDG_KEEP_K0 k0).setFld LDG_KEEP_K1 k1).setFld LDG_KEEP_SCHED sched).setFld LDG_KEEP_SCHED_WIN win
  let g := s.ldg
  let g := if b0 ∧ g.k0At.isSome then { g with k0At := some s.tick, k0Beat := true } else g
  let g := if b1 ∧ g.k1At.isSome then { g with k1At := some s.tick, k1Beat := true } else g
  let g := if bs then { g with schedAt := s.tick } else g
  ({ s with ldg := g, tray := { s.tray with heartbeat := (s.tray.heartbeat + b2n b0 + b2n b1) % 2 ^ 32 } }).hangsPending
/-- GO of a hand-over (R343): ignored and counted while one runs. -/
def fwGo (s : State) (flash : Bool) (lc : Nat) : State :=
  let s := (s.setFld LDG_FW_CTRL_FLASH (b2n flash)).setFld LDG_FW_CTRL_LC lc
  if s.fld LDG_FW_CTRL_STATE ≠ 0 then s.addSat LDG_FW_CTRL_GO_IGNORED 1
  else (s.setFld LDG_FW_CTRL_STATE 1).setFld LDG_FW_CTRL_GO 1
/-- The staged image has been verified or refused (R343 step 2, R426). -/
def fwVerified (s : State) (img : Option Img) : State :=
  if s.fld LDG_FW_CTRL_STATE ≠ 1 then s
  else match img with
  | none => (s.fwEnd).alarm 0x61 0x090D
  | some i => { s.setFld LDG_FW_CTRL_STATE 2 with gth := { s.gth with staged := some i }, ldg := { s.ldg with fwStep := 0, fwDue := false } }
/-- A frame start of the hand-over's line clock (R343): keeper 1 and then keeper 0 restart into the new image; healthy frames are
counted, and after 600 the old image is released, and with FLASH the flash rewritten and the counter advanced. -/
def fwFrame (s : State) : State :=
  let s := { s with ldg := { s.ldg with fwDue := false } }
  if s.fld LDG_FW_CTRL_STATE = 2 then
    if s.ldg.fwStep = 0 then { s.keeperStart 1 with ldg := { (s.keeperStart 1).ldg with fwStep := 1 } }
    else
      let s := (s.keeperStart 0).setFld LDG_FW_CTRL_STATE 3 |>.setFld LDG_FW_CTRL_HEALTH 0
      { s with gth := { s.gth with old := s.gth.img, img := s.gth.staged, staged := none }, ldg := { s.ldg with fwStep := 2 } }
  else if s.fld LDG_FW_CTRL_STATE = 3 ∧ s.ldg.k0Beat ∧ s.ldg.k1Beat then
    let n := min 600 (s.fld LDG_FW_CTRL_HEALTH + 1)
    let s := { s.setFld LDG_FW_CTRL_HEALTH n with ldg := { s.ldg with k0Beat := false, k1Beat := false } }
    if n < 600 then s
    else
      let s := { s.fwEnd with gth := { s.gth with old := none } }
      if s.on LDG_FW_CTRL_FLASH then
        match s.gth.img with
        | some i => (s.emit (.flash s.ldg.fwAddr i.len)).setFld GTH_STAT_COUNTER (max (s.fld GTH_STAT_COUNTER) i.rollback)
        | none => s
      else s
  else { s with ldg := { s.ldg with k0Beat := false, k1Beat := false } }
end State
end Sys2Proof.Machine
end

