-- ==== Sys2Proof/Machine/RegFind.lean ====
section
/-! DEFINITION. Finding the register that a register-space offset names (R8, R11). -/
namespace Sys2Proof.Machine
open Sys2Proof
/-- Bytes of a register. -/
def Reg.width (r : Reg) : Nat := if r.desc.wide then 8 else 4
/-- The instance of register `r` that an offset falls in, and whether in its high word. -/
def Reg.at_ (r : Reg) (off : Nat) : Option (Nat × Nat × Bool) :=
  let d := r.desc
  let b := d.page * 0x100000 + d.base
  if off < b ∨ d.page ≠ off / 0x100000 then none
  else
    let o := off - b
    let i := if d.n1 = 1 then 0 else o / d.s1
    let o := o - i * d.s1
    let j := if d.n2 = 1 then 0 else o / d.s2
    let o := o - j * d.s2
    if i < d.n1 ∧ j < d.n2 ∧ o < r.width ∧ ¬ (r = .ORG_HART_CTRL ∧ i < 2) ∧ ¬ (r = .ETH_PTP_CFG ∧ i = 0)
        ∧ ¬ ((r = .PLT_SLOT_IMAGE ∨ r = .PLT_SLOT_SAVE) ∧ j = 0) then
      some (i, j, decide (4 ≤ o)) else none
/-- A register, its instance, and the half of it. -/
structure RegAt where
  reg : Reg
  i : Nat
  j : Nat
  hi : Bool
  deriving DecidableEq, Repr
/-- The register at an offset. -/
def findReg (off : Nat) : Option RegAt :=
  Reg.all.findSome? (fun r => (r.at_ off).map (fun x => ⟨r, x.1, x.2.1, x.2.2⟩))
/-- Bits of the fields of a register that have one of some access codes. -/
def Reg.mask (r : Reg) (i : Nat) (ok : Acc → Bool) : Nat :=
  r.flds.foldl (fun m f => if ok (f.accAt i) then setBits m f.lo f.w (2 ^ f.w - 1) else m) 0
/-- A value with the bits of a mask replaced. -/
def blendBits (old new mask : Nat) : Nat := (old &&& (2 ^ 64 - 1 - mask)) ||| (new &&& mask)
end Sys2Proof.Machine
end

