-- ==== Sys2Proof/Machine/Warm.lean ====
section
/-! DEFINITION. What the reset levels 2 to 5 do (R317-R321, R326-R334, R470): engines, heads, partitions, the chip warm reset and
its survivor set, a level that outlasts its bound, and a cold reset. -/
namespace Sys2Proof.Machine
open Sys2Proof
namespace State

/-! Level 2: engines (R326, R328, R331, R334). -/

/-- The plots whose requests an engine of Belvedere holds. -/
def belPlots (s : State) (e : Nat) : List Nat :=
  let g := s.eng e
  ((((match g.cur with | some r => [r] | none => []) ++ g.queue
    ++ (s.bel.wait.filter (fun x => x.req.eng == e)).map (fun x => x.req)).filter (fun r => r.pacer.isNone)).map (fun r => r.plot)).eraseDups
/-- The reset of an engine begins: the plots it serves are suspended, its work is dropped, its banks or segments are wiped.
[log entry 197 DEDUCED] -/
def engineBegin (s : State) (e : Nat) : State :=
  let s := s.lvlBegin 2 e
  if e < 156 then
    let s := match s.engPlot e with
      | some p => if s.plotState p = 2 then s.suspendNow p else s
      | none => s
    (s.wipePav e).fenceStart (0, 0, 0)
  else if 256 ≤ e ∧ e < 264 then
    let s := (s.belPlots (e - 256)).foldl suspendNow s
    (s.belReset (e - 256)).fenceStart (0, 0, 0)
  else if 768 ≤ e ∧ e < 784 then s.dmaAbort (e - 768)
  else s
/-- Self-test maps the rows of a bank or segment that failed onto repair rows, four of which it has (R334); whether it has enough. -/
def repair (s : State) (b : Nat) : State × Bool :=
  let n := s.ldg.bad.get 0 b
  let used := s.ldg.repaired.get 0 b
  if n = 0 then (s, true)
  else
    ({ s with ldg := { s.ldg with bad := s.ldg.bad.set 0 b 0, repaired := s.ldg.repaired.set 0 b (min 4 (used + n)) } }, decide (used + n ≤ 4))
/-- Self-test of a pavilion's banks: one that cannot be repaired retires the pavilion (R331). -/
def repairPav (s : State) (v : Nat) : State :=
  let x := (List.range 24).foldl (fun (a : State × Bool) b => let y := a.1.repair (bankKey v b); (y.1, a.2 && y.2)) (s, true)
  if x.2 then x.1 else x.1.retire v
/-- Self-test of the frame store's segments, which a Belvedere engine reset runs: one that cannot be repaired is marked in SEGFAIL.
[log entries 198 PRESUMED, 199 DEDUCED] -/
def repairSegs (s : State) : State :=
  (s.ldg.bad.filter (fun x => decide (100000 ≤ x.1))).foldl (fun (a : State) (x : Nat × Nat) =>
    let y := a.repair x.1
    if y.2 then y.1 else y.1.addSat LDG_STAT_SEGFAIL 1) s
/-- The pacer reissues the requests of the current band that a hung warp unit lost (R328). -/
def reissue (s : State) (e : Nat) : State :=
  if e < 3 ∨ 6 < e then s
  else (List.range 16).foldl (fun s i =>
    let st := s.strm i
    match st.sels.head? with
    | some x => if s.strmState i = 2 ∧ bit st.heads (e - 3) then s.fallbackOn i x [e - 3] else s
    | none => s) s
/-- The reset of an engine is complete: with its self-test passed it returns to the state it held; a pavilion that fails it is
retired, and a second failure in a row escalates (R320). -/
def engineFinish (s : State) (e : Nat) (ok : Bool) : State :=
  let s := s.lvlEnd 2 e
  if ok then
    let s := { s with ldg := { s.ldg with fails := s.ldg.fails.erase e } }
    let s := if e < 156 then s.repairPav e else if 256 ≤ e ∧ e < 264 then s.repairSegs.reissue (e - 256) else s
    s.resumePlots
  else
    let s := if e < 156 then s.retire e else s
    if s.ldg.fails.contains e then ({ s with ldg := { s.ldg with fails := s.ldg.fails.erase e } }).escalate 2 e
    else ({ s with ldg := { s.ldg with fails := s.ldg.fails ++ [e] } }).ask 2 e

/-! Level 2: heads (R328). -/

/-- A hung head has reached its vertical blanking. -/
def headResetDue (s : State) (n : Nat) : Bool :=
  let h := s.head n
  h.faulted && s.headState n == 2 && s.reached n (s.lcFrameNo n, (setFor h (s.lcFrameNo n)).vactive, 0)
/-- The reset of a hung head: fetch and compositor restart, with timing, link and line clock kept; again within 64 frames the link
is retrained; a third time HEAD_FAULT is raised and the head keeps scanning. [log entry 200 DEDUCED] -/
def headReset (s : State) (n : Nat) : State :=
  let h := s.head n
  let f := s.lcFrameNo n
  let k := if h.resets ≠ 0 ∧ (f + 2 ^ 32 - h.resetF) % 2 ^ 32 ≤ 64 then h.resets + 1 else 1
  let h := { h with faulted := false, resets := k, resetF := f }
  let s := (s.setHead n h).setFld BST_HSTAT_PCRUN 0 n
  if k = 1 then (s.setHead n { h with buf := [], fetF := (f + 1) % 2 ^ 32, fetY := 0 }).enterHold n 1
  else if k = 2 then
    if h.cfg.dp then
      ((s.setHead n { h with training := true, failAt := none, settleDue := true, linkDrop := true }).setFld BST_HSTAT_LINKUP 0 n).showSettle n
    else s
  else s.alarm (0x5C + n) 0x090B

/-! Level 3 (R317, R320). -/

/-- The plot controller restarts: its running slot is suspended with its record saved, everything it holds is wiped, and the plot
passes to OFF. [log entry 196 DEDUCED] -/
def partitionDo (s : State) (p : Nat) : State :=
  let s := s.lvlBegin 3 p
  let s := { s with ldg := { s.ldg with l3At := s.ldg.l3At.set 0 p (s.tick + 1) } }
  let g0 := s.fld PLT_GEN_GEN p
  let s := s.suspendNow p
  let s := if s.fld PLT_GEN_GEN p = g0 then ((s.advanceGen p).wipePlot p).dropProgs p else s
  let s := (s.setFnState (.plot (Fin.ofNat 32 p)) 0).setFnPending (.plot (Fin.ofNat 32 p)) false
  s.setPlot p { s.plot p with act := .idle }
/-- A level 3 reset begins; a second one of a plot within 1 s escalates. -/
def partitionBegin (s : State) (p : Nat) : State :=
  let last := s.ldg.l3At.get 0 p
  if last ≠ 0 ∧ s.tick ≤ last - 1 + 1000000 * usTicks then
    ({ s with ldg := { s.ldg with want := s.ldg.want.erase (3, p) } }).escalate 3 p
  else s.partitionDo p
/-- A level 3 reset is complete: with EN = 1 the plot starts at once. -/
def partitionFinish (s : State) (p : Nat) (ok : Bool) : State :=
  let s := s.lvlEnd 3 p
  if ok then
    let s := s.resumePlots
    if s.on PLT_CTRL_EN p ∧ s.plotState p = 0 then plotWork (s.setFnState (.plot (Fin.ofNat 32 p)) 1, .start) p else s
  else s.escalate 3 p

/-! Level 4 (R317, R318, R470). -/

end State
/-- Whether a register outlives level 4 unchanged (R318, R448): the pages of survivors, and single registers of other pages. -/
def survives (r : Reg) (i : Nat) : Bool :=
  match r with
  | .PTR_CTX_CTRL | .PTR_CTX_FREC | .PTR_CTX_PCYC | .PTR_CTX_BCYC | .PTR_SPARE_ROW | .PLT_GEN | .PWR_STAT | .PCI_LINK => true
  | .PWR_DOM_CTRL => decide (156 ≤ i ∧ ¬ (172 ≤ i ∧ i ≤ 181))
  | .ARC_STG => false
  | .ETH_RX_CFG | .ETH_RX_GEO | .ETH_RX_DST_A | .ETH_RX_DST_B | .ETH_TX_CFG | .ETH_TX_GEO | .ETH_TX_BUF | .ETH_TX_RING
  | .ETH_TX_DST => false
  | r => [4, 6, 7, 8, 9, 12, 13, 15].contains r.desc.page
namespace State
/-- The registers after level 4: survivors keep their values, the others their RWS fields. -/
def warmRegs (s : State) : Tbl (BitVec 64) :=
  s.regs.filterMap (fun (x : Nat × BitVec 64) =>
    match findReg x.1 with
    | none => some x
    | some q =>
      if survives q.reg q.i then some x
      else
        let rst := q.reg.reset q.i
        let v := blendBits rst x.2.toNat (q.reg.mask q.i (fun (a : Acc) => decide (a = .rws)))
        if v = rst then none else some (x.1, BitVec.ofNat 64 v))
/-- What R470 records of a context's running program: plot, stage, PC and step of the conductor of the lowest plot it holds.
[log entry 40 DEDUCED] -/
def warmFrec (s : State) (c : Nat) : Nat × Nat × Nat × Nat :=
  match (List.range 32).find? (fun p => (s.running p).isSome && s.plotCtx p == c) with
  | some p => (p, 255, (s.prog (condKey p)).pc, (s.prog (condKey p)).step)
  | none => (0, 0, 0, 0)
/-- Level 4 wipes all SRAM: the 156 pavilions and the frame store. -/
def warmSram (s : State) : State :=
  let keys := (List.range (24 * 156)) ++ (List.range 384).map segKey
  { s with mem := s.mem.filter (fun x => decide (x.1 < pavBase ∨ regBase ≤ x.1)),
           par := { s.par with full := [], mark := [], hdr := [],
                               tag := keys.foldl (fun t k => t.set 0 k ((t.get 0 k + 1) % 4096)) s.par.tag } }
/-- What level 4 leaves of the fabric, the streams, the endpoint, the media endpoints and the links' requests. [log entry 287 DEDUCED] -/
def warmBlocks (s : State) : State :=
  let ws := s.par.wkt.map (fun (x : Nat × Wicket) => (x.1, ({ gen := (x.2.gen + 1) % 4096 } : Wicket)))
  { s with
    par := { tag := s.par.tag, ctx := s.par.ctx, wkt := ws },
    bel := {},
    str := (s.str.filter (fun (x : Nat × Strm) => x.2.hold.isSome)).map (fun (x : Nat × Strm) => (x.1, ({ hold := x.2.hold } : Strm))),
    pci := { s.pci with ch := [], spt := [] },
    eth := { s.eth with rx := [], tx := [] },
    zhl := { s.zhl with haloRetry := [], arrivals := [], rels := [] },
    arc := { s.arc with stg := [], stgPoison := [], stgAt := [] },
    org := { s.org with stores := s.org.stores.filter (fun x => decide (x.core < 2)), l2 := s.org.l2.filter (fun x => decide (x.1 / 2 ^ 40 < 2)),
                          l3 := [], pc := [] },
    hw := [], sw := [],
    ldg := { s.ldg with recs := [], waiting := [], beat := [], affected := [], want := [] },
    latch := [], heldLow := [] }
/-- A chip warm reset: DMA descriptors end, every context but 0 is torn down, no sealed range
survives (R432), everything outside the survivor set is wiped, every
tag and PLT_GEN advances, and heads enter hold mode. [log entry 201 DEDUCED] -/
def warmDo (s : State) : State :=
  let s := { s with ldg := { s.ldg with lvl := [], l4At := s.tick + 1 } }.lvlBegin 4 0
  let s := (List.range 4).foldl (fun s n => s.enterHold n 3) s
  let s := (List.range 32).foldl charge s
  let s := (List.range 16).foldl dmaAbort s
  let s := (List.range 1024).foldl (fun (s : State) c =>
    if s.ctxState c = 1 then let r := s.warmFrec c; s.tearStart c 0x0911 r.1 r.2.1 r.2.2.1 r.2.2.2 else s) s
  let s := ((List.range 8).foldl belAbort s).sealRelease (fun c => c == 0)
  let s := s.warmSram.warmBlocks
  let s := { s with regs := s.warmRegs }
  let s := (List.range 32).foldl advanceGen s
  let s := (List.range 16).foldl showFree s
  s.showReplay
/-- Level 4 begins; a second one within 60 s escalates (R320). -/
def warmBegin (s : State) : State :=
  let last := s.ldg.l4At
  if last ≠ 0 ∧ s.tick ≤ last - 1 + 60000000 * usTicks then
    ({ s with ldg := { s.ldg with want := s.ldg.want.erase (4, 0) } }).escalate 4 0
  else s.warmDo
/-- Level 4 is complete: records raised during it are written (R448), and released cores 2 to 15 start at their reset vector
(R418). -/
def warmFinish (s : State) : State :=
  let s := (s.lvlEnd 4 0).logFlush.hartsShow
  { s with ldg := { s.ldg with schedAt := s.tick } }

/-! A level that outlasts its bound (R320, Table 13.2). -/

/-- Microseconds that a level may take: level 3 with one load. -/
def lvlBound (l : Nat) : Nat := if l = 2 then 20 else if l = 3 then 140 else 2000
/-- The engine whose reset level 1 escalates to: the stage's pavilion of FREC, or its plot's controller. [log entry 195 DEDUCED] -/
def tearEngine (s : State) (c : Nat) : Nat × Nat :=
  let p := s.fld PTR_CTX_FREC_PLOT c
  match s.stagePhys p (s.fld PTR_CTX_FREC_STAGE c) with
  | some v => (2, v)
  | none => (3, p)
/-- LEVEL_TIMEOUT: a level in progress past its bound escalates. -/
def levelTimeout (s : State) (l : Nat) : State :=
  if l = 1 then
    match (List.range 1024).find? (fun c => (s.ctx c).tearStep == 2 && decide ((s.ctx c).drainAt + 8 * usTicks ≤ s.tick)) with
    | some c =>
      let (l', t) := s.tearEngine c
      ((s.setCtx c { s.ctx c with drainAt := s.tick }).logEscalate 1 l' c).ask l' t
    | none => s
  else
    match s.ldg.lvl.find? (fun x => x.1 == l && decide (x.2.2 + lvlBound l * usTicks ≤ s.tick)) with
    | some x => (s.lvlEnd l x.2.1).escalate l x.2.1
    | none => s

/-! Level 5 and cold reset (R317, R319, R460, R461). -/

/-- A cold reset, as at power-on: State.reset, but for what OTP holds (R427), the level on PERST_N, and what the model keeps of the
commands that wait, the outputs and the free values used. The device stays in reset until its boot starts. -/
def coldReset (s : State) : State :=
  let t := State.reset
  let t := { t with
    pending := s.pending, out := s.out, freeN := s.freeN,
    pci := { t.pci with perst := s.pci.perst },
    gth := { t.gth with held := true, porst := false, lowRail := s.gth.lowRail, rootKey := s.gth.rootKey, identKey := s.gth.identKey,
                        agreeKey := s.gth.agreeKey } }
  ((t.setFld GTH_STAT_LC (s.fld GTH_STAT_LC)).setFld GTH_STAT_COUNTER (s.fld GTH_STAT_COUNTER)).setFld GTH_STAT_IDENT (b2n (s.gth.identKey ≠ 0))
end State
end Sys2Proof.Machine
end

