-- ==== Sys2Proof/Machine/Gatehouse.lean ====
section
/-! DEFINITION. The Gatehouse (R414-R436): images and their checks, the boot and its recovery, measurements, keys and sealed ranges, the
life cycle, debug, and the commands of its two mailboxes. -/
namespace Sys2Proof.Machine
open Sys2Proof
/-! Images (R421, R422). -/

/-- What the header of an image holds (Table 17.3). -/
def imgHeader (b : List Byte) : Img :=
  let f := fun (o n : Nat) => leNat ((b.drop o).take n)
  ⟨f 8 8, f 0x10 4, f 0x18 8, f 0x20 4, f 0x24 4, f 0x28 8, f 0x30 8, []⟩
/-- SHA-384 of the signed message of an image (R421). -/
def imgDigest (b : List Byte) : List Byte := sha384 (b.take 0x100 ++ b.drop 0x200)
/-- The first check of R422, on a header. [log entry 211 DEDUCED] -/
def imgFormat (b : List Byte) (usable : Nat) : Bool :=
  let i := imgHeader b
  decide (0x200 ≤ b.length ∧ leNat (b.take 4) = 0x56584C44 ∧ leNat ((b.drop 4).take 2) = 1 ∧ leNat ((b.drop 6).take 2) = 0x200
    ∧ i.len % 64 = 0 ∧ 0x1000 ≤ i.len ∧ i.len ≤ 0x1000000 ∧ i.rollback ≤ 64
    ∧ i.initOff % 64 = 0 ∧ 0x200 ≤ i.initOff ∧ 64 ≤ i.initLen ∧ i.initLen ≤ 0x80000 ∧ i.initOff + i.initLen ≤ i.len
    ∧ i.base + i.len ≤ usable)
namespace State
/-- The checks of R422 on a whole image, in their order. -/
def imgCheck (s : State) (b : List Byte) : Except Nat Img :=
  let i := imgHeader b
  let pub := (b.drop 0x40).take 97
  let d := imgDigest b
  if ¬ imgFormat b s.usable then .error 0x0D01
  else if s.fld GTH_STAT_LC ≠ 0 ∧ sha384 pub ≠ s.gth.rootKey then .error 0x0D02
  else if ¬ ecdsaOk pub ((b.drop 0x100).take 96) d then .error 0x0D03
  else if i.rollback < s.fld GTH_STAT_COUNTER then .error 0x0D04
  else .ok { i with digest := d }

/-! Measurement (R428) and mailboxes (R434). -/

/-- The 48 bytes of measurement register `i`. -/
def mrBytes (s : State) (i : Nat) : List Byte := (List.range 6).flatMap (fun j => leBytes 8 (s.rd .GTH_MR i j))
/-- Extend a measurement register with 48 bytes. -/
def mrExtend (s : State) (i : Nat) (d : List Byte) : State :=
  let x := sha384 (s.mrBytes i ++ d)
  (List.range 6).foldl (fun s j => s.wr .GTH_MR (leNat ((x.drop (8 * j)).take 8)) i j) s
/-- Device address of a mailbox's buffer (R436). [log entry 222 DESIGN CHOICE] -/
def mboxBuf (m : Nat) : Nat := regBase + 0xD01800 + 0x1000 * m
/-- A command of mailbox `m` completes with a code, 0 for success (R434, R364). -/
def mboxDone (s : State) (m code : Nat) : State :=
  (((s.setFld GTH_MBOX_STAT_BUSY 0 m).raise GTH_MBOX_STAT_DONE m).setFld GTH_MBOX_STAT_RESULT code m).raiseMsi (36 + m)
/-- A command completes with a result in its mailbox's buffer. -/
def mboxAnswer (s : State) (m : Nat) (bs : List Byte) : State := (s.putBytes (mboxBuf m) bs).mboxDone m 0
/-- SHA-384 of the identity public key (Table 17.6). -/
def idHash (s : State) : List Byte := sha384 (pubKey s.gth.identKey)
def hasIdent (s : State) : Bool := s.gth.identKey != 0

/-! Boot and recovery (R419-R425). -/

/-- Set RESULT of GTH_STAT, the low byte of the last image code. -/
def imgCode (s : State) (code : Nat) : State := s.setFld GTH_STAT_RESULT (code % 256) 0
/-- A boot fails (R423, R425): the keepers are held in reset, BOOT_FAIL is raised, and recovery opens both sources for a pass 1. -/
def bootFail (s : State) (code : Nat) : State :=
  let s := { s with
    gth := { s.gth with phase := 1, buf := [], bufS := [], owner := 0, img := none, recov := true },
    ldg := { s.ldg with k0At := none, k1At := none } }
  (((s.imgCode code).setFld GTH_STAT_RECOVERY 1).setFld GTH_MBOX_STAT_PHASE 1 0).alarm 0x90 0x0D06
/-- Pass 1 has the whole image: it is checked, and the keepers are released into INIT.
[log entries 213 DESIGN CHOICE, 223 DEDUCED, 225 DEDUCED] -/
def bootPass1 (s : State) (b : List Byte) : State :=
  match s.imgCheck b with
  | .error e => s.bootFail e
  | .ok i =>
    let s := { s with gth := { s.gth with phase := 2, img := some i } }
    ((((s.imgCode 0).setFld GTH_MBOX_STAT_PHASE 0 0).keeperStart 0).keeperStart 1)
/-- The fill of all fitted LPDDR with zero, every guard off (R423 step 4). -/
def wipeLpddr (s : State) : State :=
  { s with mem := s.mem.filter (fun x => decide (64 * 2 ^ 30 ≤ x.1)), poison := [], arc := { s.arc with writeBack := [] },
           org := { s.org with l2 := [], l3 := [] } }
/-- Pass 2 has the whole image from source `via` (0 flash, 1 PCIe, 2 SMBus): it is loaded and measured, the keepers jump to
MAIN_ENTRY, and the endpoint is released; an image other than pass 1's fails. [log entry 212 DEDUCED] -/
def bootPass2 (s : State) (b : List Byte) (via : Nat) : State :=
  match s.gth.img with
  | none => s
  | some i =>
    if imgDigest b ≠ i.digest then (s.mboxDone 1 0x0D05).bootFail 0x0D05
    else
      let s := (s.lpRaw i.base b).mrExtend 1 i.digest
      let s := { s with gth := { s.gth with phase := 4, buf := [], bufS := [], owner := 0 }, pci := { s.pci with released := true } }
      (((s.setFld GTH_STAT_BOOTSRC via).setFld GTH_STAT_RECOVERY 0).setFld GTH_MBOX_STAT_PHASE 0 0).mboxDone 1 0
/-- Bytes so far from a source: 1 the push window, 2 SMBus. -/
def passBuf (s : State) (via : Nat) : List Byte := if via = 2 then s.gth.bufS else s.gth.buf
/-- A source may deliver: a pass runs, and no other source owns it (R425). -/
def passOpen (s : State) (via : Nat) : Bool :=
  (s.gth.phase == 1 || s.gth.phase == 3) && (s.gth.owner == 0 || s.gth.owner == via)
/-- Bytes of an image arrive from a source (R424, R425): the first to deliver a header owns the passes, and a pass ends with the
last byte of IMG_LEN. [log entries 210 DEDUCED, 224 DEDUCED] -/
def passBytes (s : State) (via : Nat) (bs : List Byte) : State :=
  let b := s.passBuf via ++ bs
  let s := { s with gth := if via = 2 then { s.gth with bufS := b } else { s.gth with buf := b } }
  if s.gth.phase = 1 then
    if b.length < 0x200 then s
    else if ¬ imgFormat b s.usable then s.bootFail 0x0D01
    else
      let s := { s with gth := { s.gth with owner := via } }
      let s := if via = 2 then s.setFld GTH_MBOX_STAT_PHASE 0 0 else s
      if b.length < (imgHeader b).len then s
      else ({ s with gth := { s.gth with buf := [], bufS := [] } }).bootPass1 (b.take (imgHeader b).len)
  else match s.gth.img with
  | some i => if b.length < i.len then s else s.bootPass2 (b.take i.len) via
  | none => s
/-- The boot starts with the straps `src`, `addr` and TEST_EN sampled; `flash` is what the flash holds (R419, R423).
[log entry 227 DEDUCED] -/
def bootBegin (s : State) (src addr : Nat) (test : Bool) (flash : List Byte) : State :=
  let src := if src = 3 then 0 else src
  let s := { s with gth := { s.gth with held := false, src := src }, tray := { s.tray with addrSel := addr } }
  let s := s.mrExtend 0 (sha384 (Config.romVersion ++ leBytes 1 (s.fld GTH_STAT_LC) ++ leBytes 1 (s.fld GTH_STAT_COUNTER) ++ leBytes 1 src))
  if test ∨ s.fld GTH_STAT_LC = 4 then { s with gth := { s.gth with phase := 5 } }
  else
    let s := { s with gth := { s.gth with phase := 1 } }
    if src = 0 then s.bootPass1 (flash.take (imgHeader flash).len)
    else if src = 1 then s.setFld GTH_MBOX_STAT_PHASE 1 0
    else (({ s with gth := { s.gth with recov := true } }).setFld GTH_STAT_RECOVERY 1).setFld GTH_MBOX_STAT_PHASE 1 0
/-- PORST_N has risen with every rail good (R419, R423, R462): the device leaves reset, the straps are sampled and the boot starts.
[log entry 228 DESIGN CHOICE] -/
def bootStart (s : State) (src addr : Nat) (test : Bool) (flash : List Byte) : State :=
  let t := s.bootBegin src addr test flash
  { t with gth := { t.gth with held := false } }
/-- COPY of a keeper in INIT (R423): LPDDR is wiped, and pass 2 reads the image again; PCIe and SMBus send it, and PHASE asks the host for
its own (R424). -/
def bootCopy (s : State) (flash : List Byte) : State :=
  let s := s.wipeLpddr
  let s := { s with gth := { s.gth with phase := 3, buf := [], bufS := [] } }
  if s.gth.owner = 0 then s.bootPass2 (flash.take (imgHeader flash).len) 0
  else if s.gth.owner = 1 then s.setFld GTH_MBOX_STAT_PHASE 2 0
  else s

/-! Model keys and sealed ranges (R430-R432). -/

/-- MODEL_KEY: the wrapped key of a blob goes into the lowest free slot. [log entry 219 DEDUCED] -/
def modelKey (s : State) (m ctx : Nat) (blob : List Byte) : State :=
  let shared := cvMul s.gth.agreeKey (readPoint (blob.take 97))
  let kek := hkdf s.idHash (beBytes 48 (cvX shared)) [0x4D, 0x4B, 0x45, 0x59] 32
  let key := gcmOpen kek ((blob.drop 97).take 12) [] ((blob.drop 109).take 32) ((blob.drop 141).take 16)
  if ¬ s.hasIdent ∨ blob.length ≠ 157 ∨ shared.isNone then s.mboxDone m 0x0D0A
  else match key with
  | none => s.mboxDone m 0x0D0A
  | some k =>
    match (List.range 16).find? (fun i => (s.gth.slots.get none i).isNone) with
    | none => s.mboxDone m 0x0D0B
    | some i => ({ s with gth := { s.gth with slots := s.gth.slots.set none i (some ⟨ctx, k⟩) } }).mboxDone m 0
/-- DECRYPT starts: its destination becomes a sealed range. [log entry 220 DEDUCED] -/
def decryptStart (s : State) (m slot src dst len : Nat) (iv aad tag : List Byte) : State :=
  match s.gth.slots.get none slot with
  | none => s.mboxDone m 0x0D07
  | some k =>
    if len % 64 ≠ 0 ∨ len = 0 ∨ 64 < aad.length ∨ s.usable < dst + len then s.mboxDone m 0x0D07
    else match (List.range 64).find? (fun i => (s.gth.sealed.get none i).isNone) with
    | none => s.mboxDone m 0x0D0B
    | some i =>
      let (ct, s) := s.lpSee src len none
      let t := s.gth.sealed.set none i (some ⟨dst, len, k.ctx, slot, false⟩)
      { s with gth := { s.gth with sealed := t, decr := some ⟨m, i, dst, gcmOpen k.key iv aad ct tag, len⟩ } }.setFld GTH_STAT_SEALED t.length
/-- DECRYPT ends: with a matching tag its context's LOADs read the range, else the range is wiped and released. A range that a
teardown has released meanwhile stays released. -/
def decryptEnd (s : State) (d : Decr) : State :=
  let s := { s with gth := { s.gth with decr := none } }
  match s.gth.sealed.get none d.range with
  | none => s.mboxDone d.mbox (if d.plain.isSome then 0 else 0x0D0A)
  | some r =>
    match d.plain with
    | some p =>
      let s := s.lpRaw r.base p
      ({ s with gth := { s.gth with sealed := s.gth.sealed.set none d.range (some { r with opened := true }) } }).mboxDone d.mbox 0
    | none =>
      let t := s.gth.sealed.set none d.range none
      (({ s.lpWipe r.base r.len with gth := { s.gth with sealed := t } }).setFld GTH_STAT_SEALED t.length).mboxDone d.mbox 0x0D0A

/-! The life cycle and debug (R427, R433). -/

/-- Whether a token is the signature, by the key whose hash is in OTP, over SHA-384 of a message: public key, then r and s. -/
def rootSigned (s : State) (token msg : List Byte) : Bool :=
  !s.gth.rootKey.isEmpty && sha384 (token.take 97) == s.gth.rootKey && ecdsaOk (token.take 97) (token.drop 97) (sha384 msg)
/-- The current debug challenge; an absent one is no message that a token can sign. [log entry 215 DESIGN CHOICE] -/
def lcTokenOk (s : State) (target : Nat) (token : List Byte) : Bool :=
  if s.fld GTH_STAT_LC = 0 ∧ target = 1 then token.length == 48
  else match s.gth.challenge with
  | some c => s.rootSigned token (leBytes 1 target ++ leBytes 4 (s.rd .GLB_DEVID) ++ c)
  | none => false
/-- LC_ADVANCE: the state moves to the next one or to SCRAPPED, the actions of Table 17.4 are taken, everything is wiped, and the
device resets. [log entry 216 DEDUCED] -/
def lifeAdvance (s : State) (m target : Nat) (token : List Byte) : State :=
  let lc := s.fld GTH_STAT_LC
  if ¬ (lc < 4 ∧ (target = lc + 1 ∨ target = 4)) ∨ ¬ s.lcTokenOk target token then s.mboxDone m 0x0D08
  else
    let s := s.setFld GTH_STAT_LC target
    let s := if target = 1 then
        let a := Config.free s.freeN; let b := Config.free (s.freeN + 1)
        { s with freeN := s.freeN + 2, gth := { s.gth with rootKey := token, identKey := scalarOf a, agreeKey := scalarOf b } }
      else if target = 3 ∨ target = 4 then { s with gth := { s.gth with identKey := 0, agreeKey := 0 } }
      else s
    let t := s.coldReset
    { t with gth := { t.gth with held := false, porst := s.gth.porst } }
/-- DEBUG_CHALLENGE: 32 bytes of the TRNG. [log entry 217 DESIGN CHOICE] -/
def newChallenge (s : State) : State :=
  let (c, s) := s.freeBytes 32
  { s with gth := { s.gth with challenge := some c } }
/-- The contexts that hold a slot or a sealed range. -/
def sealHolders (s : State) : List Nat :=
  (s.gth.slots.filterMap (fun (x : Nat × Option KeySlot) => x.2.map (fun k => k.ctx))
    ++ s.gth.sealed.filterMap (fun (x : Nat × Option Sealed) => x.2.map (fun r => r.ctx))).eraseDups
/-- DEBUG_UNLOCK: its signature is checked, and the contexts that hold a slot or a sealed range are torn down. [log entry 226 DEDUCED] -/
def unlockStart (s : State) (m scope : Nat) (sig : List Byte) : State :=
  let ok : Bool := match s.gth.challenge with
    | some c => s.hasIdent && s.rootSigned sig (c ++ s.idHash ++ leBytes 1 scope)
    | none => false
  let s := s.newChallenge
  if ok then
    let s := s.sealHolders.foldl (fun s c => s.tearStart c 0x0D0D 0 0 0 0) s
    { s with gth := { s.gth with unlock := some (m, scope) } }
  else s.mboxDone m 0x0D08
/-- An unlock whose teardowns have reached FENCING releases what is left, extends MR3 and opens its scope. [log entry 214 DEDUCED] -/
def unlockStep (s : State) : State :=
  match s.gth.unlock with
  | none => s
  | some (m, scope) =>
    if s.sealHolders.any (fun c => s.ctxState c == 2) then s
    else
      let s := (s.sealRelease (fun _ => true)).mrExtend 3 (sha384 (leBytes 1 scope))
      let s := { s with gth := { s.gth with unlock := none, scope := s.gth.scope ||| scope } }
      ((s.setFld GTH_STAT_DEBUG 1).logFree 0x0D0D 13 0 0xFFFF).mboxDone m 0

/-! The commands (R434). -/

/-- QUOTE (R429): the record of Table 17.6; the nonce of its signature is the TRNG's. [log entry 218 DEDUCED] -/
def quote (s : State) (m : Nat) (nonce : List Byte) (mask : Nat) : State :=
  let flags := s.fld GTH_STAT_DEBUG + 2 * b2n s.gth.recov
  let body := leBytes 4 0x51554F54 ++ leBytes 2 1 ++ leBytes 1 (s.fld GTH_STAT_LC) ++ leBytes 1 flags ++ leBytes 4 (s.rd .GLB_DEVID)
    ++ leBytes 4 (s.fld GTH_STAT_COUNTER) ++ s.idHash ++ (nonce ++ List.replicate 32 0).take 32 ++ leBytes 8 s.stamp ++ leBytes 1 mask
    ++ List.replicate 7 0 ++ ((List.range 8).filter (fun i => bit mask i)).flatMap s.mrBytes
  let k := scalarOf (Config.free s.freeN)
  ({ s with freeN := s.freeN + 1 }).mboxAnswer m (body ++ ecdsaSign s.gth.identKey k (sha384 body))
/-- VERIFY of a hand-over (R343, R426): the staged image is checked, and measured in MR2 when it passes. -/
def verifyStaged (s : State) (m : Nat) : State :=
  let a := s.fld LDG_FW_ADDR_ADDR * 64
  let h := s.lpBytes a 0x200
  let r := if imgFormat h s.usable then s.imgCheck (s.lpBytes a (imgHeader h).len) else .error 0x0D01
  let s := { s with ldg := { s.ldg with fwAddr := a } }
  match r with
  | .ok i => (((s.mrExtend 2 i.digest).imgCode 0).fwVerified (some i)).mboxDone m 0
  | .error e => ((s.imgCode e).fwVerified none).mboxDone m e
/-- ROLLBACK_ADVANCE (R426): refused beyond the running image's level; the counter never falls. -/
def rollbackTo (s : State) (m level : Nat) : State :=
  match s.gth.img with
  | some i => if level ≤ i.rollback then (s.setFld GTH_STAT_COUNTER (max (s.fld GTH_STAT_COUNTER) level)).mboxDone m 0 else s.mboxDone m 0x0D07
  | none => s.mboxDone m 0x0D07
/-- Whether a mailbox, and for mailbox 1 the calling core, may give a command (Table 17.7, Table 17.5). [log entry 221 DEDUCED] -/
def gthAllowed (s : State) (m core : Nat) : MCmd → Bool
  | .quote _ _ | .identity | .lcAdvance _ _ | .challenge | .unlock _ _ => true
  | .extend i _ => m == 1 && (((i == 4 || i == 5) && core < 2) || i == 6 || i == 7)
  | .modelKey _ _ | .decrypt _ _ _ _ _ _ _ | .unseal _ => m == 1
  | .rollback _ | .verify => m == 1 && core < 2
  | .copy _ => m == 1 && core < 2 && s.gth.phase == 2 && s.trained
  | .bad _ => false
/-- Run a command. -/
def gthRun (s : State) (m core : Nat) (c : MCmd) : State :=
  if ¬ s.gthAllowed m core c then s.mboxDone m 0x0D07
  else match c with
  | .quote nonce mask => if s.hasIdent then s.quote m nonce mask else s.mboxDone m 0x0D09
  | .identity =>
    if s.hasIdent then s.mboxAnswer m (pubKey s.gth.identKey ++ pubKey s.gth.agreeKey) else s.mboxDone m 0x0D09
  | .extend i d => (s.mrExtend i ((d ++ List.replicate 48 0).take 48)).mboxDone m 0
  | .modelKey ctx blob => s.modelKey m ctx blob
  | .decrypt slot src dst len iv aad tag => s.decryptStart m slot src dst len iv aad tag
  | .unseal ctx => (s.sealRelease (fun c => c == ctx)).mboxDone m 0
  | .lcAdvance target token => s.lifeAdvance m target token
  | .challenge => let t := s.newChallenge; t.mboxAnswer m (t.gth.challenge.getD [])
  | .unlock scope sig => (s.unlockStart m scope sig).unlockStep
  | .rollback level => s.rollbackTo m level
  | .verify => s.verifyStaged m
  | .copy flash => s.bootCopy flash
  | .bad code => s.mboxDone m code
/-- The Gatehouse is running a command that takes its time. -/
def gthBusy (s : State) : Bool := s.gth.decr.isSome || s.gth.unlock.isSome || s.gth.phase == 3
/-- The command numbers of Table 17.7. -/
def cmdNo : MCmd → Nat
  | .quote _ _ => 1 | .identity => 2 | .extend _ _ => 3 | .modelKey _ _ => 4 | .decrypt _ _ _ _ _ _ _ => 5 | .unseal _ => 6
  | .lcAdvance _ _ => 7 | .challenge => 8 | .unlock _ _ => 9 | .rollback _ => 10 | .verify => 11 | .copy _ => 12 | .bad n => n
/-- GO of mailbox `m`, by `core` on mailbox 1: ignored while its BUSY is 1, and held while the Gatehouse runs the other's command.
[log entry 278 DESIGN CHOICE] -/
def gthGo (s : State) (m core : Nat) (c : MCmd) : State :=
  let s := s.setFld GTH_MBOX_CMD_CMD (cmdNo c) m
  if s.on GTH_MBOX_STAT_BUSY m then s
  else
    let s := s.setFld GTH_MBOX_STAT_BUSY 1 m
    if s.gthBusy then { s with gth := { s.gth with waiting := s.gth.waiting ++ [(m, core, c)] } } else s.gthRun m core c
/-- The Gatehouse takes the commands that wait, mailbox 1 first, once it is free. [log entry 278 DESIGN CHOICE] -/
def gthNext : Nat → State → State
  | 0, s => s
  | n + 1, s =>
    if s.gthBusy then s
    else
      let ws := s.gth.waiting.filter (fun x => x.1 == 1) ++ s.gth.waiting.filter (fun x => x.1 != 1)
      match ws with
      | [] => s
      | (m, core, c) :: r => gthNext n (({ s with gth := { s.gth with waiting := r } }).gthRun m core c)
end State
end Sys2Proof.Machine
end

