-- ==== Sys2Proof/Machine/GthCmds.lean ====
section
/-! DEFINITION. The commands of the Gatehouse (R418-R434), the resets that start a boot, and the end of a teardown's drain, which a debug
unlock waits for. A mailbox command is a GO with its arguments: `m` is the mailbox, `core` the caller on mailbox 1. -/
namespace Sys2Proof.Machine
open Sys2Proof
/-- A GO, after which the Gatehouse takes what waits. -/
def State.gthCmd (s : State) (m : Fin 2) (core : Fin 16) (c : MCmd) : State := State.gthNext 2 (s.gthGo m core c)
/-- A teardown goes on past its drain (R284), and with it a debug unlock that waits for it (R433). -/
def State.tearGoOn (s : State) (c : Nat) : State := State.gthNext 2 (s.tearFinish c).unlockStep
/-- TEARDOWN_DRAIN_DONE (R284, R433): the context's writes have drained. -/
def execTeardownDrainDone (c : BitVec 10) (s : State) : Outc :=
  done s (if (s.ctx c.toNat).tearStep = 2 then s.tearGoOn c.toNat else s)
/-- DRAIN_TIMEOUT (R284 step 3): a write is still unacknowledged 4 µs after step 2: the alarm, and the teardown goes on. -/
def execDrainTimeout (c : BitVec 10) (s : State) : Outc :=
  done s (
    let x := s.ctx c.toNat
    if x.tearStep = 2 ∧ x.drainAt + 4 * usTicks ≤ s.tick then
      ((s.setCtx c.toNat { x with timedOut := true }).alarm 0x38 0x0708).tearGoOn c.toNat
    else s)
/-- SUPPLY_DETECTOR (R461): a rail falls below its threshold; or, with none below for 1 ms, the detector releases, and with PORST_N high
the boot starts with the straps of that moment. -/
def execSupplyDetector (rel : Option (Fin 4 × Fin 4 × Bool × List Byte)) (s : State) : Outc :=
  doneAny s (match rel with
    | none => let t := s.coldReset; { t with gth := { t.gth with lowRail := true, porst := s.gth.porst } }
    | some (src, addr, test, flash) =>
      if ¬ s.gth.lowRail then s
      else
        let s := { s with gth := { s.gth with lowRail := false } }
        if s.gth.porst then s.bootStart src addr test flash else s)
/-- PORST_RELEASE (R419, R423, R462): PORST_N rises; the supply detector may still hold the device. -/
def execPorstRelease (src addr : Fin 4) (test : Bool) (flash : List Byte) (s : State) : Outc :=
  doneAny s (
    if s.gth.held ∨ s.gth.phase = 0 then
      let s := { s with gth := { s.gth with porst := true } }
      if s.gth.lowRail then s else s.bootStart src addr test flash
    else s)
/-- PUSH_WRITE (R424): bytes at the push window; dropped while PHASE is 0. -/
def execPushWrite (bs : List Byte) (s : State) : Outc :=
  done s (
    if s.pci.up ∧ ¬ s.pci.perst ∧ s.fld GTH_MBOX_STAT_PHASE 0 ≠ 0 ∧ s.passOpen 1 then State.gthNext 2 (s.passBytes 1 bs) else s)
/-- RECOVERY (R425, R366): NAKed and ignored with a wrong PEC, with other than 1 to 28 bytes, where recovery is not open or another
source owns it, or at another offset than the next. -/
def execRecovery (off : BitVec 32) (bs : List Byte) (pec : Bool) (s : State) : Outc :=
  done s (
    if ¬ pec then (s.emit .nak).bump 0x0A07
    else if ¬ s.on GTH_STAT_RECOVERY ∨ ¬ s.passOpen 2 ∨ bs.isEmpty ∨ 28 < bs.length ∨ off.toNat ≠ s.gth.bufS.length then s.emit .nak
    else State.gthNext 2 (s.passBytes 2 bs))
/-- HART_RELEASE (R418): a keeper sets RELEASE of hart `h`; harts 0 and 1 have none. -/
def execHartRelease (h : Fin 16) (s : State) : Outc :=
  done s (if 2 ≤ h.val then (s.setFld ORG_HART_CTRL_RELEASE 1 h).hartsShow else s)
/-- QUOTE (R429). -/
def execQuote (m : Fin 2) (core : Fin 16) (nonce : BitVec 256) (mask : BitVec 8) (s : State) : Outc :=
  done s (s.gthCmd m core (.quote (beBytes 32 nonce.toNat) mask.toNat))
/-- IDENTITY (R429). -/
def execIdentity (m : Fin 2) (core : Fin 16) (s : State) : Outc := done s (s.gthCmd m core .identity)
/-- EXTEND (R428). -/
def execExtend (m : Fin 2) (core : Fin 16) (i : Fin 8) (d : BitVec 384) (s : State) : Outc :=
  done s (s.gthCmd m core (.extend i (beBytes 48 d.toNat)))
/-- MODEL_KEY (R430). -/
def execModelKey (m : Fin 2) (core : Fin 16) (ctx : BitVec 10) (blob : List Byte) (s : State) : Outc :=
  done s (s.gthCmd m core (.modelKey ctx.toNat blob))
/-- DECRYPT (R431). -/
def execDecrypt (m : Fin 2) (core : Fin 16) (slot : Fin 16) (src dst len : BitVec 48) (iv : BitVec 96) (aad : List Byte) (tag : BitVec 128)
    (s : State) : Outc :=
  done s (s.gthCmd m core (.decrypt slot src.toNat dst.toNat len.toNat (beBytes 12 iv.toNat) aad (beBytes 16 tag.toNat)))
/-- DECRYPT_DONE (R431): the decryption in progress has run through and its tag is checked. -/
def execDecryptDone (s : State) : Outc :=
  done s (match s.gth.decr with | some d => State.gthNext 2 (s.decryptEnd d) | none => s)
/-- UNSEAL (R432). -/
def execUnseal (m : Fin 2) (core : Fin 16) (ctx : BitVec 10) (s : State) : Outc := done s (s.gthCmd m core (.unseal ctx.toNat))
/-- LC_ADVANCE (R427). -/
def execLcAdvance (m : Fin 2) (core : Fin 16) (target : Fin 8) (token : List Byte) (s : State) : Outc :=
  done s (s.gthCmd m core (.lcAdvance target token))
/-- DEBUG_CHALLENGE (R433). -/
def execDebugChallenge (m : Fin 2) (core : Fin 16) (s : State) : Outc := done s (s.gthCmd m core .challenge)
/-- DEBUG_UNLOCK (R433). -/
def execDebugUnlock (m : Fin 2) (core : Fin 16) (scope : BitVec 8) (sig : List Byte) (s : State) : Outc :=
  done s (s.gthCmd m core (.unlock scope.toNat sig))
/-- ROLLBACK_ADVANCE (R426). -/
def execRollbackAdvance (m : Fin 2) (core : Fin 16) (level : BitVec 7) (s : State) : Outc := done s (s.gthCmd m core (.rollback level.toNat))
/-- VERIFY (R343, R426). -/
def execVerify (m : Fin 2) (core : Fin 16) (s : State) : Outc := done s (s.gthCmd m core .verify)
/-- COPY (R423); `flash` is what a second reading of the flash gives. -/
def execCopy (m : Fin 2) (core : Fin 16) (flash : List Byte) (s : State) : Outc := done s (s.gthCmd m core (.copy flash))
end Sys2Proof.Machine
end

