-- ==== Sys2Proof/Machine/GzbCmds.lean ====
section
/-! DEFINITION. The commands of Gazebo (R438-R446). -/
namespace Sys2Proof.Machine
open Sys2Proof
namespace State
/-- A write of GZB_LOG_PCODE (R441): the record of GZB_LOG_PUT's data, with PAGE 0xFF. [log entries 47 DEDUCED, 48 DEDUCED] -/
def logPut (s : State) (code : Nat) : State :=
  s.logRaise ⟨s.stamp, code, 0xFF, 0, 0xFFFF, leBytes 8 s.gzb.put0 ++ leBytes 8 s.gzb.put1⟩
/-- A write of a ring's RIDX (R442): ignored past WIDX or backwards. -/
def ridxWrite (s : State) (f w : Fld) (v : Nat) : State :=
  if idxGap v (s.fld f) ≤ idxGap (s.fld w) (s.fld f) then s.setFld f v else s
/-- A write of LEVEL (R444): a change sets k to 0 and writes a marker; where k was 0, k has not changed. -/
def traceLevel (s : State) (v : Nat) : State :=
  if s.fld GZB_TRC_CFG_LEVEL = v then s
  else
    let t := (s.setFld GZB_TRC_CFG_LEVEL v).setDecimation 0
    if s.fld GZB_TRC_CFG_K = 0 then { t with gzb := { t.gzb with kAt := s.gzb.kAt } } else t
/-- What the decimation exponent is to become (R444), where it may change. -/
def decimationNow (s : State) : Option Nat :=
  let k := s.fld GZB_TRC_CFG_K
  if s.tbNs 0 < s.gzb.kAt + 100000 then none
  else if s.trcSize * 3 ≤ s.trcUsed * 4 ∧ k < 15 then some (k + 1)
  else if s.trcUsed * 4 < s.trcSize ∧ 0 < k then some (k - 1)
  else none
/-- Packets that a queue's age or an alarm's count makes due (R445): alarms, then logs, then traces. -/
def egressTimer (s : State) : State :=
  let s := (List.range 256).foldl (fun s src =>
    let x := s.gzb.almSent.get (0, 0) src
    if s.sticky src ∧ x.1 < s.fld GZB_ALM_ENTRY_HI_COUNT src ∧ x.2 + 1000000000 ≤ s.tbNs 0 then s.alarmPacket src else s) s
  let s := if ¬ s.gzb.logQ.isEmpty ∧ s.gzb.logQAt + 1000 * usTicks ≤ s.tick then
      let t := s.gzbPacket 2 s.gzb.seqL s.gzb.logQ
      { t with gzb := { t.gzb with logQ := [], seqL := (t.gzb.seqL + 1) % 2 ^ 32 } }
    else s
  if ¬ s.gzb.trcQ.isEmpty ∧ s.gzb.trcQAt + 1000 * usTicks ≤ s.tick then
    let t := s.gzbPacket 3 s.gzb.seqT s.gzb.trcQ
    { t with gzb := { t.gzb with trcQ := [], seqT := (t.gzb.seqT + 1) % 2 ^ 32 } }
  else s
end State
/-- ALARM_USER (R438): a write of GZB_ALM_RAISE; a source below 0xC0 is ignored. -/
def execAlarmUser (src : BitVec 8) (s : State) : Outc := done s (if 0xC0 ≤ src.toNat then s.alarm src.toNat 0x0E04 else s)
/-- STICKY_CLEAR (R440): ones written to GZB_ALM_STICKY `i`. -/
def execStickyClear (i : Fin 8) (mask : BitVec 32) (s : State) : Outc := done s (s.stickyClear i mask.toNat)
/-- LOG_PUT (R441): a write of GZB_LOG_PCODE. -/
def execLogPut (code : BitVec 16) (s : State) : Outc := done s (s.logPut code.toNat)
/-- LOG_RIDX_WRITE (R442): of the log ring, or with `trc` of the trace ring. -/
def execLogRidxWrite (trc : Bool) (v : BitVec 64) (s : State) : Outc :=
  done s (if trc then s.ridxWrite GZB_TRC_RIDX_IDX GZB_TRC_WIDX_IDX v.toNat else s.ridxWrite GZB_LOG_RIDX_IDX GZB_LOG_WIDX_IDX v.toNat)
/-- TRACE_LEVEL_WRITE (R444). -/
def execTraceLevelWrite (v : Fin 4) (s : State) : Outc := done s (s.traceLevel v)
/-- TRACE_DECIMATION (R444). -/
def execTraceDecimation (s : State) : Outc := done s (match s.decimationNow with | some k => s.setDecimation k | none => s)
/-- VLAN_EGRESS_TIMER (R445). -/
def execVlanEgressTimer (s : State) : Outc := done s s.egressTimer
end Sys2Proof.Machine
end

