-- ==== Sys2Proof/Machine/RecovCmds.lean ====
section
/-! DEFINITION. The commands of recovery: hangs and replays, the reset levels, sparing, keepers, the hand-over, dumps, and the loss of
power. -/
namespace Sys2Proof.Machine
open Sys2Proof
/-- An engine's recovery has been asked for or runs. -/
def State.recovering (s : State) (e : Nat) : Bool :=
  s.ldg.waiting.contains e
    || (if 512 ≤ e ∧ e < 516 then (s.head (e - 512)).faulted
        else if 1024 ≤ e then s.ldg.want.contains (3, e - 1024) || s.running2 3 (e - 1024)
        else s.ldg.want.contains (2, e) || s.running2 2 e)
/-- HANG (R323): of engine `e`, numbered as LDG_RESET.TARGET (1024 + p for the controller of plot p). -/
def execHang (e : BitVec 11) (s : State) : Outc :=
  done s (if s.hungNow e.toNat ∧ ¬ s.recovering e.toNat then s.hang e.toNat else s)
/-- PLOT_STALL (R324). -/
def execPlotStall (p : Fin 32) (s : State) : Outc :=
  done s (if s.stalled p ∧ ¬ s.recovering (1024 + p) then s.ask 3 p else s)
/-- SUSPECT_REPLAY (R326, R327): the next suspect of engine `e`'s hang, or the end of its replay. -/
def execSuspectReplay (e : BitVec 11) (s : State) : Outc :=
  done s (match s.ldg.recs.find? (fun (r : Recov) => r.engine == e.toNat) with
    | some r => if s.replayReady r then (if (s.replayNext r).2 then (s.replayNext r).1.retire r.engine else (s.replayNext r).1) else s
    | none => s)
/-- REPLAY_WATCHDOG (R327, R328). -/
def execReplayWatchdog (e : BitVec 11) (s : State) : Outc :=
  done s (match s.ldg.recs.find? (fun (r : Recov) => r.engine == e.toNat) with
    | some r => if s.watchdogOut r then s.guilty r else s
    | none => s)
/-- ENGINE_RESET (R317): a failed self-test or another fault of an engine asks for its reset; the reset begins; it is complete, its
self-test passed or not. A head's is HEAD_RESET. -/
def execEngineReset (e : BitVec 12) (ev : RstEv) (s : State) : Outc :=
  done s (
    let n := e.toNat
    match ev with
    | .fault => s.resetWrite 2 n
    | .start => if engineOk n ∧ ¬ (512 ≤ n ∧ n < 516) ∧ s.mayBegin 2 n then s.engineBegin n else s
    | .finish ok => if s.running2 2 n then s.engineFinish n ok else s)
/-- HEAD_RESET (R328). -/
def execHeadReset (n : Fin 4) (s : State) : Outc := done s (if s.headResetDue n then s.headReset n else s)
/-- PARTITION_RESET (R317): a fault of a plot controller asks for it; it begins; it is complete, or cannot clear the fault. -/
def execPartitionReset (p : Fin 32) (ev : RstEv) (s : State) : Outc :=
  done s (match ev with
    | .fault => s.ask 3 p
    | .start => if s.mayBegin 3 p then s.partitionBegin p else s
    | .finish ok => if s.running2 3 p then s.partitionFinish p ok else s)
/-- CHIP_WARM_RESET (R317, R470): a fault that level 3 cannot clear asks for it; it begins; it is complete, or fails. -/
def execChipWarmReset (ev : RstEv) (s : State) : Outc :=
  done s (match ev with
    | .fault => s.ask 4 0
    | .start => if s.mayBegin 4 0 then s.warmBegin else s
    | .finish ok => if s.running2 4 0 then (if ok then s.warmFinish else (s.lvlEnd 4 0).escalate 4 0) else s)
/-- LEVEL_TIMEOUT (R320). -/
def execLevelTimeout (l : Fin 5) (s : State) : Outc := done s (s.levelTimeout l)
/-- PAVILION_RETIRE (R331). -/
def execPavilionRetire (v : BitVec 8) (s : State) : Outc := done s (s.retire v.toNat)
/-- SPARE_MAP_CHANGE (R332). -/
def execSpareMapChange (v : BitVec 8) (s : State) : Outc := done s (if s.mapReady v.toNat then s.mapChange v.toNat else s)
/-- KEEPER_HEARTBEAT_MISS (R342): keeper `k`'s. -/
def execKeeperHeartbeatMiss (k : Fin 2) (s : State) : Outc := done s (if s.keeperMissed k then s.keeperRestart k else s)
/-- SCHED_HEARTBEAT_MISS (R342). -/
def execSchedHeartbeatMiss (s : State) : Outc :=
  done s (
    let w := s.fld LDG_KEEP_SCHED_WIN
    if w ≠ 0 ∧ s.keeperRuns ∧ s.ldg.schedAt + w * 1000 * usTicks ≤ s.tick then
      ({ s with ldg := { s.ldg with schedAt := s.tick } }).ask 4 0
    else s)
/-- Both keepers have been silent for 10 ms (R342). -/
def State.keepersSilent (s : State) : Bool :=
  match s.ldg.k0At, s.ldg.k1At with
  | some a, some b => decide (a + 10000 * usTicks ≤ s.tick ∧ b + 10000 * usTicks ≤ s.tick)
  | _, _ => false
/-- The hardware restarts both keepers (R342); a second time within 1 s requests level 5. [log entry 205 DEDUCED] -/
def State.keepersRestart (s : State) : State :=
  let again : Bool := match s.ldg.silentAt with | some t => decide (s.tick ≤ t + 1000000 * usTicks) | none => false
  let s := (((s.alarm 0x60 0x090C).dumpStart 4 none 0xFFFFFFFF).keeperStart 0).keeperStart 1
  let s := ({ s with ldg := { s.ldg with silentAt := some s.tick } }).fwWatch
  if again then s.powerRequest else s
/-- KEEPERS_SILENT (R342). -/
def execKeepersSilent (s : State) : Outc := done s (if s.keepersSilent then s.keepersRestart else s)
/-- FW_GO (R343): a write of LDG_FW_CTRL with GO = 1. -/
def execFwGo (flash : Bool) (lc : Fin 4) (s : State) : Outc := done s (s.fwGo flash lc)
/-- FW_HANDOVER_FRAME (R343). -/
def execFwHandoverFrame (s : State) : Outc :=
  done s (if s.ldg.fwDue ∧ 2 ≤ s.fld LDG_FW_CTRL_STATE then s.fwFrame else s)
/-- DUMP_REQ (R337): REQ of LDG_DUMP_CFG written 1. -/
def execDumpReq (s : State) : Outc := done s (s.dumpStart 5 none 0xFFFFFFFF)
/-- DUMP_READ_TIMEOUT (R338): of a word of a unit. [log entry 207 DEDUCED] -/
def execDumpReadTimeout (unit word : BitVec 16) (s : State) : Outc :=
  done s (match s.ldg.dump with
    | some d => { s with ldg := { s.ldg with dump := some { d with voids := d.voids ++ [(unit.toNat, word.toNat)] } } }
    | none => s)
/-- DUMP_DONE (R337-R340): the words that the service ring delivered of each unit. -/
def execDumpDone (units : List (BitVec 16 × List (BitVec 32))) (s : State) : Outc :=
  done s (s.dumpDone (units.map (fun (u : BitVec 16 × List (BitVec 32)) => (u.1.toNat, u.2.map BitVec.toNat))))
/-- POWER_LOSS (R460): every rail is removed, with PORST_N low when they return. -/
def execPowerLoss (s : State) : Outc :=
  doneAny s (let t := s.coldReset; { t with gth := { t.gth with lowRail := true } })
/-- COLD_RESET (R319): PORST_N has been low for 10 µs. -/
def execColdReset (s : State) : Outc := doneAny s s.coldReset
end Sys2Proof.Machine
end

