-- ==== Sys2Proof/Machine/ZhevCmds.lean ====
section
/-! DEFINITION. The commands of the group and of Zhevlink (R262, R263, R293-R314), one meaning each. A frame's command is its
arrival on a link. -/
namespace Sys2Proof.Machine
open Sys2Proof
/-- ARRIVE (R262). -/
def execArrive (h : ZHdr) (w : BitVec 17) (s : State) : Outc :=
  done s (s.zrecv h .arrive [w.toNat] [] (fun s => if s.actingAnchor = s.zhl.chip then s.gbarArrive h.src w.toNat else s))
/-- RELEASE (R262). -/
def execRelease (h : ZHdr) (w : BitVec 17) (trel ts : BitVec 79) (s : State) : Outc :=
  done s (s.zrecv h .release [w.toNat, trel.toNat, ts.toNat] [] (fun s => s.gbarRelease w.toNat trel.toNat ts.toNat))
/-- SYNC_IN_EDGE (R263): the rising edge is stamped in TB6. -/
def execSyncInEdge (s : State) : Outc := done s { s with zhl := { s.zhl with syncAt := some (s.tb16 6) } }
/-- GBAR_RELEASE (R262): T_rel is reached. -/
def execGbarRelease (w : BitVec 17) (s : State) : Outc :=
  done s (match s.zhl.rels.get none w.toNat with
    | some (trel, ts) => if ¬ s.islanded ∧ (trel : Int) ≤ s.gbarTime ts then s.gbarOpen w.toNat false else s
    | none => s)
/-- LINK_ENABLE (R266, R293). -/
def execLinkEnable (l : Fin 8) (en : Bool) (s : State) : Outc := done s (State.linkWork (s.enWrite (.link l) en) l)
/-- LINK_TRAINING_DONE (R294): the attempt in progress ends with the lanes that locked, the RTT in fc, and what the neighbour's
HELLO reports, and whether it is another chip than a neighbour of the same chip id. -/
def execLinkTrainingDone (l : Fin 8) (lanes : BitVec 5) (rtt : BitVec 16) (chip : Fin 32) (nlink : Fin 8) (nbr : NbrChip)
    (s : State) : Outc :=
  done s (if s.fld ZHL_LNK_CTRL_LSTATE l = 1 ∧ s.quadOn (l / 2) then
    let good := (List.range 5).filter (fun i => bit lanes.toNat i)
    let r := s.trainReason l good rtt.toNat nbr.gid.toNat chip nlink nbr.other
    if r = 0 then s.trainOk l good rtt.toNat chip nlink else s.trainFail l r
  else s)
/-- LINK_TRAIN_RETRY (R294): 100 ms after a failure. -/
def execLinkTrainRetry (l : Fin 8) (s : State) : Outc :=
  done s (match (s.zlink l).failAt with
    | some t =>
      if t + 100000 * usTicks ≤ s.tick then
        (s.setFld ZHL_LNK_CTRL_LSTATE 1 l).setZlink l { s.zlink l with failAt := none }
      else s
    | none => s)
/-- HELLO_TIMER (R298): every 10 µs on an UP link. -/
def execHelloTimer (l : Fin 8) (s : State) : Outc :=
  done s (if s.linkUp l ∧ (s.zlink l).helloAt + 10 * usTicks ≤ s.tick then
    (s.setZlink l { s.zlink l with helloAt := s.tick }).putFrame l (s.helloFrame l)
  else s)
/-- HELLO (R301, R303). -/
def execHello (l : Fin 8) (reach : BitVec 32) (s : State) : Outc :=
  done s (if s.linkUp l then (s.zarrive l).neighbour l reach.toNat none else s)
/-- ACK_NAK (R296, R298). -/
def execAckNak (l : Fin 8) (nak : Bool) (lseq : BitVec 16) (s : State) : Outc :=
  done s (if s.fld ZHL_LNK_CTRL_LSTATE l = 2 then
    (s.setZlink l { s.zlink l with lastRx := s.tick }).ackIn l nak lseq.toNat
  else s)
/-- LSTATE (R301, R303): a neighbour's reachability set and the chips it knows in GROUP. -/
def execLstate (l : Fin 8) (reach group : BitVec 32) (s : State) : Outc :=
  done s (if s.linkUp l then (s.zarrive l).neighbour l reach.toNat (some group.toNat) else s)
/-- FRAME_CHECK_FAIL (R296, R303): 0 CRC error, 1 sequence gap, 2 unassigned TYPE. -/
def execFrameCheckFail (l : Fin 8) (kind : Fin 3) (s : State) : Outc :=
  done s (if s.fld ZHL_LNK_CTRL_LSTATE l = 2 then s.frameBad l kind else s)
/-- LINK_SILENCE_TIMEOUT (R298): no frame for 50 µs. -/
def execLinkSilenceTimeout (l : Fin 8) (s : State) : Outc :=
  done s (if s.fld ZHL_LNK_CTRL_LSTATE l = 2 ∧ (s.zlink l).lastRx + 50 * usTicks ≤ s.tick then s.linkDown l else s)
/-- LANE_FAIL (R297). -/
def execLaneFail (l : Fin 8) (lane : Fin 5) (s : State) : Outc := done s (if s.linkUp l then s.laneFail l lane else s)
/-- LANE_SWAP (R297). -/
def execLaneSwap (l : Fin 8) (s : State) : Outc := done s (s.laneSwap l)
/-- WSIG_FRAME (R307). -/
def execWsigFrame (h : ZHdr) (w : BitVec 17) (n : BitVec 16) (s : State) : Outc :=
  done s (s.zrecv h .wsig [w.toNat, n.toNat] [] (fun s => s.wsigIn w.toNat n.toNat))
/-- WAIT_REQ (R307). -/
def execWaitReq (h : ZHdr) (w req : BitVec 17) (n : BitVec 16) (s : State) : Outc :=
  done s (s.zrecv h .waitReq [w.toNat, req.toNat, n.toNat] [] (fun s => s.waitReqIn h.src w.toNat req.toNat n.toNat))
/-- WAIT_DONE (R307): 0 done, 1 REFUSED, 2 CANCELLED. -/
def execWaitDone (h : ZHdr) (w : BitVec 17) (result : Fin 3) (s : State) : Outc :=
  done s (s.zrecv h .waitDone [w.toNat, result] [] (fun s => s.waitDoneIn w.toNat result))
/-- WAIT_CANCEL (R307). -/
def execWaitCancel (h : ZHdr) (w req : BitVec 17) (s : State) : Outc :=
  done s (s.zrecv h .waitCancel [w.toNat, req.toNat] [] (fun s => s.waitCancelIn h.src w.toNat req.toNat))
/-- FENCE_FRAME (R309). -/
def execFenceFrame (l : Fin 8) (origin : Fin 32) (id : BitVec 32) (s : State) : Outc :=
  done s (if s.linkUp l then (s.zarrive l).fenceIn l origin id.toNat else s)
/-- FENCE_ACK (R309, R330). -/
def execFenceAck (l : Fin 8) (origin : Fin 32) (id : BitVec 32) (s : State) : Outc :=
  done s (if s.linkUp l then (s.zarrive l).fenceAckIn l origin id.toNat else s)
/-- TSYNC_TIMER (R308): every 1 ms. -/
def execTsyncTimer (s : State) : Outc :=
  done s (if s.servoOn ∧ s.zhl.tsAt + 1000 * usTicks ≤ s.tick then
    { s with zhl := { s.zhl with tsAt := s.tick } }.zsend s.actingAnchor .tsync 0 [0, s.tb16 6] []
  else s)
/-- TSYNC (R308): a request at the acting anchor, answered with its TB6; an answer, with the offset of TB6 from the anchor in
1/16 ns that its stamps and residence times give. -/
def execTsync (h : ZHdr) (reply : Bool) (ofs : BitVec 64) (s : State) : Outc :=
  done s (s.zrecv h .tsync [b2n reply, ofs.toNat] [] (fun s =>
    if reply then (if s.servoOn then s.servoStep ofs.toNat else s)
    else if s.actingAnchor = s.zhl.chip then s.zsend h.src .tsync 0 [1, ofs.toNat, s.tb16 6] [] else s))
/-- GROUP_CFG_APPLY (R300): at the frame start of the group line clock. -/
def execGroupCfgApply (s : State) : Outc := done s (if s.zhl.cfgDue then s.groupApply else s)
/-- CUT_OFF_TIMER (R310); `noSideKeeps` says that by R310 no side of the group keeps the canvas. -/
def execCutOffTimer (noSideKeeps : Bool) (s : State) : Outc :=
  done s (if s.gstate = 1 ∧ ¬ s.cutOffs.isEmpty then s.cutOff noSideKeeps else s)
/-- REJOIN (R313): ignored outside ISLAND, and while no member in GROUP is reachable. -/
def execRejoin (s : State) : Outc :=
  done s (if s.gstate = 2 ∧ s.groupAnchor.isSome then (s.setFld ZHL_GCMD_REJOIN 1).rejoinSend else s)
/-- AUTO_REJOIN_TIMER (R313): a member in GROUP has been reachable for 1 s over links that stayed UP. -/
def execAutoRejoinTimer (s : State) : Outc :=
  done s (match s.zhl.stableAt with
    | some t =>
      if s.gstate = 2 ∧ s.zhl.autoRj ∧ s.zhl.rjAt.isNone ∧ t + 1000000 * usTicks ≤ s.tick then s.rejoinSend else s
    | none => s)
/-- REJOIN_REQ (R313). -/
def execRejoinReq (h : ZHdr) (ptp jump : Bool) (s : State) : Outc :=
  done s (s.zrecv h .rejoinReq [b2n ptp, b2n jump] [] (fun s => s.rejoinReq h.src ptp jump))
/-- REJOIN_GRANT (R313): for chip `who`, F_r or a refusal's cause. -/
def execRejoinGrant (h : ZHdr) (who : Fin 32) (fr : BitVec 32) (cause : BitVec 8) (s : State) : Outc :=
  done s (s.zrecv h .rejoinGrant [who, fr.toNat, cause.toNat] [] (fun s => s.rejoinGrant who fr.toNat cause.toNat))
/-- REJOIN_LAPSE (R313): 10 ms without a grant. -/
def execRejoinLapse (s : State) : Outc :=
  done s (match s.zhl.rjAt with
    | some t => if t + 10000 * usTicks ≤ s.tick then s.rejoinBad 3 else s
    | none => s)
/-- REJOIN_FRAME (R314). -/
def execRejoinFrame (s : State) : Outc := done s (if s.rejoinDue then s.rejoinFrame else s)
/-- FORMATION (R314). -/
def execFormation (s : State) : Outc := done s (if s.formationDue then s.formation else s)
end Sys2Proof.Machine
end

