-- ==== Sys2Proof/Machine/RegAccess.lean ====
section
/-! DEFINITION. Accesses to the register space (R7-R12, R351-R353, R417): who may write what, the access codes, the halves of 64-bit
registers, and the actions of registers that have them. -/
namespace Sys2Proof.Machine
open Sys2Proof
/-- The state that a meaning answers; it always answers one. -/
def Outc.after (o : Outc) (s : State) : State :=
  match o with
  | .next t => t
  | _ => s
/-- The core of a requester, 16 for one that is no core. [log entry 12 DESIGN CHOICE] -/
def reqCore : Req → Nat | .core n => n | _ => 16
/-- Whether a requester may write keeper-only fields (R417). -/
def reqKeeper : Req → Bool | .core n => n.val < 2 | .service => true | _ => false
/-- The requester path (R9): PCIe 0, core n as 1 + n, the service ring 17. -/
def reqPath : Req → Nat | .core n => 1 + n | .service => 17 | _ => 0
/-- The key of a path's latch or held word of the register whose low word is at an offset. [log entry 26 DEDUCED] -/
def halfKey (r : Req) (off : Nat) : Nat := reqPath r * 0x10000000 + off
namespace State

/-! What an access reaches (R351, R370). -/

/-- A requester reaches the register space: PCIe with its link up, and before the endpoint is released the GTH_ page alone; a VF
while it is enabled. [log entry 29 DEDUCED] -/
def reqReaches (s : State) (r : Req) (off : Nat) : Bool :=
  match r with
  | .pf0 => s.pci.up && (s.pci.released || off / 0x100000 == 13)
  | .vf v => s.hostUp && s.vfOn v
  | _ => true
/-- Register-space offset of an offset of a requester's BAR0; a VF sees its channel's and its port's registers. -/
def reqOff (r : Req) (off : Nat) : Option Nat :=
  match r with
  | .vf v =>
    if off < 0x100 then some (0xA01000 + 0x100 * v.val + off)
    else if 0x1000 ≤ off ∧ off < 0x1100 then some (0xB00000 + 0x100 * v.val + off)
    else none
  | _ => some off
/-- The channel or port whose register an offset names. -/
def unitOf (off : Nat) : Option Nat :=
  if 0xA01000 ≤ off ∧ off < 0xA02000 then some ((off - 0xA01000) / 0x100)
  else if 0xB01000 ≤ off ∧ off < 0xB02000 then some ((off - 0xB01000) / 0x100)
  else none
/-- The unit belongs to an enabled VF, so that PF0 has it no longer (R351). -/
def taken (s : State) (r : Req) (off : Nat) : Bool :=
  r == .pf0 && (match unitOf off with | some n => s.vfOn n | none => false)
/-- The entry and word of an MSI-X table that an offset names: function (0 PF0, 1 + v VF v), vector, word. -/
def msixAt (r : Req) (off : Nat) : Option (Nat × Nat × Nat) :=
  match r with
  | .vf v => if 0x2000 ≤ off ∧ off < 0x2400 then some (1 + v.val, (off - 0x2000) / 16, off % 16 / 4) else none
  | _ => if 0xA08000 ≤ off ∧ off < 0xA0C000 then some (0, (off - 0xA08000) / 16, off % 16 / 4) else none
/-- The function and first vector of a word of a pending-bit array. -/
def pbaAt (r : Req) (off : Nat) : Option (Nat × Nat) :=
  match r with
  | .vf v => if 0x3000 ≤ off ∧ off < 0x3008 then some (1 + v.val, (off - 0x3000) * 8) else none
  | _ => if 0xA0C000 ≤ off ∧ off < 0xA0C080 then some (0, (off - 0xA0C000) * 8) else none
/-- The PTP instance and byte of a sample set that an offset names (R382). -/
def sampleAt (off : Nat) : Option (Nat × Nat) :=
  if 0x902100 ≤ off ∧ off < 0x902500 ∧ 0x40 ≤ off % 0x100 ∧ off % 0x100 < 0x80 then some ((off - 0x902000) / 0x100, off % 0x100 - 0x40) else none
/-- The mailbox whose range or buffer an offset lies in. -/
def mboxAt (off : Nat) : Option Nat :=
  if 0xD01000 ≤ off ∧ off < 0xD02000 then some 0 else if 0xD02000 ≤ off ∧ off < 0xD03000 then some 1 else none
/-- Whether an offset lies in a mailbox's buffer. -/
def inBuf (off : Nat) : Bool := (mboxAt off).isSome && 0x800 ≤ off % 0x1000
/-- Whether an offset lies in the push window. -/
def inPush (off : Nat) : Bool := 0xD10000 ≤ off && off < 0xD20000

/-! Permission (R353, R417). -/

/-- Registers whose every writable field is keeper-only. -/
def keeperReg (q : RegAt) : Bool :=
  match q.reg with
  | .PCI_ACL | .ORG_ACL | .ORG_HART_CTRL | .ORG_HART_VEC => true
  | .PWR_DOM_CTRL => decide (158 ≤ q.i ∧ q.i ≤ 171)
  | _ => false
/-- Whether a write at an offset is permitted, keeper-only fields apart. [log entry 28 DEDUCED] -/
def mayWrite (s : State) (r : Req) (off : Nat) : Bool :=
  let p := off / 0x100000
  match r with
  | .pf0 => if p = 13 then mboxAt off == some 0 || inPush off else bit (s.fld PCI_ACL_WEN) p
  | .vf _ => true
  | .core n => if p = 13 then mboxAt off == some 1 else n.val < 2 || bit (s.fld ORG_ACL_WEN) p
  | .service => p != 13
/-- A write that is not permitted is dropped and counted (R417). -/
def denied (s : State) (r : Req) (page : Nat) : State :=
  match r with
  | .core _ => s.bump 0x0D0E page
  | .service => s
  | _ => s.hostDenied page

/-! Reading. -/

/-- What a register shows of state that other events move: line positions, layers, segments, levels, hold modes. [log entry 33 DEDUCED] -/
def regShown (s : State) (q : RegAt) : Nat :=
  let v := s.rd q.reg q.i q.j
  match q.reg with
  | .SDL_LC_POS => s.lcPosReg q.i
  | .BST_LYR_STAT => setBits v BST_LYR_STAT_ON.lo 1 (b2n (s.layerOnNow q.i q.j))
  | .BEL_SEG_FULL => (List.range 32).foldl (fun a k => a + b2n (s.fullOf (segKey (32 * q.i + k))) * 2 ^ k) 0
  | .BEL_SEG_RSV => (List.range 32).foldl (fun a k => a + b2n (s.bel.rsv.get 0 (segKey (32 * q.i + k)) ≠ 0) * 2 ^ k) 0
  | .LDG_STAT =>
    let v := setBits v LDG_STAT_LEVEL.lo LDG_STAT_LEVEL.w s.lvlShown
    setBits v LDG_STAT_HOLD.lo 4 ((List.range 4).foldl (fun a n => a + b2n (s.on BST_HSTAT_HOLDMODE n) * 2 ^ n) 0)
  | _ => v
/-- A value with the read-clear fields as they stood before this tick: what hardware does in the tick of a read lands after its clear
(Table 0.3). [log entry 245 DEDUCED] -/
def rcBefore (s : State) (q : RegAt) (v : Nat) : Nat :=
  q.reg.flds.foldl (fun v f => if f.acc = .rc then
    (match s.hw.get none (f.place q.i q.j) with | some x => setBits v f.lo f.w x.1 | none => v) else v) v
/-- A value as it reads: WO fields and reserved bits read 0 (R7, R8). [log entry 38 DEDUCED] -/
def regValue (s : State) (q : RegAt) : Nat := s.rcBefore q (s.regShown q) &&& q.reg.mask q.i (fun (a : Acc) => decide (a ≠ .wo))
/-- Clear the read-clear fields of a register. [log entry 245 DEDUCED] -/
def clearRc (s : State) (q : RegAt) : State :=
  q.reg.flds.foldl (fun s f => if f.acc = .rc then
    (let t := s.setFld f (s.landed f q.i q.j) q.i q.j
     { t with hw := t.hw.set none (f.place q.i q.j) ((t.hw.get none (f.place q.i q.j)).map (fun x => (0, x.2))) }) else s) s
/-- What a read settles first: the cycles of a context that holds plots (R271). [log entry 30 DEDUCED] -/
def beforeRead (s : State) (q : RegAt) : State :=
  match q.reg with
  | .PTR_CTX_PCYC => (List.range 32).foldl (fun s p => if (s.running p).isSome ∧ s.plotCtx p = q.i then s.charge p else s) s
  | _ => s
/-- A read of a register (R7, R9): whole, of its low word, or of its high word. [log entries 23 DEDUCED, 24 DEDUCED] -/
def readReg (s : State) (r : Req) (off : Nat) (wide : Bool) (q : RegAt) : State :=
  let s := s.beforeRead q
  let v := s.regValue q
  let key := halfKey r (if q.hi then off - 4 else off)
  if q.reg.width = 4 ∨ (wide = true ∧ q.hi = false) then (s.clearRc q).emit (.read v)
  else if q.hi then
    match s.latch.get none key with
    | some h => ({ s with latch := s.latch.set none key none }).emit (.read h)
    | none => s.emit (.read (v / 2 ^ 32))
  else (({ s with latch := s.latch.set none key (some (v / 2 ^ 32)) }).clearRc q).emit (.read (v % 2 ^ 32))
/-- A read of the register space: unassigned offsets read 0 (R8, R12). -/
def regRead (s : State) (r : Req) (off : Nat) (wide : Bool) : State :=
  let zero := s.emit (.read 0)
  if ¬ s.reqReaches r off then (match r with | .pf0 => (if s.pci.up then zero else s) | _ => s)
  else match msixAt r off with
  | some (fn, v, w) =>
    let at_ := fun (w : Nat) => s.pci.msix.get (if w = 3 then 1 else 0) (msixKey fn v w)
    s.emit (.read (at_ w + if wide ∧ w % 2 = 0 then at_ (w + 1) * 2 ^ 32 else 0))
  | none =>
    match pbaAt r off with
    | some (fn, v) => s.emit (.read ((List.range (if wide then 64 else 32)).foldl (fun a k => a + b2n (s.pci.pba.get false (1024 * fn + v + k)) * 2 ^ k) 0))
    | none =>
      match reqOff r off with
      | none => zero
      | some o =>
        if s.taken r o then zero
        else if inBuf o then s.emit (.read (s.leAt (regBase + o) (if wide then 8 else 4)))
        else match sampleAt o with
        | some (i, b) =>
          if b = 0 then s.ptpLatch i (if wide then 8 else 4)
          else s.emit (.read (leNat (((s.ptpi i).shown.drop b).take (if wide then 8 else 4))))
        | none =>
          match findReg o with
          | some q => s.readReg r o wide q
          | none => zero

/-! Writing. -/

/-- The W1C bits of a register that hardware has set in this tick: a clear leaves them 1 (Table 0.3). -/
def setNow (s : State) (q : RegAt) : Nat :=
  q.reg.flds.foldl (fun v f => if f.acc = .w1c ∧ (s.hw.get none (f.place q.i q.j)).isSome = true then setBits v f.lo f.w (2 ^ f.w - 1) else v) 0
/-- A write by the access codes alone (R7): the bits of `m` outside `skip`. A hardware set of a W1C bit in the same tick wins; of an RW
field the write wins (Table 0.3). -/
def plainWrite (s : State) (q : RegAt) (v m skip : Nat) : State :=
  let old := s.rd q.reg q.i q.j
  let k := fun (f : Acc → Bool) => q.reg.mask q.i f &&& m &&& (2 ^ 64 - 1 - skip)
  let soft := k (fun (a : Acc) => decide (a = .rw ∨ a = .rws))
  let x := blendBits old v soft
  let x := blendBits x 0 (v &&& k (fun (a : Acc) => decide (a = .w1c)) &&& (2 ^ 64 - 1 - s.setNow q))
  let a := q.reg.addr q.i q.j
  { s.wr q.reg x q.i q.j with sw := s.sw.set 0 a (s.sw.get 0 a ||| soft) }
/-- The bits of a field. -/
def fieldMask (f : Fld) : Nat := setBits 0 f.lo f.w (2 ^ f.w - 1)
/-- The value that a write gives a field, whose bits it must reach. -/
def wrote (m : Nat) (f : Fld) : Bool := bits m f.lo 1 == 1
def newFld (v : Nat) (f : Fld) : Nat := bits v f.lo f.w
def newBit (v m : Nat) (f : Fld) : Bool := wrote m f && newFld v f == 1
/-- A write of an enable bit with the other fields of its register, which take effect first. -/
def withEn (s : State) (q : RegAt) (v m : Nat) (en : Fld) (go : Bool → State → Outc) : State :=
  let s := s.plainWrite q v m (fieldMask en)
  if wrote m en then (go (newFld v en == 1) s).after s else s
/-- The arguments of a mailbox command, as its buffer holds them (R434): one after another in the order in which their rule names
them, numbers little-endian. -/
def mboxArgs (s : State) (m cmd : Nat) : MCmd :=
  let b := s.bytes (mboxBuf m) 0x800
  let at_ := fun (o n : Nat) => (b.drop o).take n
  match cmd with
  | 1 => .quote (at_ 0 32) (leNat (at_ 32 1))
  | 2 => .identity
  | 3 => .extend (leNat (at_ 0 1)) (at_ 1 48)
  | 4 => .modelKey (leNat (at_ 0 2) % 1024) (at_ 2 157)
  | 5 => .decrypt (leNat (at_ 0 1) % 16) (leNat (at_ 1 8)) (leNat (at_ 9 8)) (leNat (at_ 17 8)) (at_ 25 12)
      (at_ 54 (leNat (at_ 53 1))) (at_ 37 16)
  | 6 => .unseal (leNat (at_ 0 2) % 1024)
  | 7 => .lcAdvance (leNat (at_ 0 1)) (if s.fld GTH_STAT_LC = 0 ∧ leNat (at_ 0 1) = 1 then at_ 1 48 else at_ 1 193)
  | 8 => .challenge
  | 9 => .unlock (leNat (at_ 0 1)) (at_ 1 193)
  | 10 => .rollback (leNat (at_ 0 1))
  | 11 => .verify
  | 12 => .copy s.gth.buf
  | n => .bad n
/-- A write of the group's configuration (R300, R311): it takes effect at a frame start; an ISLAND chip discards it, but for leaving
the group. -/
def groupWrite (s : State) (q : RegAt) (v m : Nat) : State :=
  if s.islanded then
    if q.reg = .ZHL_GRP_CFG ∧ wrote m ZHL_GRP_CFG_GROUP_ID ∧ newFld v ZHL_GRP_CFG_GROUP_ID = 0 then (s.plainWrite q v m 0).groupLeave
    else s.zrefused 0x080A
  else
    let t := s.plainWrite q v m 0
    { t with zhl := { t.zhl with cfgPending := true } }
/-- A write of LDG_KEEP (R342, R417): cores 2 to 15 change only SCHED, PCIe not K0 and K1. -/
def keepReg (s : State) (r : Req) (v m : Nat) : State :=
  let pick := fun (ok : Bool) (f : Fld) => if ok && wrote m f then newFld v f else s.fld f
  let core := match r with | .core n => decide (2 ≤ n.val) | _ => false
  s.keepWrite (pick (reqKeeper r) LDG_KEEP_K0) (pick (reqKeeper r) LDG_KEEP_K1) (pick true LDG_KEEP_SCHED) (pick (!core) LDG_KEEP_SCHED_WIN)
/-- A write of PLT_SLOT_CFG (R272, R275, R282). -/
def slotWrite (s : State) (q : RegAt) (p : Fin 32) (j : Fin 16) (v m : Nat) : State :=
  let s :=
    if s.slotState p j = 0 then
      if newBit v m PLT_SLOT_CFG_BIND then (execSlotBind p j (BitVec.ofNat 32 v) s).after s else s.plainWrite q v m 0
    else
      let s := s.plainWrite q v m (fieldMask PLT_SLOT_CFG_BIND)
      if wrote m PLT_SLOT_CFG_BIND ∧ newFld v PLT_SLOT_CFG_BIND = 0 then (execSlotUnbind p j s).after s else s
  if newBit v m PLT_SLOT_CFG_REIMAGE then (execReimage p j s).after s else s
/-- Writes of the registers of Sundial, the fabric and the streams that do more than hold a value. [log entry 32 DEDUCED] -/
def writeFabric (s : State) (q : RegAt) (v m : Nat) : Option State :=
  let plain := s.plainWrite q v m 0
  let i := q.i
  let p : Fin 32 := Fin.ofNat 32 i
  let n16 : Fin 16 := Fin.ofNat 16 i
  let n8 : Fin 8 := Fin.ofNat 8 i
  let n4 : Fin 4 := Fin.ofNat 4 i
  match q.reg with
  | .SDL_CAPT =>
    let s := if newFld v SDL_CAPT_CAPT = 0 then s else s.tbCaptureMask (newFld v SDL_CAPT_CAPT)
    some (if newBit v m SDL_CAPT_PAIR then (execPairForce s).after s else s)
  | .SDL_LC_APPLY => some (s.lcApplyWrite (newFld v SDL_LC_APPLY_APPLY))
  | .SDL_TB_CTRL =>
    let s := if newBit v m SDL_TB_CTRL_OVR then (execTbOvr n8 s).after s else s
    some (if newBit v m SDL_TB_CTRL_LOAD then s.tbLoad i else s)
  | .SDL_TB_INC => some (s.tbIncWrite i (bits (blendBits (s.rd .SDL_TB_INC i) v m) 0 40))
  | .SDL_TB_STEP => some (s.tbStepWrite i v)
  | .PLT_CTRL => some (s.withEn q v m PLT_CTRL_EN (fun b => execPlotEnable p b))
  | .PLT_SLOT_CFG => some (s.slotWrite q p (Fin.ofNat 16 q.j) v m)
  | .PLT_RESUME => some (if newBit v m PLT_RESUME_RV then plain.setFld PLT_RESUME_RV 1 i else plain)
  | .PLT_SEED_LO | .PLT_SEED_HI => some (if s.plotState i = 0 then plain else s)
  | .PTR_PLOT_MAP => some (s.plotMapWrite i (blendBits (s.rd .PTR_PLOT_MAP i) v m))
  | .PTR_WKT => some (s.wktWrite i (newFld v PTR_WKT_OWNER) (newFld v PTR_WKT_V == 1))
  | .PTR_CTX_CTRL =>
    let c := BitVec.ofNat 10 i
    let s := if newBit v m PTR_CTX_CTRL_ALLOC then (execCtxAlloc c s).after s else s
    some (if newBit v m PTR_CTX_CTRL_TEAR then (execCtxTear c s).after s else s)
  | .PTR_SPARE_CMD => some (s.retire (newFld v PTR_SPARE_CMD_PAV))
  | .PTR_SPARE_ROW => some (plain.showSpare i)
  | .PLT_BAT_CFG => some (s.withEn q v m PLT_BAT_CFG_EN (fun b => execBatchGroupEnable n16 b))
  | .PLT_BAT_REQ =>
    let sid := BitVec.ofNat 16 (newFld v PLT_BAT_REQ_SID)
    some (match newFld v PLT_BAT_REQ_OP with
      | 1 => (execJoin n16 sid (Fin.ofNat 8 (newFld v PLT_BAT_REQ_PRIO)) (Fin.ofNat 4 (newFld v PLT_BAT_REQ_CLASS)) s).after s
      | 2 => (execLeave n16 sid s).after s
      | _ => s)
  | .PLT_STRM_CFG => some (s.withEn q v m PLT_STRM_CFG_EN (fun b => execStreamEnable n16 b))
  | .PLT_STRM_POST => some ((execInputPost n16 (BitVec.ofNat 16 (newFld v PLT_STRM_POST_SLOT)) s).after s)
  | .PLT_STRM_IN => some (if s.strmState i = 0 then plain.showFree i else plain)
  | .BEL_PWR_CTRL => some (s.withEn q v m BEL_PWR_CTRL_EN (fun b => execBelDomainEnable (Fin.ofNat 6 i) (.write b)))
  | .BEL_IMG_W1 => some (plain.setFld BEL_IMG_W0_RPTR 0 i)
  | .BST_COMMIT => some (s.headCommit (newFld v BST_COMMIT_COMMIT))
  | .BST_HCTRL => some (s.withEn q v m BST_HCTRL_EN (fun b => execHeadEnable n4 b))
  | _ => none
/-- Writes of the registers of the links, the ports, the Arcade, power, the Lodge, the Gatehouse and Gazebo that do more than hold a
value. [log entry 31 DEDUCED] -/
def writeSystem (s : State) (r : Req) (q : RegAt) (v m : Nat) : Option State :=
  let plain := s.plainWrite q v m 0
  let i := q.i
  let n16 : Fin 16 := Fin.ofNat 16 i
  let n8 : Fin 8 := Fin.ofNat 8 i
  let n4 : Fin 4 := Fin.ofNat 4 i
  match q.reg with
  | .ZHL_GRP_CFG | .ZHL_GRP_MEMBERS => some (s.groupWrite q v m)
  | .ZHL_GCMD => some (if newBit v m ZHL_GCMD_REJOIN then (execRejoin s).after s else s)
  | .ZHL_ROUTE => some plain.reachUpdate
  | .ZHL_LNK_CTRL => some (s.withEn q v m ZHL_LNK_CTRL_EN (fun b => execLinkEnable n8 b))
  | .ETH_RING_CFG =>
    let start : Bool := (plain.on ETH_RING_CFG_GUARD && !s.on ETH_RING_CFG_GUARD) || (plain.on ETH_RING_CFG_OWNER && !s.on ETH_RING_CFG_OWNER)
    let plain := if plain.on ETH_RING_CFG_OWNER && !s.on ETH_RING_CFG_OWNER then
        { plain.setFld ETH_RING_CFG_OPEN 0 with eth := { plain.eth with runAt := none } } else plain
    some (if start then { plain with eth := { plain.eth with guardAt := s.tick, backAt := s.tick } } else plain)
  | .ETH_PORT_CFG =>
    let t := s.withEn q v m ETH_PORT_CFG_EN (fun b => execPortEnable n4 (.write b))
    some (if t.on ETH_PORT_CFG_BYP_OFF i ∨ t.fld ETH_PORT_CFG_MODE i = 1 then t.bypHold i false else t)
  | .ETH_PTP_CFG =>
    some (s.withEn q v m ETH_PTP_CFG_EN (fun b t =>
      if t.on ETH_PTP_CFG_EN i = b ∨ i = 0 then doneAny t t else execPtpEnable (Fin.ofNat 4 (i - 1)) b t))
  | .ETH_RX_CFG => some (s.withEn q v m ETH_RX_CFG_EN (fun b => execRxEnable n16 (.write b)))
  | .ETH_TX_CFG => some (s.withEn q v m ETH_TX_CFG_EN (fun b => execTxEnable n8 (.write b)))
  | .PCI_DMA_CTRL => some (s.withEn q v m PCI_DMA_CTRL_EN (fun b => execDmaEnable n16 (.write b)))
  | .SPT_ADDR => some ((execSpoutAddrWrite n16 (BitVec.ofNat 48 (bits (blendBits (s.rd .SPT_ADDR i) v m) 0 48)) s).after s)
  | .SPT_LINE | .SPT_STRIDE => some (plain.spoutDrop i)
  | .ARC_CFG => some ((execDensityWrite (BitVec.ofNat 2 (newFld v ARC_CFG_DENSITY)) s).after s)
  | .ARC_RESV =>
    let x := blendBits (s.rd .ARC_RESV i) v m
    some (s.resvWrite i (newFld x ARC_RESV_RATE) (newFld x ARC_RESV_DEPTH))
  | .ARC_ADMIT => some plain.admitShow
  | .ARC_STG => some (s.withEn q v m ARC_STG_EN (fun b => execStagingEnable (Fin.ofNat 32 i) b))
  | .ARC_FILL_CTRL => some (if newBit v m ARC_FILL_CTRL_GO then plain.fillGo i else plain)
  | .PWR_DOM_CTRL => some (if wrote m PWR_DOM_CTRL_EN then s.pwrWrite (Fin.ofNat 221 i) (newFld v PWR_DOM_CTRL_EN == 1) else s)
  | .LDG_RESET => some (s.resetWrite (newFld v LDG_RESET_LEVEL) (newFld v LDG_RESET_TARGET))
  | .LDG_KEEP => some (s.keepReg r v m)
  | .LDG_FW_CTRL => some (if newBit v m LDG_FW_CTRL_GO then s.fwGo (newFld v LDG_FW_CTRL_FLASH == 1) (newFld v LDG_FW_CTRL_LC) else plain)
  | .LDG_DUMP_CFG => some (if newBit v m LDG_DUMP_CFG_REQ then plain.dumpStart 5 none 0xFFFFFFFF else plain)
  | .ORG_HART_CTRL => some plain.hartsShow
  | .GTH_MBOX_CMD =>
    some (if newBit v m GTH_MBOX_CMD_GO then gthNext 2 (s.gthGo i (reqCore r) (s.mboxArgs i (newFld v GTH_MBOX_CMD_CMD))) else plain)
  | .GZB_ALM_STICKY => some (s.stickyClear i v)
  | .GZB_ALM_RAISE => some ((execAlarmUser (BitVec.ofNat 8 (newFld v GZB_ALM_RAISE_SRC)) s).after s)
  | .GZB_LOG_PUT => some (if i = 0 then { s with gzb := { s.gzb with put0 := v &&& m } } else { s with gzb := { s.gzb with put1 := v &&& m } })
  | .GZB_LOG_PCODE => some (s.logPut (newFld v GZB_LOG_PCODE_CODE))
  | .GZB_LOG_RIDX => some (s.ridxWrite GZB_LOG_RIDX_IDX GZB_LOG_WIDX_IDX (blendBits (s.rd .GZB_LOG_RIDX i) v m))
  | .GZB_TRC_RIDX => some (s.ridxWrite GZB_TRC_RIDX_IDX GZB_TRC_WIDX_IDX (blendBits (s.rd .GZB_TRC_RIDX i) v m))
  | .GZB_TRC_CFG => some (s.traceLevel (newFld v GZB_TRC_CFG_LEVEL))
  | _ => none
/-- A write that takes effect: value `v` in the bits of `m`. -/
def regEffect (s : State) (r : Req) (q : RegAt) (v m : Nat) : State :=
  match s.writeFabric q v m with
  | some t => t
  | none => (s.writeSystem r q v m).getD (s.plainWrite q v m 0)
/-- A write of a register by its width and halves (R9): a low word is held until the high word comes. -/
def writeReg (s : State) (r : Req) (off v : Nat) (wide : Bool) (q : RegAt) : State :=
  let key := halfKey r (if q.hi then off - 4 else off)
  if q.reg.width = 4 then s.regEffect r q (v % 2 ^ 32) (2 ^ 32 - 1)
  else if wide = true ∧ q.hi = false then s.regEffect r q v (2 ^ 64 - 1)
  else if q.hi then
    match s.heldLow.get none key with
    | some lo => ({ s with heldLow := s.heldLow.set none key none }).regEffect r q (lo + (v % 2 ^ 32) * 2 ^ 32) (2 ^ 64 - 1)
    | none => s.regEffect r q ((v % 2 ^ 32) * 2 ^ 32) (2 ^ 64 - 2 ^ 32)
  else { s with heldLow := s.heldLow.set none key (some (v % 2 ^ 32)) }
/-- A write of a word of an MSI-X table; clearing a mask sends what is pending (R364). -/
def msixWrite (s : State) (fn vec w v : Nat) : State :=
  if w = 3 ∧ ¬ bit v 0 then s.msixUnmask fn vec
  else { s with pci := { s.pci with msix := s.pci.msix.set (if w = 3 then 1 else 0) (msixKey fn vec w) (if w = 3 then v % 2 else v % 2 ^ 32) } }
/-- A write of the register space (R8, R12, R351, R353, R417). [log entry 11 DESIGN CHOICE] -/
def regWrite (s : State) (r : Req) (off v : Nat) (wide : Bool) : State :=
  if ¬ s.reqReaches r off then s
  else match msixAt r off with
  | some (fn, vec, w) =>
    if s.mayWrite r off then
      let s := s.msixWrite fn vec w (v % 2 ^ 32)
      if wide ∧ w % 2 = 0 then s.msixWrite fn vec (w + 1) (v / 2 ^ 32) else s
    else s.denied r 10
  | none =>
    match reqOff r off with
    | none => s
    | some o =>
      if s.taken r o then (s.hostDenied ((unitOf o).getD 0)).deniedAt o
      else if 17 ≤ o / 0x100000 then s
      else if ¬ s.mayWrite r o then
        let s := s.denied r (o / 0x100000)
        match r with
        | .pf0 => s.deniedAt o
        | _ => s
      else if inPush o then
        (if s.fld GTH_MBOX_STAT_PHASE 0 ≠ 0 ∧ s.passOpen 1 ∧ ¬ s.pci.perst then gthNext 2 (s.passBytes 1 (leBytes (if wide then 8 else 4) v)) else s)
      else if inBuf o then s.putBytes (regBase + o) (leBytes (if wide then 8 else 4) v)
      else match findReg o with
      | none => s
      | some q =>
        if keeperReg q ∧ reqKeeper r = false then (match r with | .core _ => s | _ => s.hostDenied (o / 0x100000))
        else s.writeReg r o v wide q
end State
/-- REG_WRITE (R7-R9, R353, R417): a write of 32 or, `wide`, 64 bits at the 4-byte word `off` of the requester's register space. -/
def execRegWrite (r : Req) (off : BitVec 26) (wide : Bool) (v : BitVec 64) (s : State) : Outc :=
  done s (s.regWrite r (4 * off.toNat) v.toNat wide)
/-- READ_CLEAR (R7, R9): a read of 32 or, `wide`, 64 bits, which clears read-clear fields. -/
def execReadClear (r : Req) (off : BitVec 26) (wide : Bool) (s : State) : Outc := done s (s.regRead r (4 * off.toNat) wide)
/-- LOW_WORD_READ (R9): a 32-bit read of the low word of a 64-bit register, which latches the high one. -/
def execLowWordRead (r : Req) (off : BitVec 26) (s : State) : Outc := done s (s.regRead r (4 * off.toNat) false)
end Sys2Proof.Machine
end

