-- ==== Sys2Proof/Machine/Orangery.lean ====
section
/-! DEFINITION. Accesses of the host and the cores to the device address space (R14-R17, R148, R352, R416, R417). -/
namespace Sys2Proof.Machine
open Sys2Proof
namespace State
/-- A read of LPDDR by the host (R335, R352): poisoned LPDDR gives a poisoned completion. -/
def hostLp (s : State) (a n : Nat) : State :=
  if s.poisoned a n then s.emit .poisoned else (s.lpSee a n none).2.emit (.data (s.lpSee a n none).1)
/-- A read of the host through BAR4 (R352): register space, alias windows, Gatehouse space and unmapped addresses read 0.
[log entries 66 DEDUCED, 67 DEDUCED] -/
def bar4Read (s : State) (off n : Nat) : State :=
  let a := s.fld PCI_BAR4_OFS_OFS * 2 ^ 28 + off
  match s.region a with
  | .lpddr _ => if s.trained then s.hostLp a n else s.lpWait (.host a n)
  | .lpHole => s.arcRange.emit (.data (List.replicate n 0))
  | .pav p o => s.emit (.data (s.pavBytes p o n))
  | .fs _ => s.emit (.data (s.bytes a n))
  | .gth => (s.bump 0x0D0E 13).emit (.data (List.replicate n 0))
  | _ => s.emit (.data (List.replicate n 0))
/-- A store of a core (R17, R416): to LPDDR through its caches, to anything else at once; Gatehouse space drops it and counts
ORG_WR_DENIED. [log entry 252 DESIGN CHOICE] -/
def coreStore (s : State) (c a : Nat) (bs : List Byte) : State :=
  match s.region a with
  | .lpddr _ =>
    let x : CoreStore := ⟨c, a, bs⟩
    let s := s.lineStore x
    { s with org := { s.org with stores := s.org.stores ++ [x] } }
  | .regs o => s.regWrite (.core (Fin.ofNat 16 c)) o (leNat bs) (decide (bs.length = 8))
  | r => s.devWriteAt a bs r
/-- A load of a core (R17, R416). -/
def coreLoad (s : State) (c a n : Nat) : State :=
  match s.region a with
  | .lpddr _ => if s.trained then (s.coreLp c a n).2.emit (.data (s.coreLp c a n).1) else s.lpWait (.core c a n)
  | .regs o => s.regRead (.core (Fin.ofNat 16 c)) o (decide (n = 8))
  | .gth => (s.bump 0x0D0E 13).emit (.data (List.replicate n 0))
  | _ => s.aliasRead .core a n
/-- An access that has waited for LPDDR (R392). -/
def lpServe (s : State) (w : LpWait) : State :=
  match w with
  | .put (some (c, g)) a bs => s.ctxPut c g a bs
  | .put none a bs => s.lpPut a bs
  | .host a n => s.hostLp a n
  | .core c a n => (s.coreLp c a n).2.emit (.data (s.coreLp c a n).1)
  | .spout runs => (s.spanRead runs).2.spanSay (s.spanRead runs).1
  | .post i slot => s.postSlot i slot
/-- LPDDR is served: what has waited for it goes on, in order (R392). [log entry 288 DEDUCED] -/
def lpOpen (s : State) : State :=
  let s := (s.setFld ARC_CFG_TRAINED 1).logFlush
  ((s.arc.waits.foldl lpServe { s with arc := { s.arc with waits := [] } }).bindWaiting).coreDrain (fun _ => true)
end State
/-- TRAINING_DONE (R392). [log entry 68 DESIGN CHOICE] -/
def execTrainingDone (s : State) : Outc := done s (if s.arc.dens ∧ ¬ s.trained then s.lpOpen else s)
/-- BAR4_WRITE (R352): bytes at an offset of the window; and the other accesses to the device address space: a read through BAR4, a store
or a load of a core, and its FENCE, which completes once the Arcade has acknowledged every earlier store of the core (R416).
[log entry 251 DESIGN CHOICE] -/
def execBar4Write (w : MemAt) (x : MemAcc) (s : State) : Outc :=
  done s (match w with
    | .host off =>
      if s.hostUp then
        (match x with
        | .write bs => s.bar4Write off.toNat bs
        | .read n => s.bar4Read off.toNat n
        | .fence => s)
      else s
    | .core c a =>
      if s.coreUp c then
        (match x with
        | .write bs => s.coreStore c a.toNat bs
        | .read n => s.coreLoad c a.toNat n
        | .fence => s.coreDrain (fun y => y.core == c.val))
      else s)
end Sys2Proof.Machine
end

