-- ==== Sys2Proof/Machine/Stop.lean ====
section
/-! DEFINITION. The end of STOPPING of every switchable function (R266). -/
namespace Sys2Proof.Machine
open Sys2Proof
namespace State
/-- The STOPPING work of a function is done, as its chapter defines it (R84, R168, R199, R217, R290, R293, R354, R373, R386, R388,
R406). -/
def stopReady (s : State) (f : FnId) : Bool :=
  s.fnState f == 3 && (match f with
    | .plot p => (s.running p).isNone && (s.plot p).act == .idle
    | .stream i => (s.strmRetireIdle i).strmQuiet i
    | .head n => s.headStopped n
    | .batch _ => true
    | .bel d => s.belDomainQuiet d
    | .link l => s.linkDrained l
    | .port _ => true
    | .rx _ => true
    | .tx _ => true
    | .dma c => (s.dma c).cur.isNone
    | .pwr _ => true)
/-- It enters OFF; with PENDING_ON latched the cycles to come start it again. -/
def stopFinish (s : State) (f : FnId) : State :=
  match f with
  | .plot _ => s.stopDone f
  | .stream i => (((s.strmClear i).stopDone f).showFree i).windowServe i
  | .head n => (s.headOff n).stopDone f
  | .batch _ => s.stopDone f
  | .bel d => (s.ownDomain (176 + d) false).stopDone f
  | .link l => s.linkOff l
  | .port n => s.portOff n
  | .rx r => (s.stopDone f).setRxc r { count := (s.rxc r).count }
  | .tx _ => s.stopDone f
  | .dma _ => s.stopDone f
  | .pwr d => s.pwrOff d
/-- The work of a state that a function has just entered, as its chapter defines it (R266). -/
def fnWork (x : State × SwWork) (f : FnId) : State :=
  match f with
  | .plot p => plotWork x p
  | .stream i => strmWork x i
  | .head n => headWork x n
  | .batch g => batchWork x g
  | .bel d => if x.2 = .start then x.1.ownDomain (176 + d) true else x.1
  | .link l => linkWork x l
  | .port n => portWork x n
  | .rx r => if x.2 = .stop then x.1.rxShort r else x.1
  | .tx _ => x.1
  | .dma _ => x.1
  | .pwr _ => x.1.hartsShow
/-- The cycle of ON before a latched stop is over (R266): STOPPING. -/
def briefEnd (s : State) (f : FnId) : State :=
  if s.fnState f = 2 then fnWork (s.setFnState f 3, .stop) f else s
/-- The CLK_REF cycle of OFF before a latched enable is over (R266): STARTING, and PENDING_ON clears. -/
def restartEnd (s : State) (f : FnId) : State :=
  if s.fnState f = 0 ∧ s.fnPending f = true then fnWork ((s.setFnPending f false).setFnState f 1, .start) f else s
/-- What one CLK_TIME cycle does to functions in between two states (R266): a stop latched in STARTING, an enable latched in STOPPING
whose function has been OFF for the 5 ticks of a CLK_REF cycle. -/
def cycleStep (s : State) : State :=
  let fs := s.brief
  let rs := s.restart.filter (fun x => decide (x.2 + 5 ≤ s.tick))
  let s := { s with brief := [], restart := s.restart.filter (fun x => !decide (x.2 + 5 ≤ s.tick)) }
  (rs.map (fun x => x.1)).foldl restartEnd (fs.foldl briefEnd s)
end State
/-- STOPPING_DONE (R266). -/
def execStoppingDone (f : FnId) (s : State) : Outc := done s (if s.stopReady f then s.stopFinish f else s)
end Sys2Proof.Machine
end

