-- ==== Sys2Proof/Machine/Dispatch.lean ====
section
/-! DEFINITION. One arm per command. -/
namespace Sys2Proof.Machine
open Sys2Proof
/-- The effect of a command on everything but the queue. [log entry 2 DESIGN CHOICE] -/
def exec (i : Instr) (s : State) : Host.Outcome State Fault Refusal :=
  match i with
  | .regWrite r off wide v => Sys2Proof.Machine.execRegWrite r off wide v s
  | .readClear r off wide => Sys2Proof.Machine.execReadClear r off wide s
  | .tbStepWrite n v => Sys2Proof.Machine.execTbStepWrite n v s
  | .tbLoad n => Sys2Proof.Machine.execTbLoad n s
  | .tbOvr n => Sys2Proof.Machine.execTbOvr n s
  | .tbIncWrite n v => Sys2Proof.Machine.execTbIncWrite n v s
  | .tbPhaseApply n => Sys2Proof.Machine.execTbPhaseApply n s
  | .holdoverClear n => Sys2Proof.Machine.execHoldoverClear n s
  | .tbCapture mask => Sys2Proof.Machine.execTbCapture mask s
  | .pairForce => Sys2Proof.Machine.execPairForce s
  | .pairPeriodic => Sys2Proof.Machine.execPairPeriodic s
  | .lcApply mask => Sys2Proof.Machine.execLcApply mask s
  | .lcFrameStart n => Sys2Proof.Machine.execLcFrameStart n s
  | .genlockPulse => Sys2Proof.Machine.execGenlockPulse s
  | .genlockTimeout n => Sys2Proof.Machine.execGenlockTimeout n s
  | .atPos k => Sys2Proof.Machine.execAt k s
  | .atComplete k => Sys2Proof.Machine.execAtComplete k s
  | .due k => Sys2Proof.Machine.execDue k s
  | .lineStartCheck p fin => Sys2Proof.Machine.execLineStartCheck p fin s
  | .duePositionReached p => Sys2Proof.Machine.execDuePositionReached p s
  | .time k ph => Sys2Proof.Machine.execTime k ph s
  | .plotEnable p en => Sys2Proof.Machine.execPlotEnable p en s
  | .imageLoad p => Sys2Proof.Machine.execImageLoad p s
  | .stoppingDone f => Sys2Proof.Machine.execStoppingDone f s
  | .plotMapWrite q v => Sys2Proof.Machine.execPlotMapWrite q v s
  | .membershipChange p => Sys2Proof.Machine.execMembershipChange p s
  | .commandFire k move => Sys2Proof.Machine.execCommandFire k move s
  | .commandCommit k => Sys2Proof.Machine.execCommandCommit k s
  | .tokenLand p chid slot => Sys2Proof.Machine.execTokenLand p chid slot s
  | .creditLand p chid slot => Sys2Proof.Machine.execCreditLand p chid slot s
  | .wicketAlloc w owner v => Sys2Proof.Machine.execWicketAlloc w owner v s
  | .wsig k => Sys2Proof.Machine.execWsig k s
  | .wicketSignal k => Sys2Proof.Machine.execWicketSignal k s
  | .wwait k => Sys2Proof.Machine.execWwait k s
  | .wwaitRelease k => Sys2Proof.Machine.execWwaitRelease k s
  | .waitTimeout k => Sys2Proof.Machine.execWaitTimeout k s
  | .barrier k => Sys2Proof.Machine.execBarrier k s
  | .barrierRelease w => Sys2Proof.Machine.execBarrierRelease w s
  | .tdesc k => Sys2Proof.Machine.execTdesc k s
  | .sdesc k => Sys2Proof.Machine.execSdesc k s
  | .kdesc k => Sys2Proof.Machine.execKdesc k s
  | .conv k ph => Sys2Proof.Machine.execConv k ph s
  | .dwconv k ph => Sys2Proof.Machine.execDwconv k ph s
  | .gemm k ph => Sys2Proof.Machine.execGemm k ph s
  | .pool k ph => Sys2Proof.Machine.execPool k ph s
  | .resamp k ph => Sys2Proof.Machine.execResamp k ph s
  | .elt k ph => Sys2Proof.Machine.execElt k ph s
  | .act k ph => Sys2Proof.Machine.execAct k ph s
  | .norm k ph => Sys2Proof.Machine.execNorm k ph s
  | .smax k ph => Sys2Proof.Machine.execSmax k ph s
  | .reduce k ph => Sys2Proof.Machine.execReduce k ph s
  | .quant k ph => Sys2Proof.Machine.execQuant k ph s
  | .rng k ph => Sys2Proof.Machine.execRng k ph s
  | .stat k ph => Sys2Proof.Machine.execStat k ph s
  | .digest k ph => Sys2Proof.Machine.execDigest k ph s
  | .flow k => Sys2Proof.Machine.execFlow k s
  | .disp k => Sys2Proof.Machine.execDisp k s
  | .warp k => Sys2Proof.Machine.execWarp k s
  | .belRequestAccept e => Sys2Proof.Machine.execBelRequestAccept e s
  | .belRequestStart e => Sys2Proof.Machine.execBelRequestStart e s
  | .belRequestComplete e => Sys2Proof.Machine.execBelRequestComplete e s
  | .load k ph => Sys2Proof.Machine.execLoad k ph s
  | .store k ph => Sys2Proof.Machine.execStore k ph s
  | .send k ph => Sys2Proof.Machine.execSend k ph s
  | .recv k ph => Sys2Proof.Machine.execRecv k ph s
  | .halo k ph => Sys2Proof.Machine.execHalo k ph s
  | .atom k ph => Sys2Proof.Machine.execAtom k ph s
  | .loop k => Sys2Proof.Machine.execLoop k s
  | .endloop k => Sys2Proof.Machine.execEndloop k s
  | .drainPoint k => Sys2Proof.Machine.execDrainPoint k s
  | .br k => Sys2Proof.Machine.execBr k s
  | .commit k => Sys2Proof.Machine.execCommit k s
  | .fence k => Sys2Proof.Machine.execFence k s
  | .fenceDone k => Sys2Proof.Machine.execFenceDone k s
  | .halt k => Sys2Proof.Machine.execHalt k s
  | .nop k => Sys2Proof.Machine.execNop k s
  | .ctxAlloc c => Sys2Proof.Machine.execCtxAlloc c s
  | .ctxTear c => Sys2Proof.Machine.execCtxTear c s
  | .teardownDrainDone c => Sys2Proof.Machine.execTeardownDrainDone c s
  | .drainTimeout c => Sys2Proof.Machine.execDrainTimeout c s
  | .slotBind p j v => Sys2Proof.Machine.execSlotBind p j v s
  | .slotUnbind p j => Sys2Proof.Machine.execSlotUnbind p j s
  | .reimage p j => Sys2Proof.Machine.execReimage p j s
  | .reimageSwitch p => Sys2Proof.Machine.execReimageSwitch p s
  | .resumeArm p addr => Sys2Proof.Machine.execResumeArm p addr s
  | .seedWrite p ix hi v => Sys2Proof.Machine.execSeedWrite p ix hi v s
  | .periodStart p => Sys2Proof.Machine.execPeriodStart p s
  | .quantumExpiry p => Sys2Proof.Machine.execQuantumExpiry p s
  | .preemptRequest p => Sys2Proof.Machine.execPreemptRequest p s
  | .preemptGraceExpiry p => Sys2Proof.Machine.execPreemptGraceExpiry p s
  | .switchOut p => Sys2Proof.Machine.execSwitchOut p s
  | .switchIn p => Sys2Proof.Machine.execSwitchIn p s
  | .batchGroupEnable g en => Sys2Proof.Machine.execBatchGroupEnable g en s
  | .join g sid prio cls => Sys2Proof.Machine.execJoin g sid prio cls s
  | .leave g sid => Sys2Proof.Machine.execLeave g sid s
  | .laneMapAck g => Sys2Proof.Machine.execLaneMapAck g s
  | .streamEnable ix en => Sys2Proof.Machine.execStreamEnable ix en s
  | .inputPost ix slot => Sys2Proof.Machine.execInputPost ix slot s
  | .headlessSignal ix => Sys2Proof.Machine.execHeadlessSignal ix s
  | .bandLatch ix => Sys2Proof.Machine.execBandLatch ix s
  | .aliasRead ix off n who => Sys2Proof.Machine.execAliasRead ix off n who s
  | .bandDue n => Sys2Proof.Machine.execBandDue n s
  | .holdPromote ix => Sys2Proof.Machine.execHoldPromote ix s
  | .headEnable n en => Sys2Proof.Machine.execHeadEnable n en s
  | .headCommit mask => Sys2Proof.Machine.execHeadCommit mask s
  | .commitTake n => Sys2Proof.Machine.execCommitTake n s
  | .headFrameStart n => Sys2Proof.Machine.execHeadFrameStart n s
  | .hpdLoss n pin => Sys2Proof.Machine.execHpdLoss n pin s
  | .hpdReturn n => Sys2Proof.Machine.execHpdReturn n s
  | .dpTrainRetry n ok => Sys2Proof.Machine.execDpTrainRetry n ok s
  | .underrun n l => Sys2Proof.Machine.execUnderrun n l s
  | .critHoldEnd => Sys2Proof.Machine.execCritHoldEnd s
  | .regionRowDone n => Sys2Proof.Machine.execRegionRowDone n s
  | .regionSent n => Sys2Proof.Machine.execRegionSent n s
  | .stageSlotReuse n => Sys2Proof.Machine.execStageSlotReuse n s
  | .keepaliveTimer n => Sys2Proof.Machine.execKeepaliveTimer n s
  | .pinCheck n push crc => Sys2Proof.Machine.execPinCheck n push crc s
  | .arrive h w => Sys2Proof.Machine.execArrive h w s
  | .release h w trel ts => Sys2Proof.Machine.execRelease h w trel ts s
  | .syncInEdge => Sys2Proof.Machine.execSyncInEdge s
  | .gbarRelease w => Sys2Proof.Machine.execGbarRelease w s
  | .linkEnable l en => Sys2Proof.Machine.execLinkEnable l en s
  | .linkTrainingDone l lanes rtt chip nlink nbr => Sys2Proof.Machine.execLinkTrainingDone l lanes rtt chip nlink nbr s
  | .linkTrainRetry l => Sys2Proof.Machine.execLinkTrainRetry l s
  | .helloTimer l => Sys2Proof.Machine.execHelloTimer l s
  | .hello l reach => Sys2Proof.Machine.execHello l reach s
  | .ackNak l nak lseq => Sys2Proof.Machine.execAckNak l nak lseq s
  | .lstate l reach group => Sys2Proof.Machine.execLstate l reach group s
  | .frameCheckFail l kind => Sys2Proof.Machine.execFrameCheckFail l kind s
  | .linkSilenceTimeout l => Sys2Proof.Machine.execLinkSilenceTimeout l s
  | .laneFail l lane => Sys2Proof.Machine.execLaneFail l lane s
  | .laneSwap l => Sys2Proof.Machine.execLaneSwap l s
  | .haloReq h k step plot chid row0 rows tags => Sys2Proof.Machine.execHaloReq h k step plot chid row0 rows tags s
  | .haloAnswer => Sys2Proof.Machine.execHaloAnswer s
  | .haloBusyRetry busy k => Sys2Proof.Machine.execHaloBusyRetry busy k s
  | .haloData h k step codes ents axis bmax refused => Sys2Proof.Machine.execHaloData h k step codes ents axis bmax refused s
  | .haloAck h plot chid step abandon => Sys2Proof.Machine.execHaloAck h plot chid step abandon s
  | .wsigFrame h w n => Sys2Proof.Machine.execWsigFrame h w n s
  | .waitReq h w req n => Sys2Proof.Machine.execWaitReq h w req n s
  | .waitDone h w result => Sys2Proof.Machine.execWaitDone h w result s
  | .waitCancel h w req => Sys2Proof.Machine.execWaitCancel h w req s
  | .fenceFrame l origin id => Sys2Proof.Machine.execFenceFrame l origin id s
  | .fenceAck l origin id => Sys2Proof.Machine.execFenceAck l origin id s
  | .tsyncTimer => Sys2Proof.Machine.execTsyncTimer s
  | .tsync h reply ofs => Sys2Proof.Machine.execTsync h reply ofs s
  | .groupCfgApply => Sys2Proof.Machine.execGroupCfgApply s
  | .cutOffTimer noSideKeeps => Sys2Proof.Machine.execCutOffTimer noSideKeeps s
  | .rejoin => Sys2Proof.Machine.execRejoin s
  | .autoRejoinTimer => Sys2Proof.Machine.execAutoRejoinTimer s
  | .rejoinReq h ptp jump => Sys2Proof.Machine.execRejoinReq h ptp jump s
  | .rejoinGrant h who fr cause => Sys2Proof.Machine.execRejoinGrant h who fr cause s
  | .rejoinLapse => Sys2Proof.Machine.execRejoinLapse s
  | .rejoinFrame => Sys2Proof.Machine.execRejoinFrame s
  | .formation => Sys2Proof.Machine.execFormation s
  | .hang e => Sys2Proof.Machine.execHang e s
  | .plotStall p => Sys2Proof.Machine.execPlotStall p s
  | .suspectReplay e => Sys2Proof.Machine.execSuspectReplay e s
  | .replayWatchdog e => Sys2Proof.Machine.execReplayWatchdog e s
  | .engineReset e ev => Sys2Proof.Machine.execEngineReset e ev s
  | .headReset n => Sys2Proof.Machine.execHeadReset n s
  | .partitionReset p ev => Sys2Proof.Machine.execPartitionReset p ev s
  | .chipWarmReset ev => Sys2Proof.Machine.execChipWarmReset ev s
  | .levelTimeout l => Sys2Proof.Machine.execLevelTimeout l s
  | .pavilionRetire v => Sys2Proof.Machine.execPavilionRetire v s
  | .spareMapChange v => Sys2Proof.Machine.execSpareMapChange v s
  | .keeperHeartbeatMiss k => Sys2Proof.Machine.execKeeperHeartbeatMiss k s
  | .schedHeartbeatMiss => Sys2Proof.Machine.execSchedHeartbeatMiss s
  | .keepersSilent => Sys2Proof.Machine.execKeepersSilent s
  | .fwGo flash lc => Sys2Proof.Machine.execFwGo flash lc s
  | .fwHandoverFrame => Sys2Proof.Machine.execFwHandoverFrame s
  | .dumpReq => Sys2Proof.Machine.execDumpReq s
  | .dumpReadTimeout unit word => Sys2Proof.Machine.execDumpReadTimeout unit word s
  | .dumpDone units => Sys2Proof.Machine.execDumpDone units s
  | .powerLoss => Sys2Proof.Machine.execPowerLoss s
  | .supplyDetector rel => Sys2Proof.Machine.execSupplyDetector rel s
  | .porstRelease src addr test flash => Sys2Proof.Machine.execPorstRelease src addr test flash s
  | .coldReset => Sys2Proof.Machine.execColdReset s
  | .pushWrite bs => Sys2Proof.Machine.execPushWrite bs s
  | .hartRelease h => Sys2Proof.Machine.execHartRelease h s
  | .quote m core nonce mask => Sys2Proof.Machine.execQuote m core nonce mask s
  | .identity m core => Sys2Proof.Machine.execIdentity m core s
  | .extend m core ix d => Sys2Proof.Machine.execExtend m core ix d s
  | .modelKey m core ctx blob => Sys2Proof.Machine.execModelKey m core ctx blob s
  | .decrypt m core slot src dst len iv aad tag => Sys2Proof.Machine.execDecrypt m core slot src dst len iv aad tag s
  | .decryptDone => Sys2Proof.Machine.execDecryptDone s
  | .unsealCtx m core ctx => Sys2Proof.Machine.execUnseal m core ctx s
  | .lcAdvance m core target token => Sys2Proof.Machine.execLcAdvance m core target token s
  | .debugChallenge m core => Sys2Proof.Machine.execDebugChallenge m core s
  | .debugUnlock m core scope sig => Sys2Proof.Machine.execDebugUnlock m core scope sig s
  | .rollbackAdvance m core level => Sys2Proof.Machine.execRollbackAdvance m core level s
  | .verify m core => Sys2Proof.Machine.execVerify m core s
  | .copy m core flash => Sys2Proof.Machine.execCopy m core flash s
  | .dmaEnable c e => Sys2Proof.Machine.execDmaEnable c e s
  | .dmaTailWrite c tail => Sys2Proof.Machine.execDmaTailWrite c tail s
  | .dmaDescriptor c desc data ok => Sys2Proof.Machine.execDmaDescriptor c desc data ok s
  | .dmaDescDone c => Sys2Proof.Machine.execDmaDescDone c s
  | .hostLinkDown => Sys2Proof.Machine.execHostLinkDown s
  | .perst k => Sys2Proof.Machine.execPerst k s
  | .flr f => Sys2Proof.Machine.execFlr f s
  | .spoutAddrWrite p a => Sys2Proof.Machine.execSpoutAddrWrite p a s
  | .spoutDataWrite p f off bs => Sys2Proof.Machine.execSpoutDataWrite p f off bs s
  | .spoutRead p f off n => Sys2Proof.Machine.execSpoutRead p f off n s
  | .spoutDoorbell p f off v => Sys2Proof.Machine.execSpoutDoorbell p f off v s
  | .doorbellDone p => Sys2Proof.Machine.execDoorbellDone p s
  | .msixUnmask f vec => Sys2Proof.Machine.execMsixUnmask f vec s
  | .devid => Sys2Proof.Machine.execDevid s
  | .heartbeat => Sys2Proof.Machine.execHeartbeat s
  | .status => Sys2Proof.Machine.execStatus s
  | .power => Sys2Proof.Machine.execPower s
  | .alarmMap => Sys2Proof.Machine.execAlarmMap s
  | .alarmSel src pec => Sys2Proof.Machine.execAlarmSel src pec s
  | .alarmEntry => Sys2Proof.Machine.execAlarmEntry s
  | .recovery off bs pec => Sys2Proof.Machine.execRecovery off bs pec s
  | .alertResponse => Sys2Proof.Machine.execAlertResponse s
  | .portEnable n e => Sys2Proof.Machine.execPortEnable n e s
  | .portLinkLoss p => Sys2Proof.Machine.execPortLinkLoss p s
  | .bypHoldTimer n => Sys2Proof.Machine.execBypHoldTimer n s
  | .frameIngress p bs ok idle resid => Sys2Proof.Machine.execFrameIngress p bs ok idle resid s
  | .guardTimer => Sys2Proof.Machine.execGuardTimer s
  | .guardReturnTimeout => Sys2Proof.Machine.execGuardReturnTimeout s
  | .ringClosed => Sys2Proof.Machine.execRingClosed s
  | .flush p chip seq => Sys2Proof.Machine.execFlush p chip seq s
  | .ptpEnable ix en => Sys2Proof.Machine.execPtpEnable ix en s
  | .ptpMessageTimer ix => Sys2Proof.Machine.execPtpMessageTimer ix s
  | .ptpEventRx ix typ seq corr two time peer => Sys2Proof.Machine.execPtpEventRx ix typ seq corr two time peer s
  | .sampleSetLatch ix => Sys2Proof.Machine.execSampleSetLatch ix s
  | .announceRx ix gm logi => Sys2Proof.Machine.execAnnounceRx ix gm logi s
  | .announceTimeout ix => Sys2Proof.Machine.execAnnounceTimeout ix s
  | .rxEnable r e => Sys2Proof.Machine.execRxEnable r e s
  | .rxPacket r pathB rts rseq marker overflow segs => Sys2Proof.Machine.execRxPacket r pathB rts rseq marker overflow segs s
  | .txEnable t e => Sys2Proof.Machine.execTxEnable t e s
  | .txFrameStart t => Sys2Proof.Machine.execTxFrameStart t s
  | .sndLate t => Sys2Proof.Machine.execSndLate t s
  | .cpuTx k => Sys2Proof.Machine.execCpuTx k s
  | .densityWrite v => Sys2Proof.Machine.execDensityWrite v s
  | .trainingDone => Sys2Proof.Machine.execTrainingDone s
  | .refreshSlot ce ue => Sys2Proof.Machine.execRefreshSlot ce ue s
  | .dramTempPoll hot => Sys2Proof.Machine.execDramTempPoll hot s
  | .resvWrite id rate depth => Sys2Proof.Machine.execResvWrite id rate depth s
  | .stagingEnable ix en => Sys2Proof.Machine.execStagingEnable ix en s
  | .stagingCopyDone ix => Sys2Proof.Machine.execStagingCopyDone ix s
  | .fillGo q => Sys2Proof.Machine.execFillGo q s
  | .fillDone q => Sys2Proof.Machine.execFillDone q s
  | .powerDomainEnable d e => Sys2Proof.Machine.execPowerDomainEnable d e s
  | .tempSensorRead hot sensor power => Sys2Proof.Machine.execTempSensorRead hot sensor power s
  | .emergThrottleStart droop => Sys2Proof.Machine.execEmergThrottleStart droop s
  | .emergThrottleEnd => Sys2Proof.Machine.execEmergThrottleEnd s
  | .alarmUser src => Sys2Proof.Machine.execAlarmUser src s
  | .stickyClear ix mask => Sys2Proof.Machine.execStickyClear ix mask s
  | .logPut code => Sys2Proof.Machine.execLogPut code s
  | .logRidxWrite trc v => Sys2Proof.Machine.execLogRidxWrite trc v s
  | .traceLevelWrite v => Sys2Proof.Machine.execTraceLevelWrite v s
  | .traceDecimation => Sys2Proof.Machine.execTraceDecimation s
  | .vlanEgressTimer => Sys2Proof.Machine.execVlanEgressTimer s
  | .belDomainEnable d e => Sys2Proof.Machine.execBelDomainEnable d e s
  | .fillBelowCrit n => Sys2Proof.Machine.execFillBelowCrit n s
  | .fetchLine n => Sys2Proof.Machine.execFetchLine n s
  | .pcieLinkTrained speed width => Sys2Proof.Machine.execPcieLinkTrained speed width s
  | .portLinkUp p => Sys2Proof.Machine.execPortLinkUp p s
  | .learnedEntryAgeOut vid mac => Sys2Proof.Machine.execLearnedEntryAgeOut vid mac s
  | .ptpGeneralMessage ix kind seq corr time => Sys2Proof.Machine.execPtpGeneralMessage ix kind seq corr time s
  | .bar4Write w x => Sys2Proof.Machine.execBar4Write w x s
  | .lowWordRead r off => Sys2Proof.Machine.execLowWordRead r off s
end Sys2Proof.Machine
end

