-- ==== Sys2Proof/Machine/Step.lean ====
section
/-! DEFINITION. One step: the command at the front of the queue, or a tick of CLK_TIME where none waits. -/
namespace Sys2Proof.Machine
open Sys2Proof
/-- A tick of CLK_TIME (R27, R28), which the block makes when no command waits. DESIGN CHOICE, log entry 1. [log entry 1 DESIGN CHOICE] -/
def idleTick (s : State) : Outc := done s (if s.gth.held then s else s.tickStep.cycleStep)
/-- One step: the command at the front of the queue acts on the machine with the rest of the queue. -/
def step (s : State) : Host.Outcome State Fault Refusal :=
  match s.pending with
  | [] => idleTick s
  | c :: rest => exec c { s with pending := rest }
/-- The machine with the command that a word spells at the front of its queue; unchanged where the word spells none. -/
def State.withFetchWord (s : State) (nbits w : Nat) : State :=
  match decodeTableWord nbits w with
  | some c => { s with pending := c :: s.pending }
  | none => s
end Sys2Proof.Machine
end

