-- ==== Sys2Proof/Safety.lean ====
section
/-! DEFINITION. What counts as a safe run, in the terms of the machine: a run goes on for ever, a device held in reset holds nothing, and
memory and registers keep their canonical form. -/
namespace Sys2Proof
/-- The four commands that act on a device held in reset: they move PORST_N, the rails or the reset itself (R319, R460-R463). -/
def Instr.isReset : Instr → Bool
  | .powerLoss => true
  | .supplyDetector _ => true
  | .porstRelease _ _ _ _ => true
  | .coldReset => true
  | _ => false
namespace Machine
/-- A register reads its reset value wherever OTP does not show through: all but GTH_STAT (R414, R427). -/
def regsAtReset (s : State) : Prop :=
  ∀ (d : BitVec 64) (a : Nat), a ≠ Reg.GTH_STAT.addr 0 0 → s.regs.get d a = d
/-- A device held in reset holds nothing (R319, R461): every memory is wiped, every register but the view of OTP is at its reset value,
every block is as at power-on, and no boot has begun. What is left is what the model keeps of the outside (queue, outputs, count of
free values), the pins, and OTP. -/
def heldClean (s : State) : Prop :=
  s.gth.held = true →
    regsAtReset s ∧
    s = { State.reset with
          pending := s.pending, out := s.out, freeN := s.freeN, regs := s.regs,
          pci := { State.reset.pci with perst := s.pci.perst },
          gth := { State.reset.gth with held := true, porst := s.gth.porst, lowRail := s.gth.lowRail, rootKey := s.gth.rootKey,
                                        identKey := s.gth.identKey, agreeKey := s.gth.agreeKey } }
/-- A content of `n` frames, the last with header `h`, that an up link brings is for this chip, and newer than the last delivered of its
origin and class (R295, R298, R301). -/
def State.zHere (s : State) (h : ZHdr) (kind : ZKind) (n : Nat := 1) : Bool :=
  s.linkUp h.link && (h.dst.val == s.zhl.chip) && ((s.zarriveN h.link n).zhl.chip == s.zhl.chip)
    && (s.zarriveN h.link n).znewer (32 * zclass kind + h.src) h.eseq.toNat
/-- The state in which it is delivered: acknowledged on its link, and the last of its origin and class (R296, R298). -/
def State.zTaken (s : State) (h : ZHdr) (kind : ZKind) (n : Nat := 1) : State :=
  let u := s.zarriveN h.link n
  { u with zhl := { u.zhl with seen := u.zhl.seen.set 0 (32 * zclass kind + h.src) (h.eseq.toNat + 1) } }
/-- A mailbox takes a command at once: it is not busy, and the Gatehouse runs no other command (R434). -/
def State.gthTakes (s : State) (m : Fin 2) : Bool := !s.on GTH_MBOX_STAT_BUSY m && !s.gthBusy
/-- A mailbox that has taken a command: CMD holds its number, BUSY is 1. -/
def State.gthGiven (s : State) (m : Fin 2) (c : MCmd) : State :=
  (s.setFld GTH_MBOX_CMD_CMD (State.cmdNo c) m).setFld GTH_MBOX_STAT_BUSY 1 m
/-- A run of `k` steps from `s` that no fault and no refusal stops. -/
def runsFor (k : Nat) (s : State) : Prop := ∃ t, core.run k s = .next t
end Machine
end Sys2Proof
end

