-- ==== Sys2Proof/Certificates/Slice0/Obligations.lean ====
section
/-! DEFINITION. The statements for the provers, by block: what the machine does as a whole, then what each command does where it takes
effect. `s.after t` is `t` with the queue, PORST_N and the rails as `s` has them. -/
open Sys2Proof Sys2Proof.Machine

/-! The machine. -/

/-- O1: a step takes the command at the front of the queue, and runs it with the rest.
(The model's choices in it: log entry 2.) -/
def Obligations.StepRunsFront : Prop :=
  ∀ (s : State) (c : Instr) (rest : List Instr), s.pending = c :: rest → step s = exec c { s with pending := rest }

/-- O2: with no command waiting, a step of a device out of reset is one tick of CLK_TIME (MODEL: log entry 1), and ends the states that a
switchable function holds for one cycle only (`cycleStep`, R266). A tick adds 1 to the tick count and, to each of the eight time bases, its
INC (R29). -/
def Obligations.IdleStepTicks : Prop :=
  (∀ s : State, s.pending = [] → s.gth.held = false → step s = .next (s.after s.tickStep.cycleStep)) ∧
  (∀ s : State, s.clkTick.tick = s.tick + 1 ∧
    ∀ n : Fin 8, (s.clkTick.tbase n).val = ((s.tbase n).val + s.fld SDL_TB_INC_INC n) % tbMod)

/-- O3: a device held in reset holds nothing, and every step keeps it so (R319, R461; `heldClean`).
(The model's choices in it: log entry 14.) -/
def Obligations.HeldCleanKept : Prop :=
  ∀ (s t : State), heldClean s → step s = .next t → heldClean t

/-- O4: the machine right after reset is out of reset and clean, and a cold reset and a power loss of any state whatever leave a device
held in reset that holds nothing.
(The model's choices in it: log entries 6, 9.) -/
def Obligations.ResetIsClean : Prop :=
  heldClean State.reset ∧ State.reset.gth.held = false ∧
  (∀ s : State, ∃ t, exec .coldReset s = .next t ∧ t.gth.held = true ∧ heldClean t) ∧
  (∀ s : State, ∃ t, exec .powerLoss s = .next t ∧ t.gth.held = true ∧ t.gth.lowRail = true ∧ heldClean t)

/-- O5: no run ever stops: from every state, after any number of steps there is a next state, and its queue has lost exactly that many
commands from its front, first in, first out.
(The model's choices in it: log entry 13.) -/
def Obligations.EveryRunGoesOn : Prop :=
  ∀ (k : Nat) (s : State), ∃ t, core.run k s = .next t ∧ t.pending = s.pending.drop k

/-- O6: a device held in reset ignores every command but the four that move PORST_N, the rails or the reset (R319, R461, R463).
(The model's choices in it: log entry 14.) -/
def Obligations.HeldDeviceIgnores : Prop :=
  ∀ (c : Instr) (s : State), c.isReset = false → s.gth.held = true → exec c s = .next s

/-- O7: a command that is not a reset never touches the queue, PORST_N or the rails, and never puts the device into reset.
(The model's choices in it: log entry 2.) -/
def Obligations.CommandsKeepThePins : Prop :=
  ∀ (c : Instr) (s t : State), c.isReset = false → exec c s = .next t →
    t.pending = s.pending ∧ t.gth.held = s.gth.held ∧ t.gth.porst = s.gth.porst ∧ t.gth.lowRail = s.gth.lowRail

/-! Sundial. -/

/-- O8: an accepted STEP write arms the step, an accepted LOAD write arms the loaded value and drops an armed step, and each replaces an
earlier one of its kind (R30, R32); OVR is set; an INC within its range is taken (R29); each write of a tick is noted, so that a HOLDOVER of
the tick can take it back (R32); HOLDOVER is cleared unless it was set in this tick (R7, R33). While HOLDOVER is 1, writes
of STEP, LOAD and INC of the base do nothing but count in DISCARDS (R33), and out of holdover so do an INC outside 1.0 ns to 0x2_FFFF_FFFF
(R29), a LOAD of more than 999,999,999 ns (R46), and a STEP beside an armed load (R32).
(The model's choices in it: log entry 245.) -/
def Obligations.TimeBaseWrites : Prop :=
  ∀ (n : Fin 8) (v : BitVec 64) (s : State), s.gth.held = false →
    (s.on SDL_TB_STAT_HOLDOVER n = false → (∀ x, (s.tbase n).arm ≠ .load x) →
      exec (.tbStepWrite n v) s = .next (s.after
        (s.setTbase n { s.tbNoted n with arm := .step (toSigned 64 v.toNat), armTick := s.tick }))) ∧
    (s.on SDL_TB_STAT_HOLDOVER n = false → s.fld SDL_TB_LOAD_NSS_NS n ≤ 999999999 →
      exec (.tbLoad n) s = .next (s.after
        (let v := (s.fld SDL_TB_LOAD_SEC_SEC n * 1000000000 + s.fld SDL_TB_LOAD_NSS_NS n) * 2 ^ 32 + s.fld SDL_TB_LOAD_NSS_SUB n * 2 ^ 28
         let d := match (s.tbase n).arm with
           | .step _ => s.addSat SDL_TB_STAT_DISCARDS 1 n
           | _ => s
         let own := match (s.tbase n).arm with
           | .step _ => if (s.tbase n).armTick = s.tick then 1 else 0
           | _ => 0
         (d.setTbase n { s.tbNoted n with arm := .load v, armTick := s.tick, wN := (s.tbNoted n).wN - own }).setFld SDL_TB_CTRL_LOAD 1 n))) ∧
    exec (.tbOvr n) s = .next (s.after (s.setFld SDL_TB_CTRL_OVR 1 n)) ∧
    (n.val ≠ 0 → s.on SDL_TB_STAT_HOLDOVER n = false → 0x100000000 ≤ v.toNat % 2 ^ 40 → v.toNat % 2 ^ 40 ≤ 0x2FFFFFFFF →
      exec (.tbIncWrite n v) s = .next (s.after
        (let t := (s.setTbase n (s.tbNoted n)).setFld SDL_TB_INC_INC (v.toNat % 2 ^ 40) n
         { t with sdl := { t.sdl with pairDue := true } }))) ∧
    exec (.holdoverClear n) s = .next (s.after
      (if s.hw.get none (SDL_TB_STAT_HOLDOVER.place n 0) = none then s.setFld SDL_TB_STAT_HOLDOVER 0 n else s)) ∧
    (s.on SDL_TB_STAT_HOLDOVER n = true →
      exec (.tbStepWrite n v) s = .next (s.after (s.addSat SDL_TB_STAT_DISCARDS 1 n)) ∧
      exec (.tbLoad n) s = .next (s.after (s.addSat SDL_TB_STAT_DISCARDS 1 n)) ∧
      (n.val ≠ 0 → exec (.tbIncWrite n v) s = .next (s.after (s.addSat SDL_TB_STAT_DISCARDS 1 n)))) ∧
    (n.val ≠ 0 → v.toNat % 2 ^ 40 < 0x100000000 ∨ 0x2FFFFFFFF < v.toNat % 2 ^ 40 →
      exec (.tbIncWrite n v) s = .next (s.after (s.addSat SDL_TB_STAT_DISCARDS 1 n))) ∧
    (999999999 < s.fld SDL_TB_LOAD_NSS_NS n →
      exec (.tbLoad n) s = .next (s.after (s.addSat SDL_TB_STAT_DISCARDS 1 n))) ∧
    (∀ x, (s.tbase n).arm = .load x → s.on SDL_TB_STAT_HOLDOVER n = false →
      exec (.tbStepWrite n v) s = .next (s.after (s.addSat SDL_TB_STAT_DISCARDS 1 n)))

/-- O9: the tick after a step or load was armed, it is accepted where the base is UNSET, OVR is set or its jump is within JUMP_LIMIT,
equal included, and never on TB0: the base takes the new value and clears UNSET, a capture of the tick
takes it (R46), and so do the times that its PTP instance latched in the tick (`ptpRestamp`, R381), line clocks on the base realign by the jump
in 1/16 ns, and a pair is taken. Else it is refused: the base stays, JUMP_REFUSED is set, the jump is recorded and TS_JUMP_REFUSED is raised. Either way OVR is
consumed (R30, R31, R34). -/
def Obligations.PhaseApplied : Prop :=
  ∀ (n : Fin 8) (s : State), s.gth.held = false → (s.tbase n).arm ≠ .none → (s.tbase n).armTick < s.tick →
    let v := (State.tbTarget (s.tbase n)).1
    let jump := (State.tbTarget (s.tbase n)).2
    let ok : Prop := n.val ≠ 0 ∧ (s.on SDL_TB_CTRL_UNSET n = true ∨ s.on SDL_TB_CTRL_OVR n = true ∨ jump ≤ s.fld SDL_TB_JLIM_JLIM n * 2 ^ 32)
    let u := (s.setFld SDL_TB_CTRL_OVR 0 n).setFld SDL_TB_CTRL_LOAD 0 n
    let nv := (v % (tbMod : Int)).toNat
    (ok → exec (.tbPhaseApply n) s = .next (s.after
      (let w := (u.setTbase n { s.tbase n with val := nv, arm := .none, stepAt := some s.tick, refused := false }).setFld SDL_TB_CTRL_UNSET 0 n
       let x := if (s.tbase n).capAt = some s.tick then w.tbCapture n else w
       ((x.ptpRestamp n).lcBaseJump n (((nv / 2 ^ 28 : Nat) : Int) - (((s.tbase n).val / 2 ^ 28 : Nat) : Int) : Int)).takePair))) ∧
    (¬ ok → exec (.tbPhaseApply n) s = .next (s.after
      ((((u.setTbase n { s.tbase n with arm := .none, refused := true }).raise SDL_TB_STAT_JUMP_REFUSED n).setFld SDL_TB_LAST_REF_JUMP
        (min (jump / 2 ^ 28) (2 ^ 63 - 1)) n).alarm n 0x0601)))

/-- O10: a capture copies each selected base into its snapshot registers (R46); PAIR_FORCE asks for a pair at the next tick, and a
periodic pair is taken 1 ms after the first and at every multiple of 1 ms (R34).
(The model's choices in it: log entries 17, 18.) -/
def Obligations.CapturesAndPairs : Prop :=
  ∀ (s : State), s.gth.held = false →
    (∀ mask : BitVec 8, exec (.tbCapture mask) s = .next (s.after
      ((List.range 8).foldl (fun t n => if mask.toNat.testBit n then t.tbCapture n else t) s))) ∧
    exec .pairForce s = .next (s.after { s.setFld SDL_CAPT_PAIR 1 with sdl := { s.sdl with pairDue := true } }) ∧
    (∀ f, s.sdl.firstPair = some f → f < s.tick → (s.tick - f) % 500000 = 0 → s.sdl.pairTick ≠ s.tick →
      ∃ t, exec .pairPeriodic s = .next t ∧
        t.sdl.pairs = (s.readPair s.nextSeq :: s.sdl.pairs).take 16 ∧ t.fld SDL_PAIR_SEQ_SEQ = s.nextSeq)

/-- O11: LC_APPLY marks the line clocks of heads that are OFF (R42); a line clock that has reached its next frame start starts the
frame, and its followers act on it: F increments, or where a new rate takes effect in PTP mode is that of the ideal start nearest to it
(R38), and the frame starts at its ideal start (R37); a genlock pulse acts on every line clock
(`genlockPulse`, R40), and one overdue by 2 × (DIV + 1) frames sets GENLOCK_LOST with its alarm.
(The model's choices in it: log entries 20, 21.) -/
def Obligations.LineClockCommands : Prop :=
  ∀ (s : State), s.gth.held = false →
    (∀ mask : BitVec 4, exec (.lcApply mask) s = .next (s.after (s.lcApplyWrite mask.toNat))) ∧
    (∀ n : Fin 4, s.lcDue n = true → exec (.lcFrameStart n) s = .next (s.after (s.frameStart n))) ∧
    (∀ (n : Fin 4) (x : Rat), (s.lclock n).live = true →
      ((s.lcAdvance n x).lclock n).start = x ∧
      ((s.lcAdvance n x).lclock n).frame = (if (s.lclock n).mode = 3 ∧ (s.lclock n).nextRate.isSome
        then ((State.ptpNear { (s.lclock n).takeRate with start := x } x).1 % 2 ^ 32).toNat else ((s.lclock n).frame + 1) % 2 ^ 32)) ∧
    exec .genlockPulse s = .next (s.after ((((s.genlockPulse 0).genlockPulse 1).genlockPulse 2).genlockPulse 3)) ∧
    (∀ n : Fin 4, (s.lclock n).mode = 2 → s.on SDL_LC_STAT_GENLOCK_LOST n = false →
      (s.lclock n).lastPulse + (2 * ((s.lclock n).div + 1) : Nat) * (s.lclock n).period ≤ s.baseRat (s.lclock n).base →
      exec (.genlockTimeout n) s = .next (s.after ((s.raise SDL_LC_STAT_GENLOCK_LOST n).alarm (0x0C + n) 0x0603)))

/-! Programs: the front end. `pkey k` is the program's key, `s.instrAt (pkey k)` the words of the instruction at its PC; `s.canIssue` says
that the program's plot is ON with its slot running and its context ACTIVE, and that the program waits for nothing and stands at that
opcode; `s.ctlBeat` is the beat of a plot controller on an instruction it issues (R323). -/

/-- O12: NOP goes on; HALT stops the program; the outermost LOOP opens the step loop, an inner one with a COUNT of 1 to 65,535 opens, with
0 skips past its ENDLOOP (R137); a BR whose operands and target are good goes to its target or on, and BR.TO clears TIMEOUT (R139); a
COMMIT with no span open only goes on, and one with a span before its due position that posts no band closes it (R105). -/
def Obligations.ControlInstructions : Prop :=
  ∀ (k : ProgId) (s : State), s.gth.held = false →
    let K := pkey k; let g := s.prog K; let ws := s.instrAt K
    (s.canIssue K 0x75 = true → exec (.nop k) s = .next (s.after (s.ctlBeat K (s.advance K)))) ∧
    (s.canIssue K 0x74 = true → exec (.halt k) s = .next (s.after (s.ctlBeat K (s.haltProg K)))) ∧
    (s.canIssue K 0x70 = true → bit (word ws 0) 53 = false →
      let n := bits (word ws 0) 0 32
      let e := (endOf g.code g.pc).getD g.pc
      (g.loops = [] → g.outerDone = false →
        exec (.loop k) s = .next (s.after (s.ctlBeat K (s.setProg K { g with pc := g.pc + 1, loops := [⟨g.pc + 1, e, n, 0, true⟩] })))) ∧
      (g.loops ≠ [] → n ≠ 0 → n ≤ 65535 →
        exec (.loop k) s = .next (s.after (s.ctlBeat K
          (s.setProg K { g with pc := g.pc + 1, loops := ⟨g.pc + 1, e, n, 0, false⟩ :: g.loops })))) ∧
      (g.loops ≠ [] → n = 0 → exec (.loop k) s = .next (s.after (s.ctlBeat K (s.goto K (e + 1)))))) ∧
    (s.canIssue K 0x70 = true → bit (word ws 0) 53 = true → ∀ f t, g.loops = f :: t →
      (f.outer = true → exec (.endloop k) s = .next (s.after (s.ctlBeat K (s.setProg K { g with wait := .drain })))) ∧
      (f.outer = false → f.idx + 1 < f.count →
        exec (.endloop k) s = .next (s.after (s.ctlBeat K
          (s.setProg K { g with pc := f.start, loops := { f with idx := f.idx + 1 } :: t })))) ∧
      (f.outer = false → f.count ≤ f.idx + 1 →
        exec (.endloop k) s = .next (s.after (s.ctlBeat K ((s.setProg K { g with loops := t }).goto K (g.pc + 1)))))) ∧
    (s.canIssue K 0x71 = true →
      let w := word ws 0
      let tgt : Int := (g.pc : Int) + toSigned 16 (bits w 0 16)
      State.brBad g w = false → State.brInside g tgt = true →
      let u := if bits w 51 3 = 5 then s.setProg K { g with timeout := false } else s
      exec (.br k) s = .next (s.after (s.ctlBeat K (u.goto K (if State.brTaken g w then tgt.toNat else g.pc + 1))))) ∧
    (s.canIssue K 0x72 = true → s.span (keyPlot K) = none → exec (.commit k) s = .next (s.after (s.ctlBeat K (s.advance K)))) ∧
    (s.canIssue K 0x72 = true → ∀ x, s.span (keyPlot K) = some x → s.spanLate x = false → x.band = none →
      exec (.commit k) s = .next (s.after (s.ctlBeat K ((s.setSpan (keyPlot K) none).advance K))))

/-- O13: a FENCE goes on once every earlier command of the program has committed, and with BEL every Belvedere request has completed;
until then it waits, and FENCE_DONE ends the wait (R140). At its drain point the outermost ENDLOOP completes (R103, R138).
(The model's choices in it: log entry 86.) -/
def Obligations.FencesAndDrains : Prop :=
  ∀ (k : ProgId) (s : State), s.gth.held = false →
    let K := pkey k; let g := s.prog K
    let bel := bit (word (s.instrAt K) 0) 53
    (s.canIssue K 0x73 = true → s.fenceOk K bel = true →
      exec (.fence k) s = .next (s.after (s.ctlBeat K (s.advance K)))) ∧
    (s.canIssue K 0x73 = true → s.fenceOk K bel = false →
      exec (.fence k) s = .next (s.after (s.ctlBeat K (s.setProg K { g with wait := .fence bel })))) ∧
    (∀ b, s.plotLive (keyPlot K) = true → g.wait = .fence b → s.fenceOk K b = true →
      exec (.fenceDone k) s = .next (s.after ((s.setProg K { g with wait := .none }).advance K))) ∧
    (s.drainReady K = true → exec (.drainPoint k) s = .next (s.after (s.drainPoint K)))

/-- O14: a descriptor that passes its checks fills its slot with its words (TDESC with the word it stands at), and the program goes on
(R101, R118, R119, R121); the descriptor that completes the sections of the plot has its channels checked (`chanCheck`, R96).
(The model's choices in it: log entry 91.) -/
def Obligations.DescriptorsFill : Prop :=
  ∀ (k : ProgId) (s : State), s.gth.held = false →
    let K := pkey k; let g := s.prog K; let ws := s.instrAt K
    let rs := bits (word ws 1) 22 8
    let mask := if bits (word ws 0) 46 2 = 2 then
        (if rs < (s.plot (keyPlot K)).stages then (s.prog (progKey (keyPlot K) rs)).mask else 2 ^ 24 - 1) else g.mask
    (s.canIssue K 0x10 = true → State.tdescOk mask ws = true →
      exec (.tdesc k) s = .next (s.after (s.ctlBeat K
        (((s.setProg K { g with tds := g.tds.set [] (bits (word ws 0) 48 6) (ws ++ [g.pc]) }).advance K).chanCheck (keyPlot K))))) ∧
    (s.canIssue K 0x11 = true → bits (word ws 0) 16 16 ≠ 0 →
      exec (.sdesc k) s = .next (s.after (s.ctlBeat K
        (((s.setProg K { g with sds := g.sds.set [] (bits (word ws 0) 49 5) ws }).advance K).chanCheck (keyPlot K))))) ∧
    (s.canIssue K 0x12 = true →
      let w := word ws 0
      bits w 42 6 ≠ 0 → bits w 36 6 ≠ 0 → bits w 22 6 ≠ 0 → bits w 16 6 ≠ 0 → (bits w 8 8 = 0 ∨ bits w 48 2 = 2) →
      exec (.kdesc k) s = .next (s.after (s.ctlBeat K
        (((s.setProg K { g with kds := g.kds.set [] (bits w 50 4) ws }).advance K).chanCheck (keyPlot K)))))

/-- O15: where the front end faults, the program's context is torn down with the code at the program's position: a COUNT above 65,535 and
a bad BR operand (OPERAND_BAD), a BR out of the body of its loop (BR_RANGE), a descriptor that fails its checks (DESC_BAD), a WSIG of 0,
an AT on a line clock that is OFF (TIME_BAD_REF) (R118-R121, R133, R134, R137, R139). -/
def Obligations.FrontEndFaults : Prop :=
  ∀ (k : ProgId) (s : State), s.gth.held = false →
    let K := pkey k; let g := s.prog K; let ws := s.instrAt K; let w := word ws 0
    let fault := fun (t : State) (code : Nat) => t.tearStart (t.plotCtx (keyPlot K)) code (keyPlot K) (keyStage K) (t.prog K).pc (t.prog K).step
    (s.canIssue K 0x70 = true → bit w 53 = false → g.loops ≠ [] → 65535 < bits w 0 32 →
      exec (.loop k) s = .next (s.after (s.ctlBeat K (fault s 0x020D)))) ∧
    (s.canIssue K 0x71 = true → State.brBad g w = true → exec (.br k) s = .next (s.after (s.ctlBeat K (fault s 0x020D)))) ∧
    (s.canIssue K 0x71 = true → State.brBad g w = false → State.brInside g ((g.pc : Int) + toSigned 16 (bits w 0 16)) = false →
      exec (.br k) s = .next (s.after (s.ctlBeat K (fault s 0x020F)))) ∧
    (s.canIssue K 0x11 = true → bits w 16 16 = 0 →
      exec (.sdesc k) s = .next (s.after (s.ctlBeat K
        (fault (s.setProg K { g with sds := g.sds.erase (bits w 49 5) }) 0x020C)))) ∧
    (s.canIssue K 0x51 = true → bits w 20 16 = 0 → exec (.wsig k) s = .next (s.after (s.ctlBeat K (fault s 0x020D)))) ∧
    (s.canIssue K 0x60 = true → bits w 53 1 = 0 → bits w 50 3 ≤ 3 → bits (word ws 1) 16 16 ≠ 65535 → (s.lclock (bits w 50 3)).mode = 0 →
      exec (.atPos k) s = .next (s.after (s.ctlBeat K (fault s 0x0608))))

/-- O16: a write of a PTR_WKT entry ends the pending waits, resets the wicket and sets OWNER and V (R97, R110). A WSIG of n > 0 on a wicket
of the context waits for its turn and takes effect once every earlier command has committed, where the program may still signal it; else it
faults WICKET_OWNER (R98). A WWAIT of n on an unfrozen wicket of this
chip subtracts n where COUNT suffices and else waits; with n = 0 it completes at once (R99, R133). A waiting WWAIT whose COUNT suffices is
released, and one whose timeout expires goes on with TIMEOUT set, WAIT_TIMEOUT counted and nothing subtracted (R133). -/
def Obligations.WicketInstructions : Prop :=
  ∀ (k : ProgId) (s : State), s.gth.held = false →
    let K := pkey k; let g := s.prog K; let ws := s.instrAt K
    let w := bits (word ws 0) 36 17; let n := bits (word ws 0) 20 16; let tmo := bits (word ws 0) 0 20
    let mine := s.wktOwned w (s.plotCtx (keyPlot K)) = true ∧ s.on PTR_WKT_BMODE w = false
    (∀ (x : BitVec 17) (o : BitVec 10) (v : Bool), exec (.wicketAlloc x o v) s = .next (s.after
      ((((s.wktEndWaits x.toNat).wktReset x.toNat).setFld PTR_WKT_OWNER o.toNat x.toNat).setFld PTR_WKT_V (b2n v) x.toNat))) ∧
    (s.canIssue K 0x51 = true → mine → n ≠ 0 →
      exec (.wsig k) s = .next (s.after (s.ctlBeat K ((s.setProg K { g with sigs := g.sigs ++ [⟨w, n, g.seqNext, g.pc⟩] }).advance K)))) ∧
    (s.ctxActive (s.plotCtx (keyPlot K)) = true →
      exec (.wicketSignal k) s = .next (s.after
        ((g.sigs.filter (State.sigReady g)).foldl (fun (t : State) x =>
            if t.wktOwned x.w (t.plotCtx (keyPlot K)) = true ∧ t.on PTR_WKT_BMODE x.w = false then t.wktGive x.w x.n
            else t.tearStart (t.plotCtx (keyPlot K)) 0x020A (keyPlot K) (keyStage K) x.pc (t.prog K).step)
          (s.setProg K { g with sigs := g.sigs.filter (fun x => !State.sigReady g x) })))) ∧
    (s.canIssue K 0x50 = true → mine → s.canBind w K = true →
      let u := s.bindWaiter w K
      let c := (u.wkt w).count
      (n = 0 → exec (.wwait k) s = .next (s.after (s.ctlBeat K (u.advance K)))) ∧
      (n ≠ 0 → u.proxyOf w = none → n ≤ c → u.frozen w = false →
        exec (.wwait k) s = .next (s.after (s.ctlBeat K
          (((u.setWkt w { u.wkt w with count := c - n }).strmConsume w n).advance K)))) ∧
      (n ≠ 0 → u.proxyOf w = none → c < n →
        exec (.wwait k) s = .next (s.after (s.ctlBeat K (u.setProg K
          { u.prog K with wait := .wwait w n (if tmo = 0 then none else some (u.fc + 64 * tmo)), waitAt := u.fc }))))) ∧
    (∀ x m d, s.plotLive (keyPlot K) = true → g.wait = .wwait x m d → m ≤ (s.wkt x).count → s.frozen x = false →
      let u := (s.setWkt x { s.wkt x with count := (s.wkt x).count - m }).strmConsume x m
      exec (.wwaitRelease k) s = .next (s.after ((u.setProg K { s.prog K with wait := .none, lastWait := some (x, m) }).advance K))) ∧
    (∀ x m d, s.plotLive (keyPlot K) = true → g.wait = .wwait x m (some d) → d ≤ s.fc → (s.wkt x).count < m →
      exec (.waitTimeout k) s = .next (s.after
        (((s.bump 0x0210 (keyPlot K)).setProg K { g with wait := .none, timeout := true }).advance K)))

/-- O17: a program's arrival at a BARRIER of k participants, on a wicket of its context with no waiter, joins those arrived and puts the
wicket in barrier mode; an arrival after the k-th one and before the release belongs to the next release (MODEL: log entry 262). Once k have
arrived at a barrier of this chip, those k go on and the wicket waits for a new first arrival, or holds those that have come since (R100). -/
def Obligations.Barriers : Prop :=
  (∀ (k : ProgId) (s : State), s.gth.held = false → s.canIssue (pkey k) 0x52 = true →
    let K := pkey k; let w0 := word (s.instrAt K) 0
    let w := bits w0 36 17; let n := bits w0 28 8 + 1; let grp := bit w0 27
    let g := s.wkt w
    let full := !g.arrived.isEmpty && decide (g.k ≤ g.arrived.length)
    s.wktOwned w (s.plotCtx (keyPlot K)) = true → s.fld PTR_WKT_WKIND w = 0 → g.arrived.contains K = false →
    n = (if g.arrived.isEmpty then n else if full then (if g.arrived.length = g.k then n else g.nextK) else g.k) →
    let u := (s.setFld PTR_WKT_BMODE 1 w).setWkt w
      { g with k := if full then g.k else n, nextK := if full then n else g.nextK, arrived := g.arrived ++ [K],
               count := g.arrived.length + 1, group := g.group || (grp && !full) }
    exec (.barrier k) s = .next (s.after (s.ctlBeat K (u.setProg K { s.prog K with wait := .barrier w n grp })))) ∧
  (∀ (w : BitVec 17) (s : State), s.gth.held = false →
    (s.wkt w.toNat).arrived ≠ [] → (s.wkt w.toNat).k ≤ (s.wkt w.toNat).arrived.length →
    ((s.wkt w.toNat).group = false ∨ s.gstate = 0) →
    exec (.barrierRelease w) s = .next (s.after (s.barrierOpen w.toNat)))

/-- O18: an AT whose target has passed goes on and counts AT_PASSED, and else waits; AT_COMPLETE ends the wait at or past the target (R43,
R134). A DUE of a conductor that posts to no stream, on a running clock and with no span open, and with REL = 0 on a headless stream, opens
its span, and counts DUE_RISK where
its WCET does not fit before its due position (R44, R135). At a line start LATE_WARN is raised where the static cycles left do not fit, and at the
due position DUE_MISS (R44).
(The model's choices in it: log entries 82, 83, 85.) -/
def Obligations.LineTimeInstructions : Prop :=
  ∀ (k : ProgId) (s : State), s.gth.held = false →
    let K := pkey k; let g := s.prog K; let ws := s.instrAt K; let w := word ws 0; let P := keyPlot K
    (s.canIssue K 0x60 = true →
      let kind := bits w 53 1; let idx := bits w 50 3; let rel := bit w 49
      let f := if kind = 0 then State.relFrame rel g.step (bits w 0 32) else word ws 1
      let l := bits (word ws 1) 16 16; let p := bits (word ws 1) 0 16
      (kind = 0 → idx ≤ 3 ∧ l ≠ 65535) → (kind = 1 → rel = false) → s.atOff kind idx = false →
      (s.atReached kind idx f l p = true → exec (.atPos k) s = .next (s.after (s.ctlBeat K ((s.bump 0x0607 P).advance K)))) ∧
      (s.atReached kind idx f l p = false →
        exec (.atPos k) s = .next (s.after (s.ctlBeat K (s.setProg K { g with wait := .at kind idx f l p }))))) ∧
    (∀ kind idx f l p, s.plotLive P = true → g.wait = .at kind idx f l p → s.atOff kind idx = false → s.atReached kind idx f l p = true →
      exec (.atComplete k) s = .next (s.after ((s.setProg K { g with wait := .none }).advance K))) ∧
    (s.canIssue K 0x61 = true → s.span P = none → s.on PLT_POST_SV P = false → (s.lclock (bits w 52 2)).mode ≠ 0 →
      (bit w 51 = true → s.headlessPlot P = false) →
      let sp : Span :=
        { lc := bits w 52 2, f := State.relFrame (bit w 51) g.step (bits w 0 32), l := bits (word ws 2) 16 16, p := bits (word ws 2) 0 16,
          stat := bits (word ws 1) 32 32, wcet := bits (word ws 1) 0 32, warn := if bit w 33 then some (bits w 34 17) else none,
          issued := s.fc, done := 0, warned := false, missed := false }
      let u := if (s.lclock sp.lc).live = true ∧ s.spanDue sp < s.spanNow sp + State.fcTime sp.wcet then s.bump 0x0606 P else s
      exec (.due k) s = .next (s.after (s.ctlBeat K ((u.setSpan P (some sp)).advance K)))) ∧
    (∀ (p : Fin 32) (fin : BitVec 32) (x : Span), s.span p = some x → s.lineStarted x.lc = true →
      let y := { x with done := max x.done fin.toNat }
      let u := s.setSpan p (some y)
      exec (.lineStartCheck p fin) s = .next (s.after
        (if u.spanDue y < u.spanNow y + State.fcTime (y.stat - y.done) then u.lateWarn p else u))) ∧
    (∀ (p : Fin 32) (x : Span), s.span p = some x → s.spanLate x = true → x.warned = true → x.missed = false →
      exec (.duePositionReached p) s = .next (s.after
        ((s.setProg (condKey p)
          { s.prog (condKey p) with span := some { x with missed := true }, misses := (s.prog (condKey p)).misses + 1 }).bump 0x0605 p)))

/-! Programs: slot commands. -/

/-- O19: a slot instruction whose slot holds no unfired command, on a plot whose descriptor sections and channels are checked, that passes
its own checks is dispatched: it joins the program's commands in program order, with the thresholds of R78 as they stand, and the front end
goes on (R89, R96, R144). A DIGEST of
MODE 0 arms its tensor in place of an earlier arm (R141).
(The model's choices in it: log entries 77, 78, 80.) -/
def Obligations.SlotInstructionsDispatch : Prop :=
  (∀ (k : ProgId) (o : Nat) (c : Instr) (s : State),
    (o, c) ∈ [(0x20, Instr.conv k .issue), (0x21, .dwconv k .issue), (0x22, .gemm k .issue), (0x23, .pool k .issue),
      (0x24, .resamp k .issue), (0x25, .elt k .issue), (0x26, .act k .issue), (0x27, .norm k .issue), (0x28, .smax k .issue),
      (0x29, .reduce k .issue), (0x2A, .quant k .issue), (0x79, .rng k .issue), (0x30, .flow k), (0x31, .disp k), (0x32, .warp k),
      (0x40, .load k .issue), (0x41, .store k .issue), (0x42, .send k .issue), (0x43, .recv k .issue), (0x44, .halo k .issue),
      (0x45, .atom k .issue), (0x62, .time k .issue), (0x7A, .stat k .issue), (0x78, .digest k .issue)] →
    s.gth.held = false → s.canIssue (pkey k) o = true →
    let K := pkey k; let g := s.prog K; let ws := s.instrAt K
    (o = 0x78 → bit (word ws 0) 53 = true) →
    State.slotWaits g (opc (word ws 0)) = false → (isCond K = true ∨ (s.allDesc (keyPlot K) = true ∧ (s.plot (keyPlot K)).chanOk = true)) →
    s.issueCheck K ws = none →
    let c' : Cmd := { pc := g.pc, words := ws, step := g.step, seq := g.seqNext,
                      idx := g.loops.map (fun f => if f.outer then g.step else f.idx), atFc := s.fc,
                      thr := match s.stagePhys (keyPlot K) (keyStage K) with
                        | some p => (s.fld PTR_ARITH_CFG_SAT_SHIFT p, s.fld PTR_ARITH_CFG_LOW_SHIFT p)
                        | none => (0, 0) }
    exec c s = .next (s.after (s.ctlBeat K ((s.setProg K { g with cmds := g.cmds ++ [c'], seqNext := g.seqNext + 1 }).advance K)))) ∧
  (∀ (k : ProgId) (s : State), s.gth.held = false → s.canIssue (pkey k) 0x78 = true →
    let K := pkey k; let g := s.prog K; let ws := s.instrAt K
    bit (word ws 0) 53 = false → s.issueCheck K ws = none →
    exec (.digest k .issue) s = .next (s.after (s.ctlBeat K ((s.setProg K
      { g with arms := g.arms.filter (fun a => a.1 != recTT (word ws 0)) ++ [(recTT (word ws 0), recTD (word ws 0), bits (word ws 1) 0 32)] }).advance
        K))))

/-- O20: a fired compute command runs: its result, by the MAC path, the vector engine or the generator, is held by the command until it
commits (R91, R92); one that faults tears its context down at its own position, a SCALE_SKEW with what its record names (R73). A window
command leaves its last windows in the window register (R145).
(The model's choices in it: log entries 106, 124, 253, 254, 255, 256.) -/
def Obligations.ComputeCommandsRun : Prop :=
  ∀ (k : ProgId) (o : Nat) (c : Instr) (s : State) (x : Cmd),
    (o, c) ∈ [(0x20, Instr.conv k .run), (0x21, .dwconv k .run), (0x22, .gemm k .run), (0x23, .pool k .run), (0x24, .resamp k .run),
      (0x25, .elt k .run), (0x26, .act k .run), (0x27, .norm k .run), (0x28, .smax k .run), (0x29, .reduce k .run), (0x2A, .quant k .run),
      (0x79, .rng k .run)] →
    s.gth.held = false → s.ctxActive (s.plotCtx (keyPlot (pkey k))) = true → s.firedOf (pkey k) o = some x → opc (word x.words 0) = o →
    let r := if isRng o then s.runRng (pkey k) x.words x.step else if macPath o then s.runMac (pkey k) x.words x.step x.thr
      else s.runVec (pkey k) x.words x.step x.thr
    let u := if isWin o then s.showWin (pkey k) x.words else s
    (∀ y, r = .ok y → exec c s = .next (s.after (u.finish (pkey k) x y))) ∧
    (∀ e, r = .error e → exec c s = .next (s.after
      (u.runFault (pkey k) x e (if e = 0x0107 then State.skewNames (u.skewOf (pkey k) x.words) else []))))

/-- O21: a fired movement command runs once LPDDR is served and every band it reads has been latched: it reads, writes what it writes to
LPDDR itself, and holds the rest of its result until it commits (R91, R130, R392); an ATOM lands one add at a time, and finishes with its last
(R132); poisoned data faults MEM_POISON (R335), and a LOAD whose
scale entries carry other tags SCALE_SKEW (R53, R73; that LOAD compares them is a reading of the model, log entry 101). A HALO sends
its request, and on an ISLAND chip completes at once (R305, R311).
(The model's choices in it: log entries 101, 124, 280.) -/
def Obligations.MovementCommandsRun : Prop :=
  (∀ (k : ProgId) (o : Nat) (c : Instr) (s : State) (x : Cmd),
    (o, c) ∈ [(0x40, Instr.load k .run), (0x41, .store k .run), (0x42, .send k .run), (0x43, .recv k .run), (0x45, .atom k .run),
      (0x62, .time k .run), (0x7A, .stat k .run), (0x78, .digest k .run)] →
    s.gth.held = false → s.ctxActive (s.plotCtx (keyPlot (pkey k))) = true → s.firedOf (pkey k) o = some x → s.moveMay (pkey k) x = true →
    (s.movePoison (pkey k) x = false → s.loadSkew (pkey k) x = none → opc (word x.words 0) ≠ 0x45 →
      exec c s = .next (s.after (s.moveFinish (pkey k) x (s.moveDo (pkey k) x).1 (s.moveDo (pkey k) x).2))) ∧
    (s.movePoison (pkey k) x = false → s.loadSkew (pkey k) x = none → opc (word x.words 0) = 0x45 →
      let e := x.res.stats.headD 0
      let n := nElems (tdDims (s.td (pkey k) (mTD (word x.words 0))))
      let t := s.runAtom (pkey k) x.words x.step x.cgen e
      exec c s = .next (s.after (if e + 1 < n then t.setCmd (pkey k) { x with res := { x.res with stats := [e + 1] } }
        else s.moveFinish (pkey k) x { x.res with stats := [n] } t))) ∧
    (s.movePoison (pkey k) x = true → exec c s = .next (s.after (s.runFault (pkey k) x 0x0908))) ∧
    (∀ y, s.movePoison (pkey k) x = false → s.loadSkew (pkey k) x = some y →
      exec c s = .next (s.after (s.runFault (pkey k) x 0x0107 (State.skewNames (some y)))))) ∧
  (∀ (k : ProgId) (s : State) (x : Cmd), s.gth.held = false → s.ctxActive (s.plotCtx (keyPlot (pkey k))) = true →
    s.haloCmd (pkey k) = some x → x.remote = false →
    (s.islanded = true → exec (.halo k .run) s = .next (s.after (s.haloZero (pkey k) x))) ∧
    (s.islanded = false → exec (.halo k .run) s = .next (s.after
      ((s.setProg (pkey k) { s.prog (pkey k) with
        cmds := (s.prog (pkey k)).cmds.map (fun e => if e.seq = x.seq then { e with remote := true } else e) }).haloSend (pkey k) x))))

/-- O22: the next command of a slot fires once it is ready and its scale headers pass (R90, R123). Only the oldest command of a program
commits, and only when it has finished (R91). A token that is due turns its slot's banks FULL, a credit turns them EMPTY, unless a wipe has
advanced their tag (R22, R95).
(The model's choices in it: log entries 124, 258, 259.) -/
def Obligations.CommandsFireAndCommit : Prop :=
  ∀ (k : ProgId) (s : State), s.gth.held = false →
    let K := pkey k
    (∀ (mv : Bool) (c : Cmd), s.plotLive (keyPlot K) = true → s.nextToFire K (b2n mv) = some c → s.cmdReady K c = true →
      s.belHolds K c = false → s.fireCheck K c.words = none → exec (.commandFire k mv) s = .next (s.after (s.fireDo K c))) ∧
    (∀ (c : Cmd) (t : List Cmd), (s.prog K).cmds = c :: t → c.phase = .finished → c.due ≤ s.fc →
      s.ctxActive (s.plotCtx (keyPlot K)) = true →
      exec (.commandCommit k) s = .next (s.after (((s.commitCmd K c).haloCommitted K c).progBeat K))) ∧
    (∀ (c : Cmd) (t : List Cmd), (s.prog K).cmds = c :: t → c.phase ≠ .finished →
      exec (.commandCommit k) s = .next (s.after s)) ∧
    (∀ (p : Fin 32) (chid : BitVec 8) (slot : Fin 8) (f : Flight), s.flightDue s.par.tokens (256 * p + chid.toNat) slot = some f →
      s.tagOf f.bank = f.tag →
      let u := (List.range f.n).foldl (fun t i => t.setFull (f.bank + i) true)
        { s with par := { s.par with tokens := s.par.tokens.filter (fun g => g != f) } }
      exec (.tokenLand p chid slot) s = .next (s.after ((u.setChan f.chan
        { u.chan f.chan with tokAt := (u.chan f.chan).tokAt.set 0 f.slot f.due, consumed := (u.chan f.chan).consumed.erase f.slot }).landGiven
          f))) ∧
    (∀ (p : Fin 32) (chid : BitVec 8) (slot : Fin 8) (f : Flight), s.flightDue s.par.credits (256 * p + chid.toNat) slot = some f →
      s.tagOf f.bank = f.tag →
      let u := (List.range f.n).foldl (fun t i => t.setFull (f.bank + i) false)
        { s with par := { s.par with credits := s.par.credits.filter (fun g => g != f) } }
      exec (.creditLand p chid slot) s = .next (s.after (u.setChan f.chan
        { u.chan f.chan with credAt := (u.chan f.chan).credAt.set 0 f.slot f.due })))

/-! Belvedere. -/

/-- O23: an engine with fewer than eight requests queued accepts the next one on its way (R129); it starts the head of its queue once the
inputs and outputs are ready and no engine of a lower number wants the same outputs, which reserves them (R176), and discards a stale head
unrun (R179); a request whose duration is over completes (R177). A domain is switched by EN (R168, R266).
(The model's choices in it: log entries 163, 169.) -/
def Obligations.BelvedereCommands : Prop :=
  ∀ (e : Fin 8) (s : State), s.gth.held = false →
    (∀ x, s.belTurn e = some x → (s.eng e).queue.length < 8 → x.req.pacer.isSome = true →
      exec (.belRequestAccept e) s = .next (s.after
        (({ s with bel := { s.bel with wait := s.bel.wait.filter (fun y => y != x) } }).setEng e
          { s.eng e with queue := (s.eng e).queue ++ [x.req] }))) ∧
    (∀ x, s.belTurn e = some x → (s.eng e).queue.length < 8 → x.req.pacer.isSome = false →
      let u := ({ s with bel := { s.bel with wait := s.bel.wait.filter (fun y => y != x) } }).setEng e
        { s.eng e with queue := (s.eng e).queue ++ [x.req] }
      exec (.belRequestAccept e) s = .next (s.after (u.setProg x.req.prog { u.prog x.req.prog with
        cmds := (u.prog x.req.prog).cmds.map (fun c => if c.seq = x.seq then { c with phase := .finished, due := x.due } else c) }))) ∧
    (∀ r t, (s.eng e).queue = r :: t → s.belStale r = false → s.belCanStart e = some r → s.belClash e (s.belSampled r) = false →
      s.belTrained e = true →
      exec (.belRequestStart e) s = .next (s.after ((s.belBegin e (s.belSampled r)).beat (256 + e)))) ∧
    (∀ r t, (s.eng e).queue = r :: t → (s.eng e).cur = none → s.fld BEL_PWR_CTRL_STATE (engDomain e) = 2 → s.belStale r = true →
      s.belTrained e = true →
      exec (.belRequestStart e) s = .next (s.after (((s.setEng e { s.eng e with queue := t }).staleTag).beat (256 + e)))) ∧
    (∀ r, (s.eng e).cur = some r → (s.eng e).due ≤ s.fc → s.trained = true →
      exec (.belRequestComplete e) s = .next (s.after (s.belFinish e r))) ∧
    (∀ (d : Fin 6), s.fnState (.bel d) = 0 → s.restart.any (fun x => x.1 == .bel d) = false →
      exec (.belDomainEnable d (.write true)) s = .next (s.after
        (((s.setFnEn (.bel d) true).setFnState (.bel d) 1).ownDomain (176 + d) true))) ∧
    (∀ (d : Fin 6), s.fnState (.bel d) = 1 → s.fnEn (.bel d) = true →
      exec (.belDomainEnable d .done) s = .next (s.after (s.setFnState (.bel d) 2)))

/-! Switchable functions (R266, R267), plots, slots and contexts. -/

/-- O24: Table 11.1 for every switchable function: a write of EN = 1 in OFF enters STARTING, of EN = 0 in ON enters STOPPING, in STARTING it is
latched in EN, in STOPPING it is latched in PENDING_ON, and elsewhere it changes EN only; EN reads the value last written. STARTING ends in ON,
which with a stop latched goes to STOPPING a cycle later, and a failed one in OFF; STOPPING ends in OFF, which with PENDING_ON goes to STARTING
after a CLK_REF cycle, unless a write of EN = 0 takes that back (R266, R267; the last is MODEL: log entry 265). -/
def Obligations.SwitchableFunctions : Prop :=
  ∀ (f : FnId) (s : State),
    let again := s.restart.any (fun x => x.1 == f)
    (∀ b, (s.enWrite f b).1.fnEn f = b) ∧
    (s.fnState f = 0 → again = false → s.enWrite f true = ((s.setFnEn f true).setFnState f 1, .start) ∧
      s.enWrite f false = (s.setFnEn f false, .none) ∧ ((s.enWrite f true).1.fnState f = 1)) ∧
    (s.fnState f = 0 → again = true → s.enWrite f true = (s.setFnEn f true, .none) ∧
      s.enWrite f false = ({ (s.setFnEn f false).setFnPending f false with restart := s.restart.filter (fun x => x.1 != f) }, .none)) ∧
    (s.fnState f = 1 → ∀ b, s.enWrite f b = (s.setFnEn f b, .none)) ∧
    (s.fnState f = 2 → s.enWrite f true = (s.setFnEn f true, .none) ∧
      s.enWrite f false = ({ (s.setFnEn f false).setFnState f 3 with brief := s.brief.erase f }, .stop)) ∧
    (s.fnState f = 3 → ∀ b, s.enWrite f b = ((s.setFnEn f b).setFnPending f b, .none)) ∧
    (s.fnState f = 1 → s.fnEn f = true → s.startDone f true = s.setFnState f 2) ∧
    (s.fnState f = 1 → s.fnEn f = false → s.startDone f true = { s.setFnState f 2 with brief := s.brief ++ [f] }) ∧
    (s.fnState f = 1 → s.startDone f false = s.setFnState f 0) ∧
    (s.fnState f = 2 → s.briefEnd f = State.fnWork (s.setFnState f 3, .stop) f) ∧
    (s.fnState f = 3 → s.fnPending f = true →
      s.stopDone f = { s.setFnState f 0 with restart := s.restart.filter (fun x => x.1 != f) ++ [(f, s.tick)] }) ∧
    (s.fnState f = 3 → s.fnPending f = false → s.stopDone f = s.setFnState f 0) ∧
    (s.fnState f = 0 → s.fnPending f = true → s.restartEnd f = State.fnWork ((s.setFnPending f false).setFnState f 1, .start) f)

/-- O25: STOPPING_DONE ends the STOPPING of a function whose work is done (`stopFinish`, R266); with no PENDING_ON latched a sender, a DMA
channel without a descriptor in progress, and a plot without a running slot enter OFF. -/
def Obligations.StoppingEnds : Prop :=
  ∀ (s : State), s.gth.held = false →
    (∀ f, s.stopReady f = true → exec (.stoppingDone f) s = .next (s.after (s.stopFinish f))) ∧
    (∀ t, s.fnState (.tx t) = 3 → s.fnPending (.tx t) = false →
      exec (.stoppingDone (.tx t)) s = .next (s.after (s.setFnState (.tx t) 0))) ∧
    (∀ c, s.fnState (.dma c) = 3 → (s.dma c).cur = none → s.fnPending (.dma c) = false →
      exec (.stoppingDone (.dma c)) s = .next (s.after (s.setFnState (.dma c) 0))) ∧
    (∀ p, s.fnState (.plot p) = 3 → s.running p = none → (s.plot p).act = .idle → s.fnPending (.plot p) = false →
      exec (.stoppingDone (.plot p)) s = .next (s.after (s.setFnState (.plot p) 0)))

/-- O26: a write of EN = 1 starts a plot that is OFF, a write of EN = 0 stops one that is ON, whose running slot is paused, or whose banks are
wiped at once where none runs (R84, R266; the latter is MODEL: log entry 267). The load
of a plot runs once LPDDR is served and its member pavilions are ON (R87, R407). A write of PTR_PLOT_MAP is held for the plots whose members it would change,
and at a boundary it takes effect, a running slot first being paused (R82, R83). Writes of RESUME, SEED and REIMAGE set RV with the address, a
half of a seed while the plot is OFF, and the bit of the slot (R255, R260), which is taken at a frame boundary (R282). A write of a
seed while the plot is not OFF is ignored.
(The model's choices in it: log entry 127.) -/
def Obligations.PlotCommands : Prop :=
  ∀ (p : Fin 32) (s : State), s.gth.held = false →
    (s.fnState (.plot p) = 0 → s.restart.any (fun x => x.1 == .plot p) = false → exec (.plotEnable p true) s = .next (s.after
      (State.plotWork ((s.setFnEn (.plot p) true).setFnState (.plot p) 1, .start) p))) ∧
    (s.fnState (.plot p) = 2 →
      let u : State := { (s.setFnEn (.plot p) false).setFnState (.plot p) 3 with brief := s.brief.erase (.plot p) }
      ((s.running p).isSome = true → exec (.plotEnable p false) s = .next (s.after (u.preempt p .stop))) ∧
      (s.running p = none → exec (.plotEnable p false) s = .next (s.after (((u.advanceGen p).wipePlot p).zeroWickets p)))) ∧
    (s.trained = true → s.membersOn p = true → exec (.imageLoad p) s = .next (s.after (s.imageLoad p))) ∧
    (∀ (i : Fin 36) (v : BitVec 32), exec (.plotMapWrite i v) s = .next (s.after (s.plotMapWrite i v.toNat))) ∧
    (s.memberBoundary p = true → s.running p = none →
      exec (.membershipChange p) s = .next (s.after (s.applyMembership p))) ∧
    (s.memberBoundary p = true → ∀ j, s.running p = some j →
      exec (.membershipChange p) s = .next (s.after (s.preempt p .member))) ∧
    (∀ a : BitVec 42, exec (.resumeArm p a) s = .next (s.after ((s.setFld PLT_RESUME_ADDR a.toNat p).setFld PLT_RESUME_RV 1 p))) ∧
    (s.plotState p = 0 → ∀ (i : Fin 8) (v : BitVec 64),
      exec (.seedWrite p i false v) s = .next (s.after (s.wr .PLT_SEED_LO v.toNat p i)) ∧
      exec (.seedWrite p i true v) s = .next (s.after (s.wr .PLT_SEED_HI v.toNat p i))) ∧
    (s.plotState p ≠ 0 → ∀ (i : Fin 8) (hi : Bool) (v : BitVec 64), exec (.seedWrite p i hi v) s = .next s) ∧
    (∀ j : Fin 16, exec (.reimage p j) s = .next (s.after
      ((s.setFld PLT_SLOT_CFG_REIMAGE 1 p j).setSlot p j { s.slot p j with reimage := true }))) ∧
    (∀ j, s.running p = some j → (s.plot p).reimgDue = true → s.on PLT_SLOT_CFG_REIMAGE p j = true →
      exec (.reimageSwitch p) s = .next (s.after ((s.setPlot p { s.plot p with reimgDue := false }).preempt p .reimage)))

/-- O27: an unbound slot is bound with the written PLT_SLOT_CFG, once the running slot has been charged (R277), which REFUSED answers where its
context is context 0 or not ACTIVE; a BE slot of a context not bound there becomes READY where the plot has no RT slot (R272). A bind whose
check must read LPDDR waits for it (R278, R392). A bound slot that does not hold its plot is unbound at once, one that runs is switched out
first, and one that is being switched in once its load is done (R275). -/
def Obligations.SlotBinding : Prop :=
  ∀ (p : Fin 32) (j : Fin 16) (v : BitVec 32) (s : State), s.gth.held = false →
    let c := bits v.toNat 0 10
    let u := s.wr .PLT_SLOT_CFG (setBits (setBits v.toNat 28 1 1) 29 3 0) p j
    let q := u.charge p
    let may := u.trained || !u.bindReads p j v.toNat
    (s.slotState p j = 0 → (s.slot p j).waits = none → may = true → (c = 0 ∨ q.ctxActive c = false) →
      exec (.slotBind p j v) s = .next (s.after (((q.unbind p j).raise PLT_SLOT_STAT_REFUSED p j).bump 0x0704 p))) ∧
    (s.slotState p j = 0 → (s.slot p j).waits = none → may = true → c ≠ 0 → q.ctxActive c = true → bit v.toNat 10 = false →
      (q.bound p).any (fun i => i != j && (q.slot p i).ctx == c) = false →
      let t := q.setSlot p j { ctx := c, rt := false, weight := max 1 (bits v.toNat 12 8), rtsteps := max 1 (bits v.toNat 20 8),
                               resume := bit v.toNat 11, v := (q.slot p j).v }
      ((List.range 16).filter (fun i => (i == j.val || q.slotState p i != 0) && (t.slot p i).rt)).isEmpty = true →
      exec (.slotBind p j v) s = .next (s.after (t.makeReady p j))) ∧
    (s.slotState p j = 0 → (s.slot p j).waits = none → may = false →
      exec (.slotBind p j v) s = .next (s.after (u.setSlot p j { u.slot p j with waits := some v.toNat }))) ∧
    (s.slotState p j ≠ 0 →
      let w := s.setFld PLT_SLOT_CFG_BIND 0 p j
      let x := w.setSlot p j { w.slot p j with unbindAfter := true }
      (w.running p ≠ some j → exec (.slotUnbind p j) s = .next (s.after (w.unbind p j))) ∧
      (w.running p = some j → exec (.slotUnbind p j) s = .next (s.after (match (x.plot p).act with
        | .load _ => x
        | .fenceWait _ => x
        | _ => x.preempt p .unbind))))

/-- O28: at a period start the quotas start again (R276); QUANTUM's expiry takes effect (`quantumExpiry`, R276,
R277); a pre-emption request stops dispatch and runs the grace, after which every fired command is aborted and counted (R279); once nothing
is in flight the running slot is switched out, and unbound where that was asked, and with no slot running the plot takes the slot chosen (R258, R274, R276).
(The model's choices in it: log entry 126.) -/
def Obligations.SharingCommands : Prop :=
  ∀ (p : Fin 32) (s : State), s.gth.held = false →
    ((s.plot p).periodDue = true → exec (.periodStart p) s = .next (s.after (s.periodStart p))) ∧
    (s.quantumDue p = true → exec (.quantumExpiry p) s = .next (s.after (s.quantumExpiry p))) ∧
    (s.preemptDue p = true → (s.plot p).act = .idle → (s.running p).isSome = true →
      exec (.preemptRequest p) s = .next (s.after (s.setPlot p
        { s.plot p with act := .pause (s.tick + max 1 (s.fld PLT_SHARE_GRACE p) * usTicks) .select }))) ∧
    (∀ d x, (s.plot p).act = .pause d x → d ≤ s.tick →
      exec (.preemptGraceExpiry p) s = .next (s.after ((s.progKeys p).foldl (fun t k =>
        (t.abortCmds k).addSat PLT_PRE_CNT_ABORTS (State.inFlight (t.prog k)).length p) s))) ∧
    (∀ d j, s.pauseQuiet p = true → s.trained = true → (s.plot p).act = .pause d .select → s.running p = some j →
      let t := s.switchOut p j (some (s.slotSave p j))
      exec (.switchOut p) s = .next (s.after (if (t.slot p j).unbindAfter = true then t.unbind p j else t))) ∧
    (∀ j, s.plotState p = 2 → s.fnBrief (.plot p) = false → s.running p = none → (s.plot p).act = .idle → (s.plot p).suspended = false → s.chooseSlot p = some j →
      exec (.switchIn p) s = .next (s.after (s.beginSwitchIn p j)))

/-- O29: an ALLOC of a FREE context makes it ACTIVE with FAULT, FREC, PCYC and BCYC cleared, and of another is ignored (R268); a TEAR of an
ACTIVE one other than context 0 begins its teardown with FAULT 0, and of another is ignored (R268, R283); once its writes have drained the
teardown goes on, and one still draining 4 µs after step 2 goes on with DRAIN_TIMEOUT raised (R284).
(The model's choices in it: log entries 39, 40.) -/
def Obligations.ContextCommands : Prop :=
  ∀ (c : BitVec 10) (s : State), s.gth.held = false →
    let n := c.toNat
    (s.ctxState n = 0 → exec (.ctxAlloc c) s = .next (s.after
      (((((s.setFld PTR_CTX_CTRL_STATE 1 n).setFld PTR_CTX_CTRL_FAULT 0 n).wr .PTR_CTX_FREC 0 n).wr .PTR_CTX_PCYC 0 n).wr .PTR_CTX_BCYC 0 n))) ∧
    (s.ctxState n ≠ 0 → exec (.ctxAlloc c) s = .next s) ∧
    (n ≠ 0 → s.ctxState n = 1 → exec (.ctxTear c) s = .next (s.after
      (let t := s.tearStart n 0 0 0 0 0
       t.setCtx n { t.ctx n with tearFc := s.fc + 1 }))) ∧
    (n = 0 ∨ s.ctxState n ≠ 1 → exec (.ctxTear c) s = .next s) ∧
    ((s.ctx n).tearStep = 2 → exec (.teardownDrainDone c) s = .next (s.after (s.tearGoOn n))) ∧
    ((s.ctx n).tearStep = 2 → (s.ctx n).drainAt + 4 * usTicks ≤ s.tick →
      exec (.drainTimeout c) s = .next (s.after (((s.setCtx n { s.ctx n with timedOut := true }).alarm 0x38 0x0708).tearGoOn n)))

/-- O30: a batch group's ENABLE runs its switch (R266, R286); a JOIN of a group that is ON queues the session, and is refused as a duplicate or
where 64 wait; a LEAVE takes a waiting session out, marks one in a lane as leaving, and answers NOT FOUND for one it does not know (R287);
an acknowledgement of the oldest lane map that awaits one signals its MAPWKT (R289).
(The model's choices in it: log entry 129.) -/
def Obligations.BatchCommands : Prop :=
  ∀ (g : Fin 16) (sid : BitVec 16) (prio : Fin 8) (cls : Fin 4) (s : State), s.gth.held = false →
    let b := s.batch g; let k := s.batchStep g; let x := sid.toNat
    (∀ en, exec (.batchGroupEnable g en) s = .next (s.after (State.batchWork (s.enWrite (.batch g) en) g))) ∧
    (s.fld PLT_BAT_CFG_STATE g = 2 →
      (State.sidKnown b x = true →
        exec (.join g sid prio cls) s = .next (s.after ((s.respond g x 3 4 0xFF k).addSat PLT_BAT_CNT_REFUSED 1 g))) ∧
      (State.sidKnown b x = false → 64 ≤ b.queue.length →
        exec (.join g sid prio cls) s = .next (s.after ((s.respond g x 3 1 0xFF k).addSat PLT_BAT_CNT_REFUSED 1 g))) ∧
      (State.sidKnown b x = false → b.queue.length < 64 →
        exec (.join g sid prio cls) s = .next (s.after ((s.setBatch g { b with queue := b.queue ++ [⟨x, prio, cls, 0, s.fc⟩] }).showBatch g))) ∧
      (b.queue.any (fun j => j.sid == x) = true →
        exec (.leave g sid) s = .next (s.after
          (((s.setBatch g { b with queue := b.queue.filter (fun j => j.sid != x) }).respond g x 5 0 0xFF k).showBatch g))) ∧
      (b.queue.any (fun j => j.sid == x) = false → State.sidKnown b x = true →
        exec (.leave g sid) s = .next (s.after (s.setBatch g
          { b with lanes := b.lanes.map (fun y => (y.1, y.2.map (fun l => if l.sid = x ∧ l.leaveAt = 0 then { l with leaveAt := s.fc + 1 } else l))) }))) ∧
      (State.sidKnown b x = false → exec (.leave g sid) s = .next (s.after (s.respond g x 6 0 0xFF k)))) ∧
    (∀ w o t, b.maps = (w, o) :: t →
      exec (.laneMapAck g) s = .next (s.after ((s.setBatch g { b with maps := t }).signalHw w o 1)))

/-! Belvedere's streams and heads. -/

/-- O31: STREAM_ENABLE switches a pacer: EN = 1 in OFF begins its start (`strmStart`), which with a check that fails ends OFF
with the code in FAULT; in the OFF that an enable latched in STOPPING is to end it begins nothing (R266); EN = 0 in ON enters STOPPING
(`strmStop`, R199). At the latch line of a band the pacer
signals the plot of the selection it has made, logs it, asks for its fallback and answers the window reads that waited for it (R204, R206,
R209); without an available input it selects nothing; of a frame whose signals ended with its plot's program it signals no further band (R261); a headless stream signals for each accepted input (R214). At the end of the last active line, a frame shown whole gives the hold buffer (R210).
(The model's choices in it: log entries 134, 138.) -/
def Obligations.StreamCommands : Prop :=
  ∀ (i : Fin 16) (s : State), s.gth.held = false →
    let st := s.strm i
    let live : Prop := s.strmState i = 2 ∨ s.strmState i = 3
    let again := s.restart.any (fun x => x.1 == .stream i)
    (s.fnState (.stream i) = 0 → again = false →
      let u := (s.setFnEn (.stream i) true).setFnState (.stream i) 1
      exec (.streamEnable i true) s = .next (s.after (u.strmStart i)) ∧
      (∀ c, u.strmCheck i = some c → exec (.streamEnable i true) s = .next (s.after
        (((u.setFld PLT_STRM_STAT_FAULT c i).setFnState (.stream i) 0).showFree i)))) ∧
    (s.fnState (.stream i) = 0 → again = true → exec (.streamEnable i true) s = .next (s.after (s.setFnEn (.stream i) true))) ∧
    (s.fnState (.stream i) = 2 → exec (.streamEnable i false) s = .next (s.after
      (({ (s.setFnEn (.stream i) false).setFnState (.stream i) 3 with brief := s.brief.erase (.stream i) }).strmStop i))) ∧
    (live → s.fnBrief (.stream i) = false → st.heads ≠ 0 → s.reached st.lc (s.linePos st.lc st.nextF (s.latchLine st st.nextB)) = true → st.stopFrame = none →
      let tk := if st.nextB = 0 then s.takeShadows i else st
      let ins := tk.inputs.filter (fun x => decide (x.accepted < s.tick))
      let next := fun (y : Strm) => if st.nextB + 1 < s.nBands tk.lc tk.bh ∧ y.live = true then { y with nextB := st.nextB + 1 }
        else { y with nextF := (st.nextF + 1) % 2 ^ 32, nextB := 0 }
      (s.select i tk st.nextF st.nextB ins (s.bandTime tk st.nextF st.nextB) = none →
        exec (.bandLatch i) s = .next (s.after (s.setStrm i (next tk)))) ∧
      (∀ x z, s.select i tk st.nextF st.nextB ins (s.bandTime tk st.nextF st.nextB) = some (x, z) → bit x.flags 2 = false →
        bit x.flags 3 = false →
        let u := (s.setStrm i (next z)).logSel i x
        let v := if z.mute = some st.nextF then u else u.pacerSignal i z.onA (st.nextF, st.nextB)
        exec (.bandLatch i) s = .next (s.after
          (((v.fallback i x).windowServe i).trace 1 0 i (st.nextF % 2 ^ 24 * 256 + st.nextB))))) ∧
    (live → s.fnBrief (.stream i) = false → st.heads = 0 → ∀ x, st.inputs.reverse.find? (fun x => !x.used0) = some x → ∀ y z,
      s.select i { s.takeShadows i with mode := 2 } x.seq 0 ((s.takeShadows i).inputs.dropWhile (fun y => y != x))
        (s.tb16 (s.lclock (s.takeShadows i).lc).base) = some (y, z) →
      exec (.headlessSignal i) s = .next (s.after
        ((((s.setStrm i { z with mode := (s.takeShadows i).mode }).logSel i y).pacerSignal i true (x.seq, 0)).windowServe i))) ∧
    (live → st.heads ≠ 0 → st.promF ≠ some (s.lclock st.lc).frame →
      s.reached st.lc ((s.lclock st.lc).frame,
        (if (s.head st.lc).running then (s.head st.lc).scan.vactive else s.lcVactive st.lc), 0) = true →
      let u := s.setStrm i { st with promF := some (s.lclock st.lc).frame }
      (u.shownWhole st (s.lclock st.lc).frame = false → exec (.holdPromote i) s = .next (s.after u)) ∧
      (u.shownWhole st (s.lclock st.lc).frame = true → ∀ q x,
        st.posts.find? (fun q => q.layer == 0 && q.frame == (s.lclock st.lc).frame) = some q →
        st.sels.find? (fun x => x.frame == (s.lclock st.lc).frame && x.band == 0) = some x →
        exec (.holdPromote i) s = .next (s.after (u.setStrm i { u.strm i with hold := some (q.buf, q.size, x.tau) }))))

/-- O32: a post of a slot outside the ring or still held counts BUSY and changes nothing else; one whose record's stamp is malformed or not
after the last counts STALE, one beyond the limit of the future counts FUTURE, and each frees the slot; any other is accepted: the slot is
busy and the input, with its SEQ and its stamp converted to the line clock's base, is the newest (R201). Where a post of a higher slot
number came in the same tick, the posts of the tick are handled anew in slot order.
(The model's choices in it: log entries 133, 269.) -/
def Obligations.InputPosts : Prop :=
  ∀ (i : Fin 16) (slot : BitVec 16) (s : State), s.gth.held = false → s.strmState i = 2 ∨ s.strmState i = 3 → s.trained = true →
    let st := s.strm i
    let p := s.postsNow i
    let posts := p.posts.filter (fun q => q.1 ≤ slot.toNat) ++ [(slot.toNat, none)] ++ p.posts.filter (fun q => slot.toNat < q.1)
    let ends := fun (t : State) => exec (.inputPost i slot) s = .next (s.after
      (t.setStrm i { t.strm i with posted := some { p with now := t.ring i, posts := posts } }))
    let at_ := st.ibase + st.nslots * st.istride + slot.toNat * 64
    let seq := s.lpNat at_ 4
    let ns := bits (s.lpNat (at_ + 16) 8) SDL_TB_LOAD_NSS_NS.lo SDL_TB_LOAD_NSS_NS.w
    let sub := bits (s.lpNat (at_ + 16) 8) SDL_TB_LOAD_NSS_SUB.lo SDL_TB_LOAD_NSS_SUB.w
    let w := (s.lclock st.lc).base
    let c := s.convert w (s.lpNat (at_ + 4) 1 % 8) ((s.lpNat (at_ + 8) 8 % 2 ^ 48 * 1000000000 + ns) * 16 + sub)
    let isNew : Prop := ∀ l, st.lastStamp = some l → l < (c.1 : Int)
    let first : Prop := p.posts.all (fun q => q.1 ≤ slot.toNat) = true
    (p.posts.all (fun q => q.1 ≤ slot.toNat) = false → ends (posts.foldl (fun u q => u.postOne i q.1 q.2) (s.postsUndo i p))) ∧
    (first → st.nslots ≤ slot.toNat ∨ st.busy.get false slot.toNat = true → ends (s.addSat PLT_STRM_CNT_BUSY 1 i)) ∧
    (first → slot.toNat < st.nslots → st.busy.get false slot.toNat = false → 999999999 < ns ∨ ¬ isNew →
      ends (c.2.refuseInput i slot.toNat PLT_STRM_CNT_STALE)) ∧
    (first → slot.toNat < st.nslots → st.busy.get false slot.toNat = false → ns ≤ 999999999 → isNew →
      (c.2.tb16 w : Int) + st.xlimit * 16 < c.1 → ends (c.2.refuseInput i slot.toNat PLT_STRM_CNT2_FUTURE)) ∧
    (first → slot.toNat < st.nslots → st.busy.get false slot.toNat = false → ns ≤ 999999999 → isNew →
      (c.1 : Int) ≤ (c.2.tb16 w : Int) + st.xlimit * 16 →
      let u := c.2.setStrm i { st with
        busy := st.busy.set false slot.toNat true, claim := st.claim.erase slot.toNat,
        inputs := (⟨slot.toNat, seq, c.1, c.2.tick, false, false, true⟩ :: st.inputs).take 64,
        lastStamp := some c.1, lastSeq := some seq }
      let v := match st.lastSeq with | some q => if seq = (q + 1) % 2 ^ 32 then u else u.addSat PLT_STRM_CNT_SKIP 1 i | none => u
      ends (((v.setFld PLT_STRM_STAT_SEQ (seq % 65536) i).showFree i).strmFree i))

/-- O33: an alias window read of an ON stream's selected input reads its slot's bytes, and a read with no selection reads zeros, or counts
ALIAS_MISS; a read of a band not yet latched is held until the latch (R206). No alias read changes memory.
(The model's choices in it: log entry 137.) -/
def Obligations.AliasReads : Prop :=
  ∀ (i : Fin 16) (off : BitVec 32) (len : Fin 65) (who : Reader) (s : State), s.gth.held = false →
    let n := min len.val (2 ^ 32 - off.toNat)
    (s.aliasResolve i (readerAs who) = .wait → exec (.aliasRead i off len who) s = .next (s.after
      (s.setStrm i { s.strm i with reads := (s.strm i).reads ++ [(who, off.toNat, n)] }))) ∧
    (∀ x, s.aliasResolve i (readerAs who) = .sel x →
      exec (.aliasRead i off len who) s = .next (s.after (s.emit (.data (s.aliasBytes i x off.toNat n))))) ∧
    (s.aliasResolve i (readerAs who) = .zero →
      exec (.aliasRead i off len who) s = .next (s.after (s.emit (.data (List.replicate n 0))))) ∧
    (s.aliasResolve i (readerAs who) = .miss →
      exec (.aliasRead i off len who) s = .next (s.after ((s.aliasMiss i).emit (.data (List.replicate n 0))))) ∧
    (∀ t, exec (.aliasRead i off len who) s = .next t → s.region (aliasBase + i * 2 ^ 32 + off.toNat) = .window i off.toNat ∧ t.mem = s.mem)

/-- O34: HEAD_ENABLE of an OFF head runs its checks and starts it, EN = 0 in STARTING turns it OFF at once, EN = 0 in ON enters STOPPING (R217).
HEAD_COMMIT arms every head named that is not OFF (R220). At its line an armed commit is taken: a shadow set that fails a check is refused
with its REASON, and else it takes the place of the active one while the frame in progress keeps the set it is scanned with (R220, R223). A frame
of the line clock starts the head's frame; heads of variable blanking that follow one stream start theirs at one instant, the line that the latest
of them waits for (R226); and at its due lines the head takes the posts of the next band (R208).
(The model's choices in it: log entries 143, 144.) -/
def Obligations.HeadSwitchingAndCommits : Prop :=
  ∀ (n : Fin 4) (s : State), s.gth.held = false →
    (s.fnState (.head n) = 0 → s.restart.any (fun x => x.1 == .head n) = false →
      let u := (s.setFnEn (.head n) true).setFnState (.head n) 1
      exec (.headEnable n true) s = .next (s.after (u.headStart n)) ∧
      (u.headCheck n (u.headShadows n) ≠ 0 → exec (.headEnable n true) s = .next (s.after
        ((u.commitRefused n (u.headCheck n (u.headShadows n))).startDone (.head n) false)))) ∧
    (s.headState n = 1 → exec (.headEnable n false) s = .next (s.after
      (((s.setFnEn (.head n) false).setFnState (.head n) 0).headOff n))) ∧
    (s.fnState (.head n) = 2 → exec (.headEnable n false) s = .next (s.after
      { (s.setFnEn (.head n) false).setFnState (.head n) 3 with brief := s.brief.erase (.head n) })) ∧
    (∀ mask : BitVec 4, exec (.headCommit mask) s = .next (s.after (s.headCommit mask.toNat))) ∧
    (s.headState 0 ≠ 0 → bit (s.fld BST_COMMIT_COMMIT) 0 = false →
      let f := (s.lclock 0).frame
      exec (.headCommit 1) s = .next (s.after
        ((s.setHead 0 { s.head 0 with
          commitF := if s.reached 0 (f, (State.setFor (s.head 0) f).vactive, 0) then (f + 1) % 2 ^ 32 else f }).setFld
          BST_COMMIT_COMMIT (setBits (s.fld BST_COMMIT_COMMIT) 0 1 1)))) ∧
    (s.commitDue n = true →
      let u := s.setFld BST_COMMIT_COMMIT (setBits (s.fld BST_COMMIT_COMMIT) n 1 0)
      exec (.commitTake n) s = .next (s.after (s.commitTake n)) ∧
      (u.headCheck n (s.headShadows n) ≠ 0 →
        exec (.commitTake n) s = .next (s.after (u.commitRefused n (u.headCheck n (s.headShadows n)))))) ∧
    (let hooks := fun (t : State) => (List.range 4).foldl (fun (t : State) m =>
        if s.headPaced m ∧ (t.lclock m).frame ≠ (s.lclock m).frame then t.frameHooks m else t) t;
      (s.headPaced n = false → s.frameWaits n = true → exec (.headFrameStart n) s = .next (s.after (hooks (s.headFrame n)))) ∧
      (s.headPaced n = true → s.headState n = 2 → (s.lclock n).live = true → (s.head n).running = true → s.vrrDue n = true →
        let c := s.lclock n
        let l := (s.vrrPeers n).foldl (fun a m => max a (s.vrrLine m)) 0
        let t := c.start + ((l : Nat) : Rat) * c.line
        exec (.headFrameStart n) s = .next (s.after (hooks ((s.vrrPeers n).foldl (fun u m =>
          (u.lcAdvance m (t + u.baseRat (u.lclock m).base - u.baseRat c.base)).headFrame m) s))))) ∧
    (s.bandDueNow n = true → exec (.bandDue n) s = .next (s.after (s.bandDue n)))

/-- O35: HPD low, or a link that drops, on a trained link raises its alarm and clears LINKUP, and a dropped link retrains at once; HPD back, a
STARTING or ON DisplayPort head with no link retrains; a training that succeeds sets LINKUP, clears the outage and asks for a settle frame; one that fails is tried again after
100 ms and raises its alarm once for an outage (R222). The CRC measured of a pushed frame is compared with the expected one (`pinCompare`),
but not that of a short frame (R225, R239, R240).
(The model's choices in it: log entry 145.) -/
def Obligations.HeadLinks : Prop :=
  ∀ (n : Fin 4) (s : State), s.gth.held = false →
    let h := s.head n
    (s.on BST_HSTAT_LINKUP n = true →
      exec (.hpdLoss n true) s = .next (s.after
        (((s.setHead n { h with hpd := false, training := h.training && !(s.headState n == 2) }).linkLost n).showSettle n)) ∧
      exec (.hpdLoss n false) s = .next (s.after
        (((s.setHead n { h with training := true }).linkLost n).showSettle n))) ∧
    (s.headState n = 1 ∨ s.headState n = 2 → h.cfg.dp = true → s.on BST_HSTAT_LINKUP n = false →
      exec (.hpdReturn n) s = .next (s.after ((s.setHead n { h with hpd := true, training := true, failAt := none }).showSettle n))) ∧
    (s.trainDue n = true → s.headState n = 2 →
      (h.hpd = true →
        let u := (s.setHead n { h with training := false, failAt := none, outage := false, relock := false, settleDue := true }).setFld
          BST_HSTAT_LINKUP 1 n
        u.headState n = 2 → exec (.dpTrainRetry n true) s = .next (s.after (u.showSettle n))) ∧
      (h.outage = false → exec (.dpTrainRetry n false) s = .next (s.after
        (((s.setHead n { h with failAt := some s.tick, outage := true }).raise BST_HSTAT_TRAIN_FAIL n).alarm (0x1C + n) 0x0505))) ∧
      (h.outage = true → exec (.dpTrainRetry n false) s = .next (s.after
        (s.setHead n { h with failAt := some s.tick, outage := true })))) ∧
    (∀ f want (got : BitVec 32), h.pushDone = some (f, want) →
      let u := s.setHead n { h with pushDone := none }
      let short : Prop := h.shorts.contains f = true ∨ (h.frame = f ∧ h.running = true ∧ s.frameShort n = true)
      (short → exec (.pinCheck n true got) s = .next (s.after u)) ∧
      (¬ short → s.on BST_PC_CFG_PC_EN n = true → exec (.pinCheck n true got) s = .next (s.after (u.pinCompare n f want got.toNat))))

/-- O36: a head that may fetch fetches its next line (R230). A pixel that the compositor needs and does not have switches its layer off from there,
counts UNDERRUN, sets CAUSE (R231) and is traced (R443). A head below CRIT holds the other bursts, until none is, and the episode counts (R402). A composed row
of a push head is staged and its changed regions queue; the packets of the first region waiting leave while its port is up (R373); a stage slot needed again drops the regions that wait in it, counted
PUSHDEFER (R233, R234); after 1 s of TB0 with no packet a KEEPALIVE leaves (R237).
(The model's choices in it: log entries 150, 151, 156, 274, 279, 292.) -/
def Obligations.HeadFetchAndPush : Prop :=
  ∀ (n : Fin 4) (s : State), s.gth.held = false →
    let h := s.head n
    (s.fetchDue n = true → exec (.fetchLine n) s = .next (s.after (s.fetchLineDo n))) ∧
    (∀ l : Fin 4, s.underrunNow n l = true →
      let p := s.lcPos n
      exec (.underrun n l) s = .next (s.after
        ((((s.setHead n { h with off := h.off ++ [⟨p.1, l, p.2.1, p.2.2, false⟩], wake := true }).addSat BST_HCNT_UNDERRUN 1 n).setFld
          BST_LYR_STAT_CAUSE 1 n l).trace 1 4 n (p.1 % 2 ^ 24 * 256 + s.headBand n p.2.1 % 256)))) ∧
    (s.belowCrit n = true → exec (.fillBelowCrit n) s = .next (s.after { s with arc := { s.arc with crit := true } })) ∧
    (s.arc.crit = true → (∀ m < 4, s.belowCrit m = false) →
      exec .critHoldEnd s = .next (s.after
        { s.addSat ARC_CNT_CRITPRE 1 with arc := { s.arc with crit := false } })) ∧
    (s.rowComposed n = true → exec (.regionRowDone n) s = .next (s.after (s.regionRow n))) ∧
    (s.trained = true → s.regionCanLeave n = true → exec (.regionSent n) s = .next (s.after (s.regionSent n))) ∧
    (s.overdueRegions n ≠ [] → exec (.stageSlotReuse n) s = .next (s.after
      (((s.setHead n { h with queue := h.queue.filter (fun q => !(s.overdueRegions n).contains q) }).addSat BST_HCNT2_PUSHDEFER
        (s.overdueRegions n).length n).pushEnd n))) ∧
    (s.keepaliveDue n = true → s.on BST_HSTAT_DUSK n = false →
      let u := s.pushPacket n (State.setFor h h.frame) (s.frameStamp n) (s.lclock n).base 3 h.frame 0xFFFF 0xFFFF 0 0 1 1 []
      u.on BST_HSTAT_DUSK n = false → exec (.keepaliveTimer n) s = .next (s.after u))

/-! Zhevlink: links, HALO, remote wickets, the group. `s.zHere h kind n` says that an up link brings a content of `n` frames for this chip,
newer than the last delivered of its origin and class; `s.zTaken h kind n` is the state in which it is delivered, acknowledged on its link
(R296, R298). -/

/-- O37: EN = 1 in OFF powers a link up and trains it; a stop takes its routes away (R293). A training that no check of R294 refuses brings the link UP, a refused
one shows its reason and is tried again 100 ms later. An UP link says hello every 10 µs, and what a neighbour reports changes the routes
(R298, R301); what it says is acknowledged (R296).
(The model's choices in it: log entries 176, 177.) -/
def Obligations.LinkTraining : Prop :=
  ∀ (l : Fin 8) (s : State), s.gth.held = false →
    (s.fnState (.link l) = 0 → s.restart.any (fun x => x.1 == .link l) = false →
      let u := (s.setFnEn (.link l) true).setFnState (.link l) 1
      exec (.linkEnable l true) s = .next (s.after (((u.ownDomain (190 + l) true).setFld ZHL_LNK_CTRL_LSTATE 1 l).setZlink l {}))) ∧
    (s.fnState (.link l) = 2 → exec (.linkEnable l false) s = .next (s.after
      (State.reachUpdate { (s.setFnEn (.link l) false).setFnState (.link l) 3 with brief := s.brief.erase (.link l) }))) ∧
    (s.fld ZHL_LNK_CTRL_LSTATE l = 1 → s.quadOn (l / 2) = true → ∀ (lanes : BitVec 5) (rtt : BitVec 16) (chip : Fin 32) (nl : Fin 8) (gid : BitVec 16) (other : Bool),
      let good := (List.range 5).filter (fun i => bit lanes.toNat i)
      let why := s.trainReason l good rtt.toNat gid.toNat chip nl other
      (why = 0 → exec (.linkTrainingDone l lanes rtt chip nl ⟨gid, other⟩) s = .next (s.after (s.trainOk l good rtt.toNat chip nl))) ∧
      (why ≠ 0 → (s.zlink l).failed = true → exec (.linkTrainingDone l lanes rtt chip nl ⟨gid, other⟩) s = .next (s.after
        (((s.setFld ZHL_LNK_CTRL_TRAIN_REASON why l).setFld ZHL_LNK_CTRL_LSTATE 0 l).setZlink l
          { s.zlink l with failed := true, failAt := some s.tick }))) ∧
      (why ≠ 0 → (s.zlink l).failed = false → exec (.linkTrainingDone l lanes rtt chip nl ⟨gid, other⟩) s = .next (s.after
        ((((s.setFld ZHL_LNK_CTRL_TRAIN_REASON why l).setFld ZHL_LNK_CTRL_LSTATE 0 l).setZlink l
          { s.zlink l with failed := true, failAt := some s.tick }).alarm (0x48 + l) 0x0803)))) ∧
    (∀ t, (s.zlink l).failAt = some t → t + 50000000 ≤ s.tick → exec (.linkTrainRetry l) s = .next (s.after
      ((s.setFld ZHL_LNK_CTRL_LSTATE 1 l).setZlink l { s.zlink l with failAt := none }))) ∧
    (s.linkUp l = true →
      ((s.zlink l).helloAt + 5000 ≤ s.tick → exec (.helloTimer l) s = .next (s.after
        ((s.setZlink l { s.zlink l with helloAt := s.tick }).putFrame l (s.helloFrame l)))) ∧
      (∀ r : BitVec 32, exec (.hello l r) s = .next (s.after
        (let u := s.zarrive l
         (u.setZlink l { u.zlink l with lastRx := u.tick, reach := r.toNat }).reachUpdate))) ∧
      (∀ r g : BitVec 32, exec (.lstate l r g) s = .next (s.after
        (let t := s.zarrive l
         let u := t.setZlink l { t.zlink l with lastRx := t.tick, reach := r.toNat }
         let v := { u with zhl := { u.zhl with group := setBits g.toNat u.zhl.chip 1 (b2n (u.gstate == 1)) } }
         v.reachUpdate))))

/-- O38: an ACK drops the frames it acknowledges, a NAK also replays from the frame it names, and its sixteenth in a row for one frame takes
the link down; room that opens lets waiting frames leave; a frame with a CRC error or a gap is answered NAK, an unassigned TYPE is dropped; 50 µs of silence takes the link down (R296, R298, R303).
A failed data lane has the spare swapped in while it is free, and then takes the link down (R297).
(The model's choices in it: log entry 175.) -/
def Obligations.LinkErrors : Prop :=
  ∀ (l : Fin 8) (s : State), s.gth.held = false →
    let x := s.zlink l
    (s.fld ZHL_LNK_CTRL_LSTATE l = 2 →
      let u := s.setZlink l { x with lastRx := s.tick }
      let y := u.zlink l
      (∀ q : BitVec 16, exec (.ackNak l false q) s = .next (s.after
        ((u.setZlink l { y with retry := y.retry.filter (fun f => serialGe 16 f.1 ((q.toNat + 1) % 65536)), nakRun := 0 }).linkRefill l))) ∧
      (∀ q : BitVec 16,
        let run := if y.nakRun ≠ 0 ∧ y.nakAt = q.toNat then y.nakRun + 1 else 1
        let v := u.setZlink l { y with retry := y.retry.filter (fun f => serialGe 16 f.1 q.toNat), nakRun := run, nakAt := q.toNat }
        (run < 16 → exec (.ackNak l true q) s = .next (s.after ((((v.addSat ZHL_LNK_CNT_RETRY 1 l).tcount 2).replay l).linkRefill l))) ∧
        (16 ≤ run → exec (.ackNak l true q) s = .next (s.after (v.linkDown l)))) ∧
      (∀ kind : Fin 3, kind ≠ 2 →
        let v := if kind = 1 then u else u.addSat ZHL_LNK_CNT_CRCERR 1 l
        exec (.frameCheckFail l kind) s = .next (s.after
          (let f : ZFrame := ⟨.nak, v.zhl.chip, v.fld ZHL_LNK_CTRL_NBR_CHIP l, 32, 0, 0, [(v.zlink l).rx], []⟩
           v.emit (.zhl l 0 f (zwire 0 f))))) ∧
      exec (.frameCheckFail l 2) s = .next (s.after ((u.addSat ZHL_LNK_CNT_CRCERR 1 l).zarrive l)) ∧
      (x.lastRx + 25000 ≤ s.tick → exec (.linkSilenceTimeout l) s = .next (s.after (s.linkDown l)))) ∧
    (s.linkUp l = true → ∀ lane : Fin 5, lane.val ≠ s.fld ZHL_LNK_CTRL_SPARE l → x.swap ≠ some lane.val →
      (s.on ZHL_LNK_CTRL_SPARE_USED l = true ∨ x.swap ≠ none → exec (.laneFail l lane) s = .next (s.after (s.linkDown l))) ∧
      (s.on ZHL_LNK_CTRL_SPARE_USED l = false → x.swap = none →
        exec (.laneFail l lane) s = .next (s.after (s.setZlink l { x with swap := some lane.val })))) ∧
    (∀ lane, x.swap = some lane → exec (.laneSwap l) s = .next (s.after
      (((((((s.setZlink l { x with swap := none }).setFld ZHL_LNK_CTRL_SPARE lane l).setFld ZHL_LNK_CTRL_SPARE_USED 1 l).addSat
        ZHL_LNK_CNT_SWAP 1 l).tcount 2).logFree 0x0802 8 l 0xFFFF).replay l)))

/-- O39: a HALO_REQ waits in the table of 512, or is answered BUSY; the oldest request that can be answered is; after BUSY a request is sent
again 1 µs later; HALO_DATA under the tags that the destination still has fills it and completes the fired command, which may commit once its duration is over, under
old tags it is dropped and counted (R20); a refusal faults it SHAPE_BAD; an acknowledgement consumes the slot for its
reader (R131, R305, R306).
(The model's choices in it: log entry 99.) -/
def Obligations.HaloCommands : Prop :=
  ∀ (h : ZHdr) (k : BitVec 13) (step : BitVec 32) (s : State), s.gth.held = false →
    (∀ (p : Fin 32) (c : BitVec 8) (r0 rs : BitVec 16) (tags : List (BitVec 12)),
      let n := zcount (List.replicate (6 + tags.length) 0) []
      s.zHere h .haloReq n = true →
      let u := s.zTaken h .haloReq n
      (512 ≤ u.zhl.halos.length →
        exec (.haloReq h k step p c r0 rs tags) s = .next (s.after (u.zsend h.src .haloBusy 0 [k.toNat] []))) ∧
      (u.zhl.halos.length < 512 →
        let key := 256 * p + c.toNat
        let rd := if u.zhl.readers.contains (key, h.src.val) then u.zhl.readers else u.zhl.readers ++ [(key, h.src.val)]
        exec (.haloReq h k step p c r0 rs tags) s = .next (s.after { u with zhl := { u.zhl with
          halos := u.zhl.halos ++ [⟨h.src, k.toNat, step.toNat, p, c.toNat, r0.toNat, rs.toNat,
            match tags with | t :: _ => t.toNat | [] => 0⟩], readers := rd } }))) ∧
    (∀ x, s.zhl.halos.find? s.haloReady = some x → exec .haloAnswer s = .next (s.after (s.haloAnswer x))) ∧
    (s.zHere h .haloBusy = true → exec (.haloBusyRetry (some h) k) s = .next (s.after
      (let u := s.zTaken h .haloBusy
       { u with zhl := { u.zhl with haloRetry := u.zhl.haloRetry.set 0 k.toNat (u.tick + 1) } }))) ∧
    (s.zhl.haloRetry.get 0 k.toNat ≠ 0 → s.zhl.haloRetry.get 0 k.toNat + 499 ≤ s.tick →
      exec (.haloBusyRetry none k) s = .next (s.after (s.haloAgain k.toNat))) ∧
    (∀ (cs : List (BitVec 32)) (es : List (BitVec 16)) (ax : Fin 5) (b : BitVec 8) (c : Cmd),
      let pay := cs.flatMap (fun x => leBytes 4 x.toNat) ++ es.flatMap (fun x => leBytes 2 x.toNat)
      let n := zcount [0, 0, 0, 0] pay
      s.zHere h .haloData n = true →
      let u := s.zTaken h .haloData n
      let codes := cs.map (fun x => x.toNat)
      let ents := es.map (fun x => x.toNat)
      u.haloCmd k.toNat = some c → c.remote = true → c.step = step.toNat →
      (u.haloTagOk c h.tag.toNat = true →
        let bytes := (tensorBytes (tdCode (u.td k.toNat (mTD (word c.words 0)))) codes ents).length
        exec (.haloData h k step cs es ax b false) s = .next (s.after
          (u.haloFill k.toNat c (c.firedAt + u.haloFc c.words bytes) codes ents ax (toSigned 8 b.toNat)))) ∧
      (u.haloTagOk c h.tag.toNat = false → exec (.haloData h k step cs es ax b false) s = .next (s.after u.staleTag))) ∧
    (∀ (cs : List (BitVec 32)) (es : List (BitVec 16)) (ax : Fin 5) (b : BitVec 8) (c : Cmd),
      let n := zcount [0, 0] (cs.flatMap (fun x => leBytes 4 x.toNat) ++ es.flatMap (fun x => leBytes 2 x.toNat))
      s.zHere h .haloRefused n = true →
      let u := s.zTaken h .haloRefused n
      u.haloCmd k.toNat = some c → c.remote = true → c.step = step.toNat →
      exec (.haloData h k step cs es ax b true) s = .next (s.after (u.runFault k.toNat c 0x020E))) ∧
    (s.zHere h .haloAck = true → ∀ (p : Fin 32) (c : BitVec 8) (ab : Bool),
      exec (.haloAck h p c step ab) s = .next (s.after ((s.zTaken h .haloAck).haloAck h.src p c.toNat step.toNat ab)))

/-- O40: at a proxied wicket's home a WSIG adds to the count, a WAIT_REQ of a wicket no one else waits on is held, one of a wicket that is not cut across is REFUSED, and a
WAIT_CANCEL gives the wait up; at the proxy a WAIT_DONE lets the waiting program go on, or faults or times it out (R307). A frame that is frozen out on an ISLAND
counts (R311). A FENCE goes on or is answered, and an ACK settles it (R309).
(The model's choices in it: log entries 179, 276.) -/
def Obligations.RemoteWickets : Prop :=
  ∀ (h : ZHdr) (w req : BitVec 17) (n : BitVec 16) (s : State), s.gth.held = false →
    (s.zHere h .wsig = true →
      let u := s.zTaken h .wsig
      (u.frozen w.toNat = true → exec (.wsigFrame h w n) s = .next (s.after (u.zrefused 0x080A))) ∧
      (u.frozen w.toNat = false → u.xcut w.toNat = true →
        exec (.wsigFrame h w n) s = .next (s.after ((u.wktAdd w.toNat n.toNat).wktRemote w.toNat))) ∧
      (u.frozen w.toNat = false → u.xcut w.toNat = false →
        exec (.wsigFrame h w n) s = .next (s.after (u.zrefused 0x080B)))) ∧
    (s.zHere h .waitReq = true →
      let u := s.zTaken h .waitReq
      (u.xcut w.toNat = false → exec (.waitReq h w req n) s = .next (s.after (u.zsend h.src .waitDone 0 [req.toNat, 1] []))) ∧
      (u.xcut w.toNat = true → (u.wkt w.toNat).rwait = none → u.fld PTR_WKT_WKIND w.toNat = 0 →
        let v := ((u.setFld PTR_WKT_WKIND 4 w.toNat).setFld PTR_WKT_WID h.src w.toNat).setWkt w.toNat
          { u.wkt w.toNat with rwait := some (h.src.val, req.toNat, n.toNat) }
        exec (.waitReq h w req n) s = .next (s.after (if v.frozen w.toNat then v else v.wktRemote w.toNat)))) ∧
    (s.zHere h .waitCancel = true →
      let u := s.zTaken h .waitCancel
      (∀ m, (u.wkt w.toNat).rwait = some (h.src.val, req.toNat, m) → exec (.waitCancel h w req) s = .next (s.after
        ((u.setWkt w.toNat { u.wkt w.toNat with rwait := none }).zsend h.src .waitDone 0 [req.toNat, 2] [])))) ∧
    (s.zHere h .waitDone = true →
      let u := s.zTaken h .waitDone
      ∀ k g, u.frozen w.toNat = false → u.waiterOn w.toNat = some (k, g) →
        exec (.waitDone h w 0) s = .next (s.after ((u.setProg k { u.prog k with wait := .none }).advance k)) ∧
        exec (.waitDone h w 1) s = .next (s.after (u.cmdFault k 0x020A)) ∧
        exec (.waitDone h w 2) s = .next (s.after (u.waitExpired k))) ∧
    (∀ l : Fin 8, s.linkUp l = true → ∀ (o : Fin 32) (id : BitVec 32),
      exec (.fenceFrame l o id) s = .next (s.after ((s.zarrive l).fenceIn l o id.toNat)) ∧
      (∀ f, (s.zarrive l).zhl.fences.find? (fun f => f.origin == o.val && f.id == id.toNat && f.waiting.contains l.val) = some f →
        exec (.fenceAck l o id) s = .next (s.after ((s.zarrive l).fenceSettle { f with waiting := f.waiting.erase l.val }))))

/-- O41: SYNC_IN is stamped in TB6 (R263). At the anchor an ARRIVE is recorded while another chip's is missing (`gbarArrive`; that every configured member is waited for is a reading of the
model, log entry 181); a RELEASE is kept until its
time, and then opens the barrier; one whose time has passed opens it at once, counted late; an ISLAND chip opens none (R262). TSYNC goes out every
millisecond, the anchor answers with its TB6, and an answer steps the servo (`servoStep`, R308; its control law is free, log entry 188).
(The model's choices in it: log entry 180.) -/
def Obligations.GroupBarrierAndTime : Prop :=
  ∀ (h : ZHdr) (w : BitVec 17) (s : State), s.gth.held = false →
    exec .syncInEdge s = .next (s.after { s with zhl := { s.zhl with syncAt := some (s.tb16 6) } }) ∧
    (s.zHere h .arrive = true →
      let u := s.zTaken h .arrive
      u.actingAnchor = u.zhl.chip →
      exec (.arrive h w) s = .next (s.after (u.gbarArrive h.src w.toNat)) ∧
      (∀ m ∈ maskBits u.zhl.members, (u.zhl.arrivals.get [] w.toNat).contains m = false → m ≠ h.src.val →
        (u.zhl.arrivals.get [] w.toNat).contains h.src.val = false →
        exec (.arrive h w) s = .next (s.after
          { u with zhl := { u.zhl with arrivals := u.zhl.arrivals.set [] w.toNat (u.zhl.arrivals.get [] w.toNat ++ [h.src.val]) } }))) ∧
    (s.zHere h .release = true → ∀ tr ts : BitVec 79,
      let u := s.zTaken h .release
      (u.wkt w.toNat).released = true →
      let v := { u with zhl := { u.zhl with rels := u.zhl.rels.set none w.toNat (some (tr.toNat, ts.toNat)) } }
      (v.gbarTime ts.toNat ≤ (tr.toNat : Int) → exec (.release h w tr ts) s = .next (s.after v)) ∧
      (v.islanded = true → exec (.release h w tr ts) s = .next (s.after v)) ∧
      (v.islanded = false → (tr.toNat : Int) < v.gbarTime ts.toNat → exec (.release h w tr ts) s = .next (s.after (v.gbarOpen w.toNat true)))) ∧
    (∀ tr ts, s.zhl.rels.get none w.toNat = some (tr, ts) → (tr : Int) ≤ s.gbarTime ts →
      (s.islanded = false → exec (.gbarRelease w) s = .next (s.after (s.gbarOpen w.toNat false))) ∧
      (s.islanded = true → exec (.gbarRelease w) s = .next s)) ∧
    (s.servoOn = true → s.zhl.tsAt + 500000 ≤ s.tick → exec .tsyncTimer s = .next (s.after
      (let u := { s with zhl := { s.zhl with tsAt := s.tick } }
       u.zsend s.actingAnchor .tsync 0 [0, s.tb16 6] []))) ∧
    (s.zHere h .tsync = true → ∀ ofs : BitVec 64,
      let u := s.zTaken h .tsync
      (u.actingAnchor = u.zhl.chip →
        exec (.tsync h false ofs) s = .next (s.after (u.zsend h.src .tsync 0 [1, ofs.toNat, u.tb16 6] []))) ∧
      (u.servoOn = true → exec (.tsync h true ofs) s = .next (s.after (u.servoStep ofs.toNat))))

/-- O42: a written group configuration takes effect at a frame start (R300). A side that keeps the canvas declares the members it has not reached
for 2 ms lost, another becomes ISLAND (R310, R311). REJOIN asks the anchor, so does the timer after 1 s; the anchor grants a frame ahead or refuses
with a cause; a grant sets the rejoin frame, 10 ms without one lapses; at that frame the chip enters GROUP with its group images and wickets clear (R313, R314).
The first chips to form enter it with their side (R314).
(The model's choices in it: log entries 182, 183, 186.) -/
def Obligations.GroupMembership : Prop :=
  ∀ (h : ZHdr) (s : State), s.gth.held = false →
    (s.zhl.cfgDue = true → exec .groupCfgApply s = .next (s.after s.groupApply)) ∧
    (s.gstate = 1 → s.cutOffs ≠ [] → ∀ b,
      (s.keepsCanvas = true → exec (.cutOffTimer b) s = .next (s.after
        (s.cutOffs.foldl (fun t d =>
          let t := { t with zhl := { t.zhl with lost := setBits t.zhl.lost d 1 1 } }
          ((t.alarm 0x50 0x0804).addSat ZHL_GRP_CNT_LOST 1).haloLost d) s))) ∧
      (s.keepsCanvas = false → exec (.cutOffTimer false) s = .next (s.after (s.islandEnter.alarm 0x51 0x0805).floodState))) ∧
    (s.gstate = 2 → s.groupAnchor.isSome = true →
      exec .rejoin s = .next (s.after (s.setFld ZHL_GCMD_REJOIN 1).rejoinSend)) ∧
    (∀ t, s.zhl.stableAt = some t → t + 500000000 ≤ s.tick → s.gstate = 2 → s.zhl.autoRj = true → s.zhl.rjAt = none →
      exec .autoRejoinTimer s = .next (s.after s.rejoinSend)) ∧
    (s.zHere h .rejoinReq = true →
      let u := s.zTaken h .rejoinReq
      u.gstate = 1 → u.actingAnchor = u.zhl.chip →
      (∀ j, exec (.rejoinReq h false j) s = .next (s.after (u.zsend h.src .rejoinGrant 0 [h.src, 0, 1] []))) ∧
      ((u.lclock u.zhl.lc).mode = 3 →
        exec (.rejoinReq h true true) s = .next (s.after (u.zsend h.src .rejoinGrant 0 [h.src, 0, 2] []))) ∧
      ((u.lclock u.zhl.lc).mode = 3 → exec (.rejoinReq h true false) s = .next (s.after (u.rejoinReq h.src true false)))) ∧
    (s.zHere h .rejoinGrant = true → ∀ (c : Fin 32) (fr : BitVec 32) (cause : BitVec 8),
      let u := s.zTaken h .rejoinGrant
      (c.val = u.zhl.chip → u.zhl.rjAt.isSome = true → cause ≠ 0 →
        exec (.rejoinGrant h c fr cause) s = .next (s.after (u.rejoinBad cause.toNat))) ∧
      (c.val = u.zhl.chip → u.zhl.rjAt.isSome = true →
        let v := ((u.grantNote c fr.toNat).setFld ZHL_GRP_STAT_GSTATE 3).setFld ZHL_GCMD_REJOIN 0
        exec (.rejoinGrant h c fr 0) s = .next (s.after { v with zhl := { v.zhl with rjAt := none } })) ∧
      (c.val ≠ u.zhl.chip →
        exec (.rejoinGrant h c fr 0) s = .next (s.after { u.setFld ZHL_RJFRAME_FR fr.toNat with
          zhl := { u.zhl with rjMask := setBits u.zhl.rjMask c 1 1, grants := u.zhl.grants.set 0 c (fr.toNat + 1) } }))) ∧
    (∀ t, s.zhl.rjAt = some t → t + 5000000 ≤ s.tick → exec .rejoinLapse s = .next (s.after (s.rejoinBad 3))) ∧
    (s.rejoinDue = true → exec .rejoinFrame s = .next (s.after s.rejoinFrame)) ∧
    (s.formationDue = true → exec .formation s = .next (s.after
      (let u := s.setFld ZHL_GRP_STAT_GSTATE 1
       ({ u with zhl := { u.zhl with reached := true, formDue := false } }).reachUpdate.floodState)))

/-! The Lodge: hangs, reset levels, sparing, keepers, dumps. -/

/-- O43: a hung engine raises HANG, ENGINE shows it, and it is handled, or held pending while no keeper runs (R323, R341). A plot that stalls asks for
level 3 (R324). When the engine of a hang has been reset, the next suspect that can run does so alone, and with none left the plot goes on; a suspect whose
replay outlasts the watchdog is guilty: it is torn down with HANG_GUILTY and the engine reset again (R326, R327).
(The model's choices in it: log entries 191, 192, 193.) -/
def Obligations.HangsAndReplays : Prop :=
  ∀ (s : State), s.gth.held = false →
    (∀ e : BitVec 11, s.hungNow e.toNat = true → s.recovering e.toNat = false → e.toNat < 1024 →
      let u := (s.alarm 0x58 0x0901).setFld LDG_STAT_ENGINE e.toNat
      (u.keeperRuns = true → exec (.hang e) s = .next (s.after (u.handleHang e.toNat))) ∧
      (u.keeperRuns = false → exec (.hang e) s = .next (s.after
        { u with ldg := { u.ldg with waiting := u.ldg.waiting ++ [e.toNat] } }))) ∧
    (∀ e : BitVec 11, s.hungNow e.toNat = true → s.recovering e.toNat = false → 1024 ≤ e.toNat →
      let t := s.alarm 0x58 0x0901
      let u := (t.freeBits 16).2.setFld LDG_STAT_ENGINE (t.freeBits 16).1
      (u.keeperRuns = true → exec (.hang e) s = .next (s.after (u.handleHang e.toNat))) ∧
      (u.keeperRuns = false → exec (.hang e) s = .next (s.after
        { u with ldg := { u.ldg with waiting := u.ldg.waiting ++ [e.toNat] } }))) ∧
    (∀ p : Fin 32, s.stalled p = true → s.recovering (1024 + p) = false → exec (.plotStall p) s = .next (s.after (s.ask 3 p))) ∧
    (∀ (e : BitVec 11) r, s.ldg.recs.find? (fun (r : Recov) => r.engine == e.toNat) = some r →
      (s.replayReady r = true → (s.replayNext r).2 = false →
        exec (.suspectReplay e) s = .next (s.after (s.replayNext r).1)) ∧
      (s.replayReady r = true → (s.replayNext r).2 = true →
        exec (.suspectReplay e) s = .next (s.after ((s.replayNext r).1.retire r.engine))) ∧
      (s.watchdogOut r = true → exec (.replayWatchdog e) s = .next (s.after (s.guilty r))))

/-- O44: reset levels (R317, R320, R470): a fault asks for its level; a wanted level begins once its dump is over, and one that ends well ends the level; a level that
fails or outlasts its bound escalates to the next, logged. A hung head is reset at its vertical blanking (R328).
(The model's choices in it: log entries 194, 195, 200.) -/
def Obligations.ResetLevels : Prop :=
  ∀ (s : State), s.gth.held = false →
    (∀ e : BitVec 12,
      (e.toNat < 156 → exec (.engineReset e .fault) s = .next (s.after (s.ask 2 e.toNat))) ∧
      (e.toNat < 156 ∨ (256 ≤ e.toNat ∧ e.toNat < 264) ∨ (768 ≤ e.toNat ∧ e.toNat < 784) → s.mayBegin 2 e.toNat = true →
        exec (.engineReset e .start) s = .next (s.after (s.engineBegin e.toNat))) ∧
      (s.running2 2 e.toNat = true → ∀ ok, exec (.engineReset e (.finish ok)) s = .next (s.after (s.engineFinish e.toNat ok)))) ∧
    (∀ n : Fin 4, s.headResetDue n = true → exec (.headReset n) s = .next (s.after (s.headReset n))) ∧
    (∀ p : Fin 32,
      exec (.partitionReset p .fault) s = .next (s.after (s.ask 3 p)) ∧
      (s.mayBegin 3 p = true → s.ldg.l3At.get 0 p = 0 → exec (.partitionReset p .start) s = .next (s.after (s.partitionDo p))) ∧
      (s.running2 3 p = true →
        exec (.partitionReset p (.finish true)) s = .next (s.after (s.partitionFinish p true)) ∧
        exec (.partitionReset p (.finish false)) s = .next (s.after ((s.lvlEnd 3 p).escalate 3 p)))) ∧
    exec (.chipWarmReset .fault) s = .next (s.after (s.ask 4 0)) ∧
    (s.mayBegin 4 0 = true → s.ldg.l4At = 0 → exec (.chipWarmReset .start) s = .next (s.after s.warmDo)) ∧
    (s.running2 4 0 = true →
      exec (.chipWarmReset (.finish true)) s = .next (s.after s.warmFinish) ∧
      exec (.chipWarmReset (.finish false)) s = .next (s.after ((s.lvlEnd 4 0).escalate 4 0))) ∧
    (∀ l : Fin 5, l ≠ 1 → ∀ x, s.ldg.lvl.find? (fun x => x.1 == l.val && decide (x.2.2 + State.lvlBound l * 500 ≤ s.tick)) = some x →
      exec (.levelTimeout l) s = .next (s.after ((s.lvlEnd l x.2.1).escalate l x.2.1))) ∧
    (∀ c, (List.range 1024).find? (fun c => (s.ctx c).tearStep == 2 && decide ((s.ctx c).drainAt + 4000 ≤ s.tick)) = some c →
      exec (.levelTimeout 1) s = .next (s.after
        (((s.setCtx c { s.ctx c with drainAt := s.tick }).logEscalate 1 (s.tearEngine c).1 c).ask (s.tearEngine c).1 (s.tearEngine c).2)))

/-- O45: a retirement suspends the plots it moves and then changes the map (R331, R332). A keeper that misses its heartbeat is restarted by its partner, a
silent scheduler asks for level 4, and with both keepers silent the hardware restarts both (R342). A hand-over begins with GO, or counts an ignored one, and goes on at frame
starts (R343). A dump begins on request, or counts as missed while one runs, and is written when done with the units that SCOPE names, the suspect
ones last (R337-R340).
(The model's choices in it: log entries 204, 205, 206.) -/
def Obligations.SparingKeepersDumps : Prop :=
  ∀ (s : State), s.gth.held = false →
    (∀ v : BitVec 8, v.toNat < 156 → s.retired v.toNat = false → s.ldg.retiring.contains v.toNat = false →
      exec (.pavilionRetire v) s = .next (s.after { s with ldg := { s.ldg with
        retiring := s.ldg.retiring ++ [v.toNat], affected := (s.ldg.affected ++ s.movedPlots v.toNat).eraseDups } })) ∧
    (∀ v : BitVec 8, s.mapReady v.toNat = true → exec (.spareMapChange v) s = .next (s.after (s.mapChange v.toNat))) ∧
    (∀ k : Fin 2, s.keeperMissed k = true → exec (.keeperHeartbeatMiss k) s = .next (s.after
      ((((s.alarm 0x60 0x090C).dumpStart 4 none 0xFFFFFFFF).keeperStart k).fwWatch).hangsPending)) ∧
    (s.fld LDG_KEEP_SCHED_WIN ≠ 0 → s.keeperRuns = true → s.ldg.schedAt + s.fld LDG_KEEP_SCHED_WIN * 1000 * 500 ≤ s.tick →
      exec .schedHeartbeatMiss s = .next (s.after ({ s with ldg := { s.ldg with schedAt := s.tick } }.ask 4 0))) ∧
    (∀ a b, s.ldg.k0At = some a → s.ldg.k1At = some b → a + 5000000 ≤ s.tick → b + 5000000 ≤ s.tick →
      exec .keepersSilent s = .next (s.after s.keepersRestart)) ∧
    (∀ (fl : Bool) (lc : Fin 4),
      let u := (s.setFld LDG_FW_CTRL_FLASH (b2n fl)).setFld LDG_FW_CTRL_LC lc
      (u.fld LDG_FW_CTRL_STATE = 0 →
        exec (.fwGo fl lc) s = .next (s.after ((u.setFld LDG_FW_CTRL_STATE 1).setFld LDG_FW_CTRL_GO 1))) ∧
      (u.fld LDG_FW_CTRL_STATE ≠ 0 → exec (.fwGo fl lc) s = .next (s.after (u.addSat LDG_FW_CTRL_GO_IGNORED 1)))) ∧
    (s.ldg.fwDue = true → 2 ≤ s.fld LDG_FW_CTRL_STATE → exec .fwHandoverFrame s = .next (s.after s.fwFrame)) ∧
    (bit (s.fld LDG_DUMP_CFG_TRIG) 4 = true →
      (s.ldg.dump = none → exec .dumpReq s = .next (s.after
        { s.setFld LDG_DUMP_STAT_BUSY 1 with ldg := { s.ldg with dump := some ⟨5, 0xFFFFFFFF, s.stamp, !s.trained, [],
          s.dumpUnits none 0xFFFFFFFF (!s.trained)⟩ } })) ∧
      (s.ldg.dump ≠ none → exec .dumpReq s = .next (s.after (s.addSat LDG_DUMP_STAT_MISSED 1)))) ∧
    (∀ d, s.ldg.dump = some d →
      (∀ u w : BitVec 16, exec (.dumpReadTimeout u w) s = .next (s.after
        { s with ldg := { s.ldg with dump := some { d with voids := d.voids ++ [(u.toNat, w.toNat)] } } })) ∧
      (∀ us : List (BitVec 16 × List (BitVec 32)), exec (.dumpDone us) s = .next (s.after
        (s.dumpDone (us.map (fun u => (u.1.toNat, u.2.map BitVec.toNat)))))))

/-! Resets and the Gatehouse. -/

/-- O46: a cold reset puts every register but the view of OTP at its reset value and wipes every memory (R319). A supply detector that trips does so from any state and keeps OTP
and the pins; where the rails are good, PORST_N rising starts the boot with the straps of that moment, and so does the detector's release with PORST_N high (R419, R461, R462).
(The model's choices in it: log entries 7, 228.) -/
def Obligations.ResetsAndBootStart : Prop :=
  ∀ (s : State),
    (∃ t, exec .coldReset s = .next t ∧ regsAtReset t ∧ t.mem = [] ∧ t.gth.held = true ∧ t.gth.rootKey = s.gth.rootKey ∧
      t.fld GTH_STAT_LC = s.fld GTH_STAT_LC ∧ t.fld GTH_STAT_COUNTER = s.fld GTH_STAT_COUNTER) ∧
    (∃ t, exec (.supplyDetector none) s = .next t ∧ regsAtReset t ∧ t.mem = [] ∧ t.gth.held = true ∧ t.gth.lowRail = true ∧
      t.gth.porst = s.gth.porst ∧ t.gth.rootKey = s.gth.rootKey) ∧
    (∀ (src addr : Fin 4) (test : Bool) (fl : List Byte),
      (s.gth.held = true → s.gth.lowRail = false →
        exec (.porstRelease src addr test fl) s =
          .next { (({ s with gth := { s.gth with porst := true } }).bootStart src addr test fl) with pending := s.pending }) ∧
      (s.gth.held = true → s.gth.lowRail = true →
        exec (.porstRelease src addr test fl) s = .next { s with gth := { s.gth with porst := true } }) ∧
      (s.gth.lowRail = true → s.gth.porst = true →
        exec (.supplyDetector (some (src, addr, test, fl))) s =
          .next { (({ s with gth := { s.gth with lowRail := false } }).bootStart src addr test fl) with pending := s.pending }) ∧
      (s.gth.lowRail = true → s.gth.porst = false →
        exec (.supplyDetector (some (src, addr, test, fl))) s = .next { s with gth := { s.gth with lowRail := false } }))

/-- O47: bytes at the push window and recovery bytes on SMBus reach the pass that runs, while their source may deliver (R424, R425); a recovery write with a wrong PEC is
NAKed and counted, one that breaks R425 is NAKed (R366). A keeper's RELEASE starts a hart of 2 to 15 (R418). The decryption in
progress completes: with a matching tag its range opens with the plain text, with another it is wiped and released (R431).
(The model's choices in it: log entry 224.) -/
def Obligations.BootDelivery : Prop :=
  ∀ (s : State), s.gth.held = false →
    (∀ bs : List Byte, s.pci.up = true → s.pci.perst = false → s.fld GTH_MBOX_STAT_PHASE 0 ≠ 0 → s.passOpen 1 = true →
      exec (.pushWrite bs) s = .next (s.after (State.gthNext 2 (s.passBytes 1 bs)))) ∧
    (∀ (off : BitVec 32) (bs : List Byte),
      exec (.recovery off bs false) s = .next (s.after ((s.emit .nak).bump 0x0A07)) ∧
      (s.on GTH_STAT_RECOVERY = true → s.passOpen 2 = true → bs ≠ [] → bs.length ≤ 28 → off.toNat = s.gth.bufS.length →
        exec (.recovery off bs true) s = .next (s.after (State.gthNext 2 (s.passBytes 2 bs)))) ∧
      (s.on GTH_STAT_RECOVERY = false ∨ bs = [] ∨ 28 < bs.length ∨ off.toNat ≠ s.gth.bufS.length →
        exec (.recovery off bs true) s = .next (s.after (s.emit .nak)))) ∧
    (∀ h : Fin 16, 2 ≤ h.val → exec (.hartRelease h) s = .next (s.after (s.setFld ORG_HART_CTRL_RELEASE 1 h).hartsShow)) ∧
    (∀ d r, s.gth.decr = some d → s.gth.sealed.get none d.range = some r →
      let u := { s with gth := { s.gth with decr := none } }
      (∀ p, d.plain = some p →
        let v := u.lpRaw r.base p
        exec .decryptDone s = .next (s.after (State.gthNext 2
          (({ v with gth := { v.gth with sealed := v.gth.sealed.set none d.range (some { r with opened := true }) } }).mboxDone d.mbox 0)))) ∧
      (d.plain = none →
        let t := s.gth.sealed.set none d.range none
        exec .decryptDone s = .next (s.after (State.gthNext 2
          ((({ u.lpWipe r.base r.len with gth := { u.gth with sealed := t } }).setFld GTH_STAT_SEALED t.length).mboxDone
            d.mbox 0x0D0A)))))

/-- O48: each mailbox command that its mailbox and caller may give is run at once by a Gatehouse that is free, with its result in the mailbox (R426-R434); one given to a busy
mailbox leaves its number in CMD and is ignored, and VERIFY at mailbox 0, which may not give it, completes with MBOX_BAD. `s.gthGiven m c` is the mailbox with the command taken.
(The model's choices in it: log entries 217, 222.) -/
def Obligations.MailboxCommands : Prop :=
  ∀ (m : Fin 2) (core : Fin 16) (s : State), s.gth.held = false → s.gthTakes m = true →
    let ok := fun (c : MCmd) (i : Instr) (f : State → State) =>
      (s.gthGiven m c).gthAllowed m core c = true → exec i s = .next (s.after (State.gthNext 2 (f (s.gthGiven m c))))
    (∀ (nonce : BitVec 256) (mask : BitVec 8), (s.gthGiven m (.quote (beBytes 32 nonce.toNat) mask.toNat)).hasIdent = true →
      ok (.quote (beBytes 32 nonce.toNat) mask.toNat) (.quote m core nonce mask) (fun u => u.quote m (beBytes 32 nonce.toNat) mask.toNat)) ∧
    (s.gth.identKey ≠ 0 → ok .identity (.identity m core) (fun u => u.mboxAnswer m (pubKey u.gth.identKey ++ pubKey u.gth.agreeKey))) ∧
    (∀ (i : Fin 8) (d : BitVec 384), ok (.extend i (beBytes 48 d.toNat)) (.extend m core i d)
      (fun u => (u.mrExtend i ((beBytes 48 d.toNat ++ List.replicate 48 0).take 48)).mboxDone m 0)) ∧
    (∀ (c : BitVec 10) (b : List Byte), ok (.modelKey c.toNat b) (.modelKey m core c b) (fun u => u.modelKey m c.toNat b)) ∧
    (∀ (slot : Fin 16) (src dst len : BitVec 48) (iv : BitVec 96) (aad : List Byte) (tag : BitVec 128),
      ok (.decrypt slot src.toNat dst.toNat len.toNat (beBytes 12 iv.toNat) aad (beBytes 16 tag.toNat))
        (.decrypt m core slot src dst len iv aad tag)
        (fun u => u.decryptStart m slot src.toNat dst.toNat len.toNat (beBytes 12 iv.toNat) aad (beBytes 16 tag.toNat))) ∧
    (∀ c : BitVec 10, ok (.unseal c.toNat) (.unsealCtx m core c) (fun u => (u.sealRelease (fun x => x == c.toNat)).mboxDone m 0)) ∧
    (∀ (tg : Fin 8) (tok : List Byte), ok (.lcAdvance tg tok) (.lcAdvance m core tg tok) (fun u => u.lifeAdvance m tg tok)) ∧
    ok .challenge (.debugChallenge m core) (fun u => u.newChallenge.mboxAnswer m (u.newChallenge.gth.challenge.getD [])) ∧
    (∀ (scope : BitVec 8) (sg : List Byte), ok (.unlock scope.toNat sg) (.debugUnlock m core scope sg)
      (fun u => (u.unlockStart m scope.toNat sg).unlockStep)) ∧
    (∀ lv : BitVec 7, ok (.rollback lv.toNat) (.rollbackAdvance m core lv) (fun u => u.rollbackTo m lv.toNat)) ∧
    ok .verify (.verify m core) (fun u => u.verifyStaged m) ∧
    (∀ fl : List Byte, ok (.copy fl) (.copy m core fl) (fun u => u.bootCopy fl)) ∧
    (∀ (m' : Fin 2), s.on GTH_MBOX_STAT_BUSY m' = true → s.gth.waiting = [] →
      exec (.verify m' core) s = .next (s.after (s.setFld GTH_MBOX_CMD_CMD (State.cmdNo .verify) m'))) ∧
    (m = 0 → exec (.verify m core) s = .next (s.after (State.gthNext 2 ((s.gthGiven m .verify).mboxDone m 0x0D07))))

/-! The host: DMA channels, Spout ports, the endpoint, the tray controller. -/

/-- O49: DMA_ENABLE samples a channel when its STARTING ends, a tail write moves TAIL (R354, R355). A channel with a descriptor to run reads the one at HEAD; one that
fails its checks moves nothing and takes the result of the check, one that passes moves its bytes, as many as the host delivered (R355, R356, R359); the acknowledgement of its writes completes it (`dmaDone`, R356). A lost link clears SPEED and WIDTH, counts, raises its alarm and ends what needs the host (R350, R359).
(The model's choices in it: log entries 57, 59.) -/
def Obligations.DmaChannels : Prop :=
  ∀ (c : Fin 16) (s : State), s.gth.held = false →
    (s.fnState (.dma c) = 0 → s.restart.any (fun x => x.1 == .dma c) = false → exec (.dmaEnable c (.write true)) s = .next (s.after
      ((s.setFnEn (.dma c) true).setFnState (.dma c) 1))) ∧
    (s.fld PCI_DMA_CTRL_STATE c = 1 → exec (.dmaEnable c .done) s = .next (s.after (s.dmaStarted c))) ∧
    (∀ t : BitVec 16, exec (.dmaTailWrite c t) s = .next (s.after (s.setFld PCI_DMA_PTR_TAIL t.toNat c))) ∧
    (s.dmaWaits c = true → ∀ (desc data : List Byte) (ok : Bool),
      let rd := if (s.dma c).rloc = 1 then s.lpRead ((s.dma c).ring + s.fld PCI_DMA_PTR_HEAD c * 64) 64
        else ((desc ++ List.replicate 64 0).take 64, s)
      let d := parseDesc rd.1
      let v := rd.2
      (v.dmaCheck c d ≠ 0 → exec (.dmaDescriptor c desc data ok) s = .next (s.after
        ((v.setDma c { v.dma c with cur := some rd.1, result := v.dmaCheck c d }).beat (768 + c)))) ∧
      (v.dmaCheck c d = 0 → d.dir = 0 →
        let u := v.dmaInto c d d.lines 0 (data.take (d.len * d.lines))
        exec (.dmaDescriptor c desc data ok) s = .next (s.after
          (let r := if ok = true ∧ d.len * d.lines ≤ data.length then 0 else 2
           (u.setDma c { u.dma c with cur := some rd.1, result := r }).beat (768 + c)))) ∧
      (v.dmaCheck c d = 0 → d.dir ≠ 0 →
        let u := v.dmaOut c d d.lines 0
        exec (.dmaDescriptor c desc data ok) s = .next (s.after
          ((u.1.setDma c { u.1.dma c with cur := some rd.1, result := u.2 }).beat (768 + c))))) ∧
    ((s.dma c).cur.isSome = true → exec (.dmaDescDone c) s = .next (s.after (s.dmaDone c))) ∧
    (s.pci.up = true →
      let u := { s with pci := { s.pci with up := false } }
      exec .hostLinkDown s = .next (s.after ((List.range 16).foldl State.dmaLinkLost
        ((((u.setFld PCI_LINK_SPEED 0).setFld PCI_LINK_WIDTH 0).addSat PCI_LINK_DOWNS 1).alarm 0x68 0x0A01))))

/-- O50: a write of a port's ADDR clears POS and drops what was prefetched (R360, R362). Data writes and reads of the function that owns the port act at POS (R360, R362); a
function that does not own it is refused, PF0 with a count and zeros (R351). A write at offset 0 of the doorbell page queues a doorbell, and the doorbell at the head of
the queue is performed, where no write waits for LPDDR to be served: it signals its wicket or posts its slot, and counts (R363).
(The model's choices in it: log entries 61, 288.) -/
def Obligations.SpoutPorts : Prop :=
  ∀ (p : Fin 16) (f : PFn) (s : State), s.gth.held = false →
    (∀ a : BitVec 48, exec (.spoutAddrWrite p a) s = .next (s.after
      (((s.setFld SPT_ADDR_ADDR a.toNat p).setFld SPT_POS_POS 0 p).spoutDrop p))) ∧
    (s.hostUp = true →
      (s.owns f p = true → ∀ (off : BitVec 22) (bs : List Byte), bs ≠ [] → off.toNat + bs.length ≤ 0x3FF000 →
        bs.length ≤ 4096 → exec (.spoutDataWrite p f off bs) s = .next (s.after (s.spoutWrite p bs))) ∧
      (s.owns f p = true → ∀ (off : BitVec 22) (n : Fin 4097), off.toNat < 0x3FF000 →
        exec (.spoutRead p f off n) s = .next (s.after (s.spoutRead p n))) ∧
      (s.owns .pf0 p = false → ∀ (off : BitVec 22) (n : Fin 4097) (v : BitVec 32),
        exec (.spoutRead p .pf0 off n) s = .next (s.after (s.emit (.data (List.replicate n 0)))) ∧
        exec (.spoutDoorbell p .pf0 0 v) s = .next (s.after (s.bump 0x0A02 p))) ∧
      (s.owns f p = true → ∀ v : BitVec 32, exec (.spoutDoorbell p f 0 v) s = .next (s.after
        (s.setSpt p { s.spt p with bells := (s.spt p).bells ++ [v.toNat] })))) ∧
    (∀ v t, (s.spt p).bells = v :: t → s.arc.waits = [] →
      let u := s.setSpt p { s.spt p with bells := t }
      (u.fld SPT_CFG_DBACT p = 1 → exec (.doorbellDone p) s = .next (s.after
        (((u.signalHw (u.fld SPT_CFG_WKT p) (u.fld SPT_CFG_CTX p) v).addSat SPT_CNT_DBELLS 1 p).raiseMsi (16 + p)))) ∧
      (u.fld SPT_CFG_DBACT p = 0 → exec (.doorbellDone p) s = .next (s.after
        ((u.addSat SPT_CNT_DBELLS 1 p).raiseMsi (16 + p)))))

/-- O51: PERST_N low resets what the endpoint holds and turns its domain off, PERST_N high turns it on, a Function Level Reset stops the channels and ports that the function owns (R369); a number of VFs is enabled from VF 0 on (R351); a trained
link shows SPEED and WIDTH (R349). Clearing a vector's mask sends the message that is pending (R364). A write through BAR4 reaches the memory that its address names, under the generation of context 0, and a read of it what LPDDR
holds there or a poisoned completion; register space and unmapped addresses read 0 and drop writes (R335, R352), Gatehouse space counts ORG_WR_DENIED (R417). A store of a core to LPDDR is on its way until the
Arcade takes it, which a FENCE waits for, and a load reads its caches (R416). What the tray
controller reads is the register or count that Table 14.5 gives each offset, and reading an alarm entry clears its unread bit, the last of which
releases TRAY_ALERT_N (R366, R367); a write of ALARM_SEL with a wrong PEC is NAKed and counted.
(The model's choices in it: log entries 55, 62, 63, 65, 66, 251, 252.) -/
def Obligations.EndpointAndTray : Prop :=
  ∀ (s : State), s.gth.held = false →
    exec (.perst 0) s = .next (s.after
      { (s.pcieReset.setFld PWR_DOM_CTRL_STATE 0 198).setFld PWR_DOM_CTRL_EN 0 198 with pci := { s.pcieReset.pci with perst := true } }) ∧
    exec (.perst 1) s = .next (s.after
      { (s.setFld PWR_DOM_CTRL_STATE 2 198).setFld PWR_DOM_CTRL_EN 1 198 with pci := { s.pci with perst := false } }) ∧
    exec (.perst 2) s = .next (s.after s.pcieReset) ∧
    (∀ v : Fin 16, exec (.flr (.flr (.vf v))) s = .next (s.after
      (((List.range 16).foldl (fun t n => if t.owns (.vf v) n then (t.dmaOff n).spoutClear n else t) s).msixClear (1 + v)))) ∧
    (s.hostUp = true → ∀ n : Fin 17, exec (.flr (.vfs n)) s = .next (s.after
      { s with pci := { s.pci with vfOn := (List.range n).map (fun v => (v, true)) } })) ∧
    (s.pci.perst = false → s.pci.up = false → ∀ (sp : Fin 5) (w : Fin 4), exec (.pcieLinkTrained sp w) s = .next (s.after
      (({ s with pci := { s.pci with up := true } }.setFld PCI_LINK_SPEED (sp + 1)).setFld PCI_LINK_WIDTH (2 ^ w.val)))) ∧
    (∀ v : BitVec 10, exec (.msixUnmask .pf0 v) s = .next (s.after (s.msixUnmask 0 v.toNat))) ∧
    (∀ (f : Fin 16) (v : BitVec 10), v.toNat < 64 → s.pci.pba.get false (1024 * (1 + f.val) + v.toNat) = true →
      exec (.msixUnmask (.vf f) v) s = .next (s.after
        (let m := s.pci.msix.set 1 (State.msixKey (1 + f) v.toNat 3) (setBits (s.pci.msix.get 1 (State.msixKey (1 + f) v.toNat 3)) 0 1 0)
         ({ s with pci := { s.pci with msix := m, pba := s.pci.pba.set false (1024 * (1 + f.val) + v.toNat) false } }.emit
           (.msix (1 + f) v.toNat))))) ∧
    (s.hostUp = true → ∀ (off : BitVec 36),
      let a := s.fld PCI_BAR4_OFS_OFS * 2 ^ 28 + off.toNat
      (∀ bs : List Byte,
        ((∃ x, s.region a = .lpddr x) → s.trained = true → exec (.bar4Write (.host off) (.write bs)) s = .next (s.after
          (s.ctxPut 0 (s.cgen 0) a bs))) ∧
        (s.region a = .gth → exec (.bar4Write (.host off) (.write bs)) s = .next (s.after (s.bump 0x0D0E 13))) ∧
        ((∃ x, s.region a = .regs x) ∨ s.region a = .unmapped → exec (.bar4Write (.host off) (.write bs)) s = .next (s.after s))) ∧
      (∀ n : Fin 4097,
        ((∃ x, s.region a = .lpddr x) → s.trained = true →
          (s.poisoned a n = true → exec (.bar4Write (.host off) (.read n)) s = .next (s.after (s.emit .poisoned))) ∧
          (s.poisoned a n = false → exec (.bar4Write (.host off) (.read n)) s = .next (s.after
            ((s.lpSee a n none).2.emit (.data (s.lpSee a n none).1))))) ∧
        ((∃ x, s.region a = .regs x) ∨ s.region a = .unmapped →
          exec (.bar4Write (.host off) (.read n)) s = .next (s.after (s.emit (.data (List.replicate n 0))))))) ∧
    (∀ (c : Fin 16) (a : BitVec 48), s.coreUp c = true →
      ((∃ x, s.region a.toNat = .lpddr x) →
        (∀ bs : List Byte, exec (.bar4Write (.core c a) (.write bs)) s = .next (s.after
          (let u := s.lineStore ⟨c, a.toNat, bs⟩
           { u with org := { u.org with stores := u.org.stores ++ [⟨c, a.toNat, bs⟩] } }))) ∧
        (s.trained = true → ∀ n : Fin 4097, exec (.bar4Write (.core c a) (.read n)) s = .next (s.after
          ((s.coreLp c a.toNat n).2.emit (.data (s.coreLp c a.toNat n).1))))) ∧
      (s.trained = true → exec (.bar4Write (.core c a) .fence) s = .next (s.after
        ((s.org.stores.filter (fun y => y.core == c.val)).foldl State.coreLand
          { s with org := { s.org with stores := s.org.stores.filter (fun x => !(x.core == c.val)) } })))) ∧
    (
    let say := fun (bs : List Byte) => s.emit (.smbus bs)
    exec .devid s = .next (s.after (say (leBytes 4 (s.rd .GLB_DEVID)))) ∧
    (s.on GTH_STAT_RECOVERY = false → exec .heartbeat s = .next (s.after (say (leBytes 4 s.tray.heartbeat)))) ∧
    (s.on GTH_STAT_RECOVERY = true → exec .heartbeat s = .next (s.after (say (leBytes 4 (0x80000000 ||| s.gth.bufS.length))))) ∧
    exec .status s = .next (s.after (say (leBytes 4
      (s.lvlShown + 8 * b2n s.tray.pwrReqLow + 16 * s.fld GTH_STAT_LC + 65536 * s.fld PWR_STAT_HOT)))) ∧
    exec .power s = .next (s.after (say (leBytes 2 (s.fld PWR_STAT_POWER)))) ∧
    exec .alarmMap s = .next (s.after (say ((List.range 8).flatMap (fun i => leBytes 4 (s.fld GZB_ALM_STICKY_STICKY i))))) ∧
    (∀ i : BitVec 8, exec (.alarmSel i true) s = .next (s.after { s with tray := { s.tray with almSel := i.toNat } }) ∧
      exec (.alarmSel i false) s = .next (s.after ((s.emit .nak).bump 0x0A07))) ∧
    (let i := s.tray.almSel
     let t := say (leBytes 8 (s.fld GZB_ALM_ENTRY_FIRST i) ++ leBytes 4 (s.fld GZB_ALM_ENTRY_HI_COUNT i)
       ++ leBytes 2 (s.fld GZB_ALM_ENTRY_HI_CODE i) ++ leBytes 2 0)
     let u := { t with gzb := { t.gzb with unread := t.gzb.unread.set false i false } }
     (u.gzb.unread.any (fun x => x.2) = true → exec .alarmEntry s = .next (s.after u)) ∧
     (u.gzb.unread.any (fun x => x.2) = false → exec .alarmEntry s = .next (s.after (u.emit (.pin "TRAY_ALERT_N" true))))) ∧
    (s.gzb.unread.any (fun x => x.2) = true →
      exec .alertResponse s = .next (s.after (say [BitVec.ofNat 8 ((0x58 + s.tray.addrSel) * 2)]))) ∧
    (s.gzb.unread.any (fun x => x.2) = false → exec .alertResponse s = .next (s.after (s.emit .nak))))

/-! Ethernet. -/

/-- O52: a port powers up, links and powers down as its switching asks (R373); a subport that loses its link clears its bit, counts, ends BYP_HOLD and raises its alarm; BYP_HOLD comes 100 ms
after the link (R379). With GUARD a guard frame leaves every millisecond; without the owner's return for 3 ms RING_W opens with a flush and an alarm; after 1 s of returns it is blocked again; FLUSH
empties the learned addresses and goes on (R378). An address not heard of for 300 s is forgotten (R376).
(The model's choices in it: log entries 232, 243.) -/
def Obligations.EthernetPorts : Prop :=
  ∀ (s : State), s.gth.held = false →
    (∀ n : Fin 4,
      (s.fnState (.port n) = 0 → s.restart.any (fun x => x.1 == .port n) = false → exec (.portEnable n (.write true)) s = .next (s.after
        (((s.setFnEn (.port n) true).setFnState (.port n) 1).ownDomain (186 + n) true))) ∧
      (s.fld ETH_PORT_CFG_STATE n = 1 → exec (.portEnable n .done) s = .next (s.after (s.portStarted n))) ∧
      (∀ t, (s.ethPort n).upAt = some t → s.fld ETH_PORT_CFG_STATE n = 2 → s.fld ETH_PORT_CFG_MODE n ≠ 1 →
        s.on ETH_PORT_CFG_BYP_OFF n = false → t + 50000000 ≤ s.tick → exec (.bypHoldTimer n) s = .next (s.after (s.bypHold n true)))) ∧
    (∀ p : Fin 16, let n : Nat := p / 4
      (s.ethUp p = true → exec (.portLinkLoss p) s = .next (s.after
        (((((s.setFld ETH_PORT_CFG_LINK (setBits (s.fld ETH_PORT_CFG_LINK n) (p % 4) 1 0) n).addSat ETH_CNT_DOWN 1 n).setEthPort n
          { upAt := none }).bypHold n false).alarm (0x70 + p) 0x0B01))) ∧
      (s.fld ETH_PORT_CFG_STATE n = 2 → p.val % 4 = 0 ∨ s.fld ETH_PORT_CFG_MODE n = 1 → bit (s.fld ETH_PORT_CFG_LINK n) (p % 4) = false →
        exec (.portLinkUp p) s = .next (s.after ((s.setFld ETH_PORT_CFG_LINK
          (setBits (s.fld ETH_PORT_CFG_LINK n) (p % 4) 1 1) n).setEthPort n { upAt := some s.tick })))) ∧
    (s.on ETH_RING_CFG_GUARD = true → s.eth.guardAt + 500000 ≤ s.tick →
      exec .guardTimer s = .next (s.after ({ s with eth := { s.eth with guardAt := s.tick } }.sendGuard s.ringE 0))) ∧
    (s.guardLost = true → exec .guardReturnTimeout s = .next (s.after
      (({ s.setFld ETH_RING_CFG_OPEN 1 with eth := { s.eth with runAt := none } }).ringFlush.alarm 0x80 0x0B03))) ∧
    (s.ringHealed = true → exec .ringClosed s = .next (s.after (((s.setFld ETH_RING_CFG_OPEN 0).ringFlush).logFree 0x0B04 9 0 0xFFFF))) ∧
    (∀ (p : Fin 16) (c : BitVec 8) (q : BitVec 32), s.ethUp p = true → c.toNat ≠ s.zhl.chip →
      exec (.flush p c q) s = .next (s.after
        ({ s with eth := { s.eth with learned := [] } }.guardForward p (s.guardFrame c.toNat 1 q.toNat)))) ∧
    (∀ (vid : BitVec 12) (mac : BitVec 48), exec (.learnedEntryAgeOut vid mac) s = .next (s.after
      { s with eth := { s.eth with learned := s.eth.learned.filter (fun l =>
        !(l.vid == vid.toNat && l.mac == mac.toNat && decide (l.at_ + 300000000 * usTicks ≤ s.tick))) } }))

/-- O53: a frame of more than 9,216 bytes with its FCS counts RXERR, and any other is taken in as `frameIn` says
(R374, R375, R377). PTP messages leave at their intervals (R380), and those that arrive are used by their instance (R381, R382, R384); a receiver takes the packets of its
stream (R386), a sender sends a frame at its frame start (R388), and the CPU port's descriptors leave (R389).
(The model's choices in it: log entries 233, 234, 236, 295.) -/
def Obligations.EthernetTraffic : Prop :=
  ∀ (s : State), s.gth.held = false →
    (∀ (p : Fin 16) (bs : List Byte) (ok : Bool) (idle : BitVec 16) (rs : BitVec 48),
      exec (.frameIngress p bs ok idle rs) s = .next (s.after (s.frameIn p bs ok idle.toNat rs.toNat)) ∧
      (s.ethUp p = true → 9212 < bs.length → exec (.frameIngress p bs ok idle rs) s = .next (s.after
        ((s.bump 0x0B0C (p / 4)).addSat ETH_CNT_RXERR 1 (p / 4))))) ∧
    (∀ i : Fin 4,
      (∀ en, exec (.ptpEnable i en) s = .next (s.after ((s.setFld ETH_PTP_CFG_EN (b2n en) (i + 1)).setPtpi (i + 1) {}))) ∧
      (s.ptpOn (i + 1) = true →
        (s.ptpMaster (i + 1) = true → (s.ptpi (i + 1)).syncAt + State.ptpTicks (s.fld ETH_PTP_CFG_SYNC (i + 1)) ≤ s.tick →
          let u := s.ptpSync (i + 1)
          let due : Prop := u.ptpP2p = true ∧ (u.ptpi (i + 1)).dreqAt + State.ptpTicks (u.fld ETH_PTP_CFG_DREQ (i + 1)) ≤ u.tick
          (¬ due → exec (.ptpMessageTimer i) s = .next (s.after u)) ∧
          (due → exec (.ptpMessageTimer i) s = .next (s.after (u.ptpDelay (i + 1))))) ∧
        (s.ptpMaster (i + 1) = false → s.ptpSlave (i + 1) = true →
          (s.ptpi (i + 1)).dreqAt + State.ptpTicks (s.fld ETH_PTP_CFG_DREQ (i + 1)) ≤ s.tick →
          exec (.ptpMessageTimer i) s = .next (s.after (s.ptpDelay (i + 1)))) ∧
        (∀ (q : BitVec 16) (c : BitVec 64) (two : Bool) (t p : BitVec 80),
          let x := s.ptpi (i + 1)
          exec (.ptpEventRx i 0 q c two t p) s = .next (s.after (s.setPtpi (i + 1)
            { x with seq := q.toNat, t2 := some (s.tb16 (i + 1)), t2At := s.tick, corr := toSigned 64 c.toNat, two := two,
                     t1 := if two then none else some (State.ptpNs (beBytes 10 t.toNat)), stepped := x.stepped || s.ptpStepped (i + 1) })) ∧
          (x.two = true → x.seq = q.toNat → exec (.ptpGeneralMessage i 0 q c t) s = .next (s.after (s.setPtpi (i + 1)
            { x with t1 := some (State.ptpNs (beBytes 10 t.toNat)), corr := x.corr + toSigned 64 c.toNat })))) ∧
        (∀ (gm : BitVec 64) (l : BitVec 8), (s.ptpi (i + 1)).gm = none → exec (.announceRx i gm l) s = .next (s.after
          (s.setPtpi (i + 1) { s.ptpi (i + 1) with gm := some gm.toNat, annAt := some s.tick, annLog := toSigned 8 l.toNat })))) ∧
      (s.announceLate (i + 1) = true → exec (.announceTimeout i) s = .next (s.after (s.announceTimeout (i + 1)))) ∧
      exec (.sampleSetLatch i) s = .next (s.after ((s.setPtpi (i + 1) { s.ptpi (i + 1) with
        shown := (s.ptpi (i + 1)).set, latched := some (s.tick, s.out.length, 4) }).emit (.read (leNat ((s.ptpi (i + 1)).set.take 4)))))) ∧
    (∀ r : Fin 16,
      (s.fnState (.rx r) = 0 → s.restart.any (fun x => x.1 == .rx r) = false → exec (.rxEnable r (.write true)) s = .next (s.after ((s.setFnEn (.rx r) true).setFnState (.rx r) 1))) ∧
      (s.fld ETH_RX_CFG_STATE r = 1 → exec (.rxEnable r .done) s = .next (s.after
        ((s.startDone (.rx r) true).setRxc r { count := (s.rxc r).count, cgen := s.cgen (s.fld ETH_RX_CFG_CTX r) }))) ∧
      (s.fld ETH_RX_CFG_STATE r = 2 → s.trained = true → ∀ (rts : BitVec 32) (q : BitVec 16) (m o : Bool) (xs : List Srd),
        exec (.rxPacket r false rts q m o xs) s = .next (s.after (s.rxPacket r rts.toNat q.toNat m o xs)))) ∧
    (∀ t : Fin 8,
      (s.fnState (.tx t) = 0 → s.restart.any (fun x => x.1 == .tx t) = false → exec (.txEnable t (.write true)) s = .next (s.after ((s.setFnEn (.tx t) true).setFnState (.tx t) 1))) ∧
      (s.fld ETH_TX_CFG_STATE t = 1 → exec (.txEnable t .done) s = .next (s.after (s.txStarted t))) ∧
      (s.txDue t = true → s.trained = true → exec (.txFrameStart t) s = .next (s.after (s.txFrame t))) ∧
      (s.fld ETH_TX_CFG_STATE t = 2 → exec (.sndLate t) s = .next (s.after (s.bump 0x0B09 t)))) ∧
    (∀ k : Fin 4, s.trained = true → exec (.cpuTx k) s = .next (s.after (s.cpuTx k)))

/-! Arcade memory, power, Gazebo. -/

/-- O54: the first write of DENSITY starts training, at the end of which LPDDR is served (R392). A refresh slot begins at a multiple of its interval (R395, R396). A reservation that would raise the
admitted total above CAP is refused (R400); a first staging window of at most 8 MiB is enabled and one that overlaps another is refused, and once its copy is complete the staging SRAM serves its
range (R403); a fill writes its range at its completion (R404).
(The model's choices in it: log entries 68, 69, 70, 277, 288, 291.) -/
def Obligations.ArcadeCommands : Prop :=
  ∀ (s : State), s.gth.held = false →
    (s.arc.dens = false → s.trained = false →
      (∀ v : BitVec 2, exec (.densityWrite v) s = .next (s.after
        { s.setFld ARC_CFG_DENSITY v.toNat with arc := { s.arc with dens := true } }))) ∧
    (s.arc.dens = true → s.trained = false →
      let u := (s.setFld ARC_CFG_TRAINED 1).logFlush
      exec .trainingDone s = .next (s.after
        (((u.arc.waits.foldl State.lpServe { u with arc := { u.arc with waits := [] } }).bindWaiting).coreDrain (fun _ => true)))) ∧
    (s.slotDue = true → ∀ ce ue : List (BitVec 30), exec (.refreshSlot ce ue) s = .next (s.after
      (s.refreshSlot (ce.map (fun x => x.toNat)) (ue.map (fun x => x.toNat))))) ∧
    (s.arc.pollAt + 500000 ≤ s.tick → ∀ hot, exec (.dramTempPoll hot) s = .next (s.after
      { s with arc := { s.arc with pollAt := s.tick, hotPolled := hot } })) ∧
    (∀ (i : Fin 72) (r : BitVec 12) (d : BitVec 16),
      (i.val < 68 → s.fld ARC_RESV_RATE i < r.toNat → s.fld ARC_ADMIT_CAP < s.admitTotal - s.fld ARC_RESV_RATE i + r.toNat →
        exec (.resvWrite i r d) s = .next (s.after (s.bump 0x0C03 i))) ∧
      (i.val < 68 → r.toNat ≤ s.fld ARC_RESV_RATE i ∨ s.admitTotal - s.fld ARC_RESV_RATE i + r.toNat ≤ s.fld ARC_ADMIT_CAP →
        exec (.resvWrite i r d) s = .next (s.after
          ((s.setFld ARC_RESV_RATE r.toNat i).setFld ARC_RESV_DEPTH d.toNat i).admitShow)) ∧
      (68 ≤ i.val → exec (.resvWrite i r d) s = .next (s.after (s.setFld ARC_RESV_DEPTH d.toNat i)))) ∧
    (∀ i : Fin 32,
      exec (.stagingEnable i false) s = .next (s.after (s.stgEnd i)) ∧
      (s.on ARC_STG_EN i = true → exec (.stagingEnable i true) s = .next (s.after s)) ∧
      (s.on ARC_STG_EN i = false →
        let on := (List.range 32).filter (fun j => s.on ARC_STG_EN j)
        (on = [] → (s.stgRange i).2 ≤ 0x800000 →
          exec (.stagingEnable i true) s = .next (s.after { s.setFld ARC_STG_EN 1 i with
            arc := { s.arc with stgAt := s.arc.stgAt.set (0, 0) i (s.fld ARC_STG_BASE i, s.fld ARC_STG_SIZE i) } })) ∧
        (on.any (fun j => hits (s.stgRange j).1 (s.stgRange j).2 (s.stgRange i).1 (s.stgRange i).2) = true →
          exec (.stagingEnable i true) s = .next (s.after (s.addSat ARC_CNT_STGREF 1)))) ∧
      (s.on ARC_STG_EN i = true → s.on ARC_STG_VALID i = false → s.trained = true →
        exec (.stagingCopyDone i) s = .next (s.after (s.stgCopied i)))) ∧
    (∀ q : Fin 4,
      (s.on ARC_FILL_CTRL_BUSY q = false →
        let c := s.fld ARC_FILL_CTRL_CTX q
        let x : FillCmd := ⟨c, s.cgen c, s.fld ARC_FILL_ADDR_BASE q, s.fld ARC_FILL_LEN_LEN q, s.fld ARC_FILL_PAT_PATTERN q,
          if s.on ARC_FILL_CTRL_WKV q then some (s.fld ARC_FILL_CTRL_WKT q) else none⟩
        exec (.fillGo q) s = .next (s.after { s.setFld ARC_FILL_CTRL_BUSY 1 q with arc := { s.arc with fills := s.arc.fills.set {} q x } })) ∧
      (s.on ARC_FILL_CTRL_BUSY q = true → s.trained = true → exec (.fillDone q) s = .next (s.after (s.fillDone q))))

/-- O55: EN of a domain that a function owns changes nothing, and EN = 1 of another in OFF starts it unless it is a retired pavilion (R405, R407), and a domain whose turn it is ends its ramp (R406). A reading of the
sensors shows the hottest, its number and the power (R411). The emergency throttle starts on a condition of R410 and ends 100 µs after all have cleared.
(The model's choices in it: log entry 73.) -/
def Obligations.PowerCommands : Prop :=
  ∀ (s : State), s.gth.held = false →
    (∀ d : Fin 221,
      (s.on PWR_DOM_CTRL_OWNED d = true → ∀ b, exec (.powerDomainEnable d (.write b)) s = .next (s.after s)) ∧
      (s.on PWR_DOM_CTRL_OWNED d = false → 156 ≤ d.val ∨ s.retired d = false → s.fnState (.pwr d) = 0 →
        s.restart.any (fun x => x.1 == .pwr d) = false →
        exec (.powerDomainEnable d (.write true)) s = .next (s.after ((s.setFnEn (.pwr d) true).setFnState (.pwr d) 1).hartsShow)) ∧
      (s.fld PWR_DOM_CTRL_STATE d = 1 → s.pwrTurn d = true → ∀ ok, exec (.powerDomainEnable d (.on ok)) s = .next (s.after (s.pwrOn d ok)))) ∧
    (s.arc.tempAt + 25000 ≤ s.tick → ∀ (h : BitVec 16) (n : Fin 32) (p : BitVec 16),
      exec (.tempSensorRead h n p) s = .next (s.after (s.tempRead h.toNat n p.toNat))) ∧
    (∀ d, let t := { s with arc := { s.arc with droop := d } }.emergWatch
      (t.emergNow = true → t.on PWR_STAT_EMERG = false →
        let u := (t.setFld PWR_STAT_EMERG 1).addSat PWR_STAT_EMERGS 1
        exec (.emergThrottleStart d) s = .next (s.after
          { u.tcount 3 with arc := { u.arc with thrAt := some u.tick, clearAt := none } })) ∧
      (t.emergNow = false → exec (.emergThrottleStart d) s = .next (s.after t))) ∧
    (∀ c, s.arc.clearAt = some c → s.on PWR_STAT_EMERG = true → c + 50000 ≤ s.tick → exec .emergThrottleEnd s = .next (s.after
      { s.setFld PWR_STAT_EMERG 0 with arc := { s.arc with thrTicks := s.throttled, thrAt := none, clearAt := none } }))

/-- O56: a raise that finds the sticky bit at 0 sets it, writes FIRST and sets COUNT to 1, any other adds 1 to a COUNT that saturates; either writes CODE and sets the unread bit (R439). Ones written to GZB_ALM_STICKY clear the entries, and a raise of the same tick follows the clear (R440).
A log record of software, a read index, a trace level and a decimation step take effect (R441, R442, R444), and what its age makes due leaves on the management VLAN (R445).
(The model's choices in it: log entries 47, 48, 51.) -/
def Obligations.GazeboCommands : Prop :=
  ∀ (s : State), s.gth.held = false →
    (∀ src : BitVec 8, 0xC0 ≤ src.toNat →
      let a := src.toNat
      let u := { s with gzb := { s.gzb with unread := s.gzb.unread.set false a true,
                                            raised := s.gzb.raised.set (0, 0) a (s.tick, s.raisedNow a + 1) } }.emit (.pin "TRAY_ALERT_N" false)
      (s.sticky a = true → exec (.alarmUser src) s = .next (s.after
        ((u.setFld GZB_ALM_ENTRY_HI_COUNT (min (u.fld GZB_ALM_ENTRY_HI_COUNT a + 1) (2 ^ 32 - 1)) a).setFld GZB_ALM_ENTRY_HI_CODE 0x0E04 a))) ∧
      (s.sticky a = false →
        let v := u.setFld GZB_ALM_STICKY_STICKY (setBits (u.fld GZB_ALM_STICKY_STICKY (a / 32)) (a % 32) 1 1) (a / 32)
        exec (.alarmUser src) s = .next (s.after
          ((((v.setFld GZB_ALM_ENTRY_FIRST v.stamp a).setFld GZB_ALM_ENTRY_HI_COUNT 1 a).setFld GZB_ALM_ENTRY_HI_CODE 0x0E04 a).raiseMsi
            32 |>.alarmPacket a)))) ∧
    (∀ (i : Fin 8) (m : BitVec 32), (∀ j < 32, s.raisedNow (32 * i + j) = 0) →
      exec (.stickyClear i m) s = .next (s.after ((List.range 32).foldl (fun t j =>
        if bit m.toNat j then
          let src := 32 * i + j
          ((t.setFld GZB_ALM_STICKY_STICKY (setBits (t.fld GZB_ALM_STICKY_STICKY (src / 32)) (src % 32) 1 0) (src / 32)).setFld
            GZB_ALM_ENTRY_FIRST 0 src).setFld GZB_ALM_ENTRY_HI_COUNT 0 src
        else t) s))) ∧
    (∀ src, src < 256 → 0 < s.raisedNow src → s.raisedNow src < s.fld GZB_ALM_ENTRY_HI_COUNT src →
      exec (.stickyClear (Fin.ofNat 8 (src / 32)) (BitVec.ofNat 32 (2 ^ (src % 32)))) s = .next (s.after
        ((s.entryClear src).entryReraise src (s.raisedNow src) false))) ∧
    (∀ c : BitVec 16, exec (.logPut c) s = .next (s.after
      (s.logRaise ⟨s.stamp, c.toNat, 0xFF, 0, 0xFFFF, leBytes 8 s.gzb.put0 ++ leBytes 8 s.gzb.put1⟩))) ∧
    (∀ v : BitVec 64,
      let on := fun (w r : Nat) => (v.toNat + 2 ^ 64 - r) % 2 ^ 64 ≤ (w + 2 ^ 64 - r) % 2 ^ 64
      (on (s.fld GZB_LOG_WIDX_IDX) (s.fld GZB_LOG_RIDX_IDX) → exec (.logRidxWrite false v) s = .next (s.after (s.setFld GZB_LOG_RIDX_IDX v.toNat))) ∧
      (¬ on (s.fld GZB_LOG_WIDX_IDX) (s.fld GZB_LOG_RIDX_IDX) → exec (.logRidxWrite false v) s = .next (s.after s)) ∧
      (on (s.fld GZB_TRC_WIDX_IDX) (s.fld GZB_TRC_RIDX_IDX) → exec (.logRidxWrite true v) s = .next (s.after (s.setFld GZB_TRC_RIDX_IDX v.toNat))) ∧
      (¬ on (s.fld GZB_TRC_WIDX_IDX) (s.fld GZB_TRC_RIDX_IDX) → exec (.logRidxWrite true v) s = .next (s.after s))) ∧
    (∀ v : Fin 4, s.fld GZB_TRC_CFG_LEVEL ≠ v →
      let u := (s.setFld GZB_TRC_CFG_LEVEL v).setDecimation 0
      (s.fld GZB_TRC_CFG_K ≠ 0 → exec (.traceLevelWrite v) s = .next (s.after u)) ∧
      (s.fld GZB_TRC_CFG_K = 0 → exec (.traceLevelWrite v) s = .next (s.after { u with gzb := { u.gzb with kAt := s.gzb.kAt } }))) ∧
    (∀ k, s.decimationNow = some k → exec .traceDecimation s = .next (s.after (s.setDecimation k))) ∧
    exec .vlanEgressTimer s = .next (s.after s.egressTimer)

/-! The register space. -/

/-- O57: a keeper core's write of a register takes effect at once where the register has 32 bits; the low word of one of 64 bits is held until the high word is written, and then both take effect
(R9). A read answers the register's value, with reserved bits 0, and clears its read-clear fields; a read of a low word latches the high half, which the next read of the high word returns and releases
(R7-R9). An unassigned offset reads 0 and ignores writes (R8, R12). A write that the table of R417 does not permit is dropped and counted.
(The model's choices in it: log entries 23, 26.) -/
def Obligations.RegisterAccess : Prop :=
  ∀ (s : State), s.gth.held = false →
    let plain := fun (o : Nat) => o < 0x1100000 ∧ o / 0x100000 ≠ 13 ∧ o / 0x100000 ≠ 10 ∧ o / 0x100000 ≠ 9
    (∀ (off : BitVec 26) (v : BitVec 64) (wide : Bool), plain (4 * off.toNat) →
      let o := 4 * off.toNat
      (findReg o = none →
        exec (.regWrite (.core 0) off wide v) s = .next (s.after s) ∧
        exec (.readClear (.core 0) off wide) s = .next (s.after (s.emit (.read 0)))) ∧
      (∀ q, findReg o = some q →
        (q.reg.width = 4 →
          exec (.regWrite (.core 0) off false v) s = .next (s.after (s.regEffect (.core 0) q (v.toNat % 2 ^ 32) (2 ^ 32 - 1))) ∧
          exec (.readClear (.core 0) off wide) s = .next (s.after
            (((s.beforeRead q).clearRc q).emit (.read ((s.beforeRead q).regValue q))))) ∧
        (q.reg.width = 8 → q.hi = false →
          exec (.regWrite (.core 0) off true v) s = .next (s.after (s.regEffect (.core 0) q v.toNat (2 ^ 64 - 1))) ∧
          exec (.regWrite (.core 0) off false v) s = .next (s.after
            { s with heldLow := s.heldLow.set none (halfKey (.core 0) o) (some (v.toNat % 2 ^ 32)) }) ∧
          (let u := s.beforeRead q
           exec (.readClear (.core 0) off false) s = .next (s.after
             (({ u with latch := u.latch.set none (halfKey (.core 0) o) (some (u.regValue q / 2 ^ 32)) }.clearRc q).emit
               (.read (u.regValue q % 2 ^ 32)))))) ∧
        (q.reg.width = 8 → q.hi = true →
          (∀ lo, s.heldLow.get none (halfKey (.core 0) (o - 4)) = some lo →
            exec (.regWrite (.core 0) off false v) s = .next (s.after
              ({ s with heldLow := s.heldLow.set none (halfKey (.core 0) (o - 4)) none }.regEffect (.core 0) q
                (lo + v.toNat % 2 ^ 32 * 2 ^ 32) (2 ^ 64 - 1)))) ∧
          (let u := s.beforeRead q
           ∀ h, u.latch.get none (halfKey (.core 0) (o - 4)) = some h →
            exec (.readClear (.core 0) off false) s = .next (s.after
              ({ u with latch := u.latch.set none (halfKey (.core 0) (o - 4)) none }.emit (.read h))))))) ∧
    (∀ off : BitVec 26, plain (4 * off.toNat) → ∀ q, findReg (4 * off.toNat) = some q → q.reg.width = 8 → q.hi = false →
      let u := s.beforeRead q
      exec (.lowWordRead (.core 0) off) s = .next (s.after
        (({ u with latch := u.latch.set none (halfKey (.core 0) (4 * off.toNat)) (some (u.regValue q / 2 ^ 32)) }.clearRc q).emit
          (.read (u.regValue q % 2 ^ 32))))) ∧
    (∀ (n : Fin 16) (off : BitVec 26) (v : BitVec 64) (wide : Bool), 2 ≤ n.val → plain (4 * off.toNat) →
      bit (s.fld ORG_ACL_WEN) (4 * off.toNat / 0x100000) = false →
      exec (.regWrite (.core n) off wide v) s = .next (s.after (s.bump 0x0D0E (4 * off.toNat / 0x100000))))

/-- O58: a B1 device reads PART = 0x9600, STEP_MAJOR = 1 and STEP_MINOR = 1 in GLB_DEVID (R1): at reset, and by a core's read of it in every state whose register holds its reset value. -/
def Obligations.DeviceIdentity : Prop :=
  State.reset.fld GLB_DEVID_PART = 0x9600 ∧ State.reset.fld GLB_DEVID_STEP_MAJOR = 1 ∧ State.reset.fld GLB_DEVID_STEP_MINOR = 1 ∧
  (∀ s : State, s.gth.held = false → s.rd .GLB_DEVID = State.reset.rd .GLB_DEVID →
    ∃ v, exec (.readClear (.core 0) 0 false) s = .next (s.after ((s.clearRc ⟨.GLB_DEVID, 0, 0, false⟩).emit (.read v))) ∧
      bits v GLB_DEVID_PART.lo GLB_DEVID_PART.w = 0x9600 ∧ bits v GLB_DEVID_STEP_MAJOR.lo GLB_DEVID_STEP_MAJOR.w = 1 ∧
      bits v GLB_DEVID_STEP_MINOR.lo GLB_DEVID_STEP_MINOR.w = 1)

/-! Memory and arithmetic. -/

/-- O59: memory keeps its canonical form: it has it at reset, and a write and a wipe of a run keep it; the bytes of the run read as written, or 0, and every other byte as before. A
write through BAR4 to LPDDR that meets no hold buffer and no sealed range changes exactly the bytes that it names, and no register (R352).
(The model's choices in it: log entry 8.) -/
def Obligations.MemoryWrites : Prop :=
  Memory.wf State.reset.mem = true ∧
  (∀ (m : List Host.Cell) (a : Nat) (bs : List Byte), Memory.wf m = true → Memory.wf (writeRun m a bs) = true ∧
    ∀ x, Tbl.get Memory.blank (writeRun m a bs) x =
      if a ≤ x ∧ x < a + bs.length then bs.getD (x - a) Memory.blank else Tbl.get Memory.blank m x) ∧
  (∀ (m : List Host.Cell) (a n : Nat), Memory.wf m = true → Memory.wf (wipeRun m a n) = true ∧
    ∀ x, Tbl.get Memory.blank (wipeRun m a n) x = if a ≤ x ∧ x < a + n then Memory.blank else Tbl.get Memory.blank m x) ∧
  (∀ (off : BitVec 36) (bs : List Byte) (s t : State), s.gth.held = false → s.hostUp = true → s.trained = true → Memory.wf s.mem = true →
    let a := s.fld PCI_BAR4_OFS_OFS * 2 ^ 28 + off.toNat
    bs ≠ [] → a + bs.length ≤ s.usable → s.holdsHit a bs.length = [] → s.sealsHit a bs.length = [] →
    exec (.bar4Write (.host off) (.write bs)) s = .next t →
      Memory.wf t.mem = true ∧ t.regs = s.regs ∧
      ∀ x, Tbl.get Memory.blank t.mem x =
        if a ≤ x ∧ x < a + bs.length then bs.getD (x - a) Memory.blank else Tbl.get Memory.blank s.mem x)

/-- O60: Belvedere's luma (R181): the Rec. 709 sums of 8-bit and 10-bit components, rounded to the nearest integer with ties to even
(`rneQ`, R10), the 8-bit form of these and of LUMA16 a further rounding and saturation; alpha counts for nothing, and the results never
exceed 65,472 and 65,280. -/
def Obligations.LumaOfColour : Prop :=
  (∀ (n : Int) (d : Nat), 0 < d → 2 * (n - rneQ n d * d).natAbs ≤ d ∧ (2 * (n - rneQ n d * d).natAbs = d → rneQ n d % 2 = 0)) ∧
  (∀ (out v : Nat), fmtBytes out ≠ 1 →
    (lumaOf 3 out v : Int) = rneQ (13933 * bits v 20 10 + 46871 * bits v 10 10 + 4732 * bits v 0 10 : Nat) 1024 ∧ lumaOf 3 out v ≤ 65472 ∧
    (lumaOf 2 out v : Int) = rneQ (13933 * bits v 16 8 + 46871 * bits v 8 8 + 4732 * bits v 0 8 : Nat) 256 ∧ lumaOf 2 out v ≤ 65280) ∧
  (∀ (out v : Nat), fmtBytes out = 1 →
    (lumaOf 3 out v : Int) = sat (rneQ (rneQ (13933 * bits v 20 10 + 46871 * bits v 10 10 + 4732 * bits v 0 10 : Nat) 1024) 256) 0 255 ∧
    (lumaOf 2 out v : Int) = sat (rneQ (rneQ (13933 * bits v 16 8 + 46871 * bits v 8 8 + 4732 * bits v 0 8 : Nat) 256) 256) 0 255 ∧
    (lumaOf 1 out v : Int) = sat (rneQ v 256) 0 255)
end

