-- ==== Sys2Proof/Laws/State.lean ====
section
/-! SUPPORT. What each update of the state leaves alone, and what it gives the field it changes: one lemma per field and update. -/
namespace Sys2Proof.Laws
open Sys2Proof Sys2Proof.Machine
section
variable (s t : State)

@[simp] theorem wr_pending (r : Reg) (v i j : Nat) : (s.wr r v i j).pending = s.pending := rfl
@[simp] theorem wr_out (r : Reg) (v i j : Nat) : (s.wr r v i j).out = s.out := rfl
@[simp] theorem wr_tick (r : Reg) (v i j : Nat) : (s.wr r v i j).tick = s.tick := rfl
@[simp] theorem wr_freeN (r : Reg) (v i j : Nat) : (s.wr r v i j).freeN = s.freeN := rfl
@[simp] theorem wr_latch (r : Reg) (v i j : Nat) : (s.wr r v i j).latch = s.latch := rfl
@[simp] theorem wr_heldLow (r : Reg) (v i j : Nat) : (s.wr r v i j).heldLow = s.heldLow := rfl
@[simp] theorem wr_mem (r : Reg) (v i j : Nat) : (s.wr r v i j).mem = s.mem := rfl
@[simp] theorem wr_poison (r : Reg) (v i j : Nat) : (s.wr r v i j).poison = s.poison := rfl
@[simp] theorem wr_cnt (r : Reg) (v i j : Nat) : (s.wr r v i j).cnt = s.cnt := rfl
@[simp] theorem wr_sdl (r : Reg) (v i j : Nat) : (s.wr r v i j).sdl = s.sdl := rfl
@[simp] theorem wr_gzb (r : Reg) (v i j : Nat) : (s.wr r v i j).gzb = s.gzb := rfl
@[simp] theorem wr_arc (r : Reg) (v i j : Nat) : (s.wr r v i j).arc = s.arc := rfl
@[simp] theorem wr_pci (r : Reg) (v i j : Nat) : (s.wr r v i j).pci = s.pci := rfl
@[simp] theorem wr_tray (r : Reg) (v i j : Nat) : (s.wr r v i j).tray = s.tray := rfl
@[simp] theorem wr_par (r : Reg) (v i j : Nat) : (s.wr r v i j).par = s.par := rfl
@[simp] theorem wr_bel (r : Reg) (v i j : Nat) : (s.wr r v i j).bel = s.bel := rfl
@[simp] theorem wr_str (r : Reg) (v i j : Nat) : (s.wr r v i j).str = s.str := rfl
@[simp] theorem wr_bst (r : Reg) (v i j : Nat) : (s.wr r v i j).bst = s.bst := rfl
@[simp] theorem wr_zhl (r : Reg) (v i j : Nat) : (s.wr r v i j).zhl = s.zhl := rfl
@[simp] theorem wr_eth (r : Reg) (v i j : Nat) : (s.wr r v i j).eth = s.eth := rfl
@[simp] theorem wr_ldg (r : Reg) (v i j : Nat) : (s.wr r v i j).ldg = s.ldg := rfl
@[simp] theorem wr_gth (r : Reg) (v i j : Nat) : (s.wr r v i j).gth = s.gth := rfl
@[simp] theorem wr_hw (r : Reg) (v i j : Nat) : (s.wr r v i j).hw = s.hw := rfl
@[simp] theorem wr_sw (r : Reg) (v i j : Nat) : (s.wr r v i j).sw = s.sw := rfl
@[simp] theorem wr_org (r : Reg) (v i j : Nat) : (s.wr r v i j).org = s.org := rfl
@[simp] theorem wr_brief (r : Reg) (v i j : Nat) : (s.wr r v i j).brief = s.brief := rfl
@[simp] theorem wr_restart (r : Reg) (v i j : Nat) : (s.wr r v i j).restart = s.restart := rfl
@[simp] theorem setFld_pending (f : Fld) (v i j : Nat) : (s.setFld f v i j).pending = s.pending := rfl
@[simp] theorem setFld_out (f : Fld) (v i j : Nat) : (s.setFld f v i j).out = s.out := rfl
@[simp] theorem setFld_tick (f : Fld) (v i j : Nat) : (s.setFld f v i j).tick = s.tick := rfl
@[simp] theorem setFld_freeN (f : Fld) (v i j : Nat) : (s.setFld f v i j).freeN = s.freeN := rfl
@[simp] theorem setFld_latch (f : Fld) (v i j : Nat) : (s.setFld f v i j).latch = s.latch := rfl
@[simp] theorem setFld_heldLow (f : Fld) (v i j : Nat) : (s.setFld f v i j).heldLow = s.heldLow := rfl
@[simp] theorem setFld_mem (f : Fld) (v i j : Nat) : (s.setFld f v i j).mem = s.mem := rfl
@[simp] theorem setFld_poison (f : Fld) (v i j : Nat) : (s.setFld f v i j).poison = s.poison := rfl
@[simp] theorem setFld_cnt (f : Fld) (v i j : Nat) : (s.setFld f v i j).cnt = s.cnt := rfl
@[simp] theorem setFld_sdl (f : Fld) (v i j : Nat) : (s.setFld f v i j).sdl = s.sdl := rfl
@[simp] theorem setFld_gzb (f : Fld) (v i j : Nat) : (s.setFld f v i j).gzb = s.gzb := rfl
@[simp] theorem setFld_arc (f : Fld) (v i j : Nat) : (s.setFld f v i j).arc = s.arc := rfl
@[simp] theorem setFld_pci (f : Fld) (v i j : Nat) : (s.setFld f v i j).pci = s.pci := rfl
@[simp] theorem setFld_tray (f : Fld) (v i j : Nat) : (s.setFld f v i j).tray = s.tray := rfl
@[simp] theorem setFld_par (f : Fld) (v i j : Nat) : (s.setFld f v i j).par = s.par := rfl
@[simp] theorem setFld_bel (f : Fld) (v i j : Nat) : (s.setFld f v i j).bel = s.bel := rfl
@[simp] theorem setFld_str (f : Fld) (v i j : Nat) : (s.setFld f v i j).str = s.str := rfl
@[simp] theorem setFld_bst (f : Fld) (v i j : Nat) : (s.setFld f v i j).bst = s.bst := rfl
@[simp] theorem setFld_zhl (f : Fld) (v i j : Nat) : (s.setFld f v i j).zhl = s.zhl := rfl
@[simp] theorem setFld_eth (f : Fld) (v i j : Nat) : (s.setFld f v i j).eth = s.eth := rfl
@[simp] theorem setFld_ldg (f : Fld) (v i j : Nat) : (s.setFld f v i j).ldg = s.ldg := rfl
@[simp] theorem setFld_gth (f : Fld) (v i j : Nat) : (s.setFld f v i j).gth = s.gth := rfl
@[simp] theorem setFld_hw (f : Fld) (v i j : Nat) : (s.setFld f v i j).hw = s.hw := rfl
@[simp] theorem setFld_sw (f : Fld) (v i j : Nat) : (s.setFld f v i j).sw = s.sw := rfl
@[simp] theorem setFld_org (f : Fld) (v i j : Nat) : (s.setFld f v i j).org = s.org := rfl
@[simp] theorem setFld_brief (f : Fld) (v i j : Nat) : (s.setFld f v i j).brief = s.brief := rfl
@[simp] theorem setFld_restart (f : Fld) (v i j : Nat) : (s.setFld f v i j).restart = s.restart := rfl
@[simp] theorem addSat_pending (f : Fld) (n i j : Nat) : (s.addSat f n i j).pending = s.pending := rfl
@[simp] theorem addSat_out (f : Fld) (n i j : Nat) : (s.addSat f n i j).out = s.out := rfl
@[simp] theorem addSat_tick (f : Fld) (n i j : Nat) : (s.addSat f n i j).tick = s.tick := rfl
@[simp] theorem addSat_freeN (f : Fld) (n i j : Nat) : (s.addSat f n i j).freeN = s.freeN := rfl
@[simp] theorem addSat_latch (f : Fld) (n i j : Nat) : (s.addSat f n i j).latch = s.latch := rfl
@[simp] theorem addSat_heldLow (f : Fld) (n i j : Nat) : (s.addSat f n i j).heldLow = s.heldLow := rfl
@[simp] theorem addSat_mem (f : Fld) (n i j : Nat) : (s.addSat f n i j).mem = s.mem := rfl
@[simp] theorem addSat_poison (f : Fld) (n i j : Nat) : (s.addSat f n i j).poison = s.poison := rfl
@[simp] theorem addSat_cnt (f : Fld) (n i j : Nat) : (s.addSat f n i j).cnt = s.cnt := rfl
@[simp] theorem addSat_sdl (f : Fld) (n i j : Nat) : (s.addSat f n i j).sdl = s.sdl := rfl
@[simp] theorem addSat_gzb (f : Fld) (n i j : Nat) : (s.addSat f n i j).gzb = s.gzb := rfl
@[simp] theorem addSat_arc (f : Fld) (n i j : Nat) : (s.addSat f n i j).arc = s.arc := rfl
@[simp] theorem addSat_pci (f : Fld) (n i j : Nat) : (s.addSat f n i j).pci = s.pci := rfl
@[simp] theorem addSat_tray (f : Fld) (n i j : Nat) : (s.addSat f n i j).tray = s.tray := rfl
@[simp] theorem addSat_par (f : Fld) (n i j : Nat) : (s.addSat f n i j).par = s.par := rfl
@[simp] theorem addSat_bel (f : Fld) (n i j : Nat) : (s.addSat f n i j).bel = s.bel := rfl
@[simp] theorem addSat_str (f : Fld) (n i j : Nat) : (s.addSat f n i j).str = s.str := rfl
@[simp] theorem addSat_bst (f : Fld) (n i j : Nat) : (s.addSat f n i j).bst = s.bst := rfl
@[simp] theorem addSat_zhl (f : Fld) (n i j : Nat) : (s.addSat f n i j).zhl = s.zhl := rfl
@[simp] theorem addSat_eth (f : Fld) (n i j : Nat) : (s.addSat f n i j).eth = s.eth := rfl
@[simp] theorem addSat_ldg (f : Fld) (n i j : Nat) : (s.addSat f n i j).ldg = s.ldg := rfl
@[simp] theorem addSat_gth (f : Fld) (n i j : Nat) : (s.addSat f n i j).gth = s.gth := rfl
@[simp] theorem addSat_sw (f : Fld) (n i j : Nat) : (s.addSat f n i j).sw = s.sw := rfl
@[simp] theorem addSat_org (f : Fld) (n i j : Nat) : (s.addSat f n i j).org = s.org := rfl
@[simp] theorem addSat_brief (f : Fld) (n i j : Nat) : (s.addSat f n i j).brief = s.brief := rfl
@[simp] theorem addSat_restart (f : Fld) (n i j : Nat) : (s.addSat f n i j).restart = s.restart := rfl
@[simp] theorem addWrap_pending (f : Fld) (n i j : Nat) : (s.addWrap f n i j).pending = s.pending := rfl
@[simp] theorem addWrap_out (f : Fld) (n i j : Nat) : (s.addWrap f n i j).out = s.out := rfl
@[simp] theorem addWrap_tick (f : Fld) (n i j : Nat) : (s.addWrap f n i j).tick = s.tick := rfl
@[simp] theorem addWrap_freeN (f : Fld) (n i j : Nat) : (s.addWrap f n i j).freeN = s.freeN := rfl
@[simp] theorem addWrap_latch (f : Fld) (n i j : Nat) : (s.addWrap f n i j).latch = s.latch := rfl
@[simp] theorem addWrap_heldLow (f : Fld) (n i j : Nat) : (s.addWrap f n i j).heldLow = s.heldLow := rfl
@[simp] theorem addWrap_mem (f : Fld) (n i j : Nat) : (s.addWrap f n i j).mem = s.mem := rfl
@[simp] theorem addWrap_poison (f : Fld) (n i j : Nat) : (s.addWrap f n i j).poison = s.poison := rfl
@[simp] theorem addWrap_cnt (f : Fld) (n i j : Nat) : (s.addWrap f n i j).cnt = s.cnt := rfl
@[simp] theorem addWrap_sdl (f : Fld) (n i j : Nat) : (s.addWrap f n i j).sdl = s.sdl := rfl
@[simp] theorem addWrap_gzb (f : Fld) (n i j : Nat) : (s.addWrap f n i j).gzb = s.gzb := rfl
@[simp] theorem addWrap_arc (f : Fld) (n i j : Nat) : (s.addWrap f n i j).arc = s.arc := rfl
@[simp] theorem addWrap_pci (f : Fld) (n i j : Nat) : (s.addWrap f n i j).pci = s.pci := rfl
@[simp] theorem addWrap_tray (f : Fld) (n i j : Nat) : (s.addWrap f n i j).tray = s.tray := rfl
@[simp] theorem addWrap_par (f : Fld) (n i j : Nat) : (s.addWrap f n i j).par = s.par := rfl
@[simp] theorem addWrap_bel (f : Fld) (n i j : Nat) : (s.addWrap f n i j).bel = s.bel := rfl
@[simp] theorem addWrap_str (f : Fld) (n i j : Nat) : (s.addWrap f n i j).str = s.str := rfl
@[simp] theorem addWrap_bst (f : Fld) (n i j : Nat) : (s.addWrap f n i j).bst = s.bst := rfl
@[simp] theorem addWrap_zhl (f : Fld) (n i j : Nat) : (s.addWrap f n i j).zhl = s.zhl := rfl
@[simp] theorem addWrap_eth (f : Fld) (n i j : Nat) : (s.addWrap f n i j).eth = s.eth := rfl
@[simp] theorem addWrap_ldg (f : Fld) (n i j : Nat) : (s.addWrap f n i j).ldg = s.ldg := rfl
@[simp] theorem addWrap_gth (f : Fld) (n i j : Nat) : (s.addWrap f n i j).gth = s.gth := rfl
@[simp] theorem addWrap_hw (f : Fld) (n i j : Nat) : (s.addWrap f n i j).hw = s.hw := rfl
@[simp] theorem addWrap_sw (f : Fld) (n i j : Nat) : (s.addWrap f n i j).sw = s.sw := rfl
@[simp] theorem addWrap_org (f : Fld) (n i j : Nat) : (s.addWrap f n i j).org = s.org := rfl
@[simp] theorem addWrap_brief (f : Fld) (n i j : Nat) : (s.addWrap f n i j).brief = s.brief := rfl
@[simp] theorem addWrap_restart (f : Fld) (n i j : Nat) : (s.addWrap f n i j).restart = s.restart := rfl
@[simp] theorem setHw_pending (f : Fld) (v l i j : Nat) : (s.setHw f v l i j).pending = s.pending := rfl
@[simp] theorem setHw_out (f : Fld) (v l i j : Nat) : (s.setHw f v l i j).out = s.out := rfl
@[simp] theorem setHw_tick (f : Fld) (v l i j : Nat) : (s.setHw f v l i j).tick = s.tick := rfl
@[simp] theorem setHw_freeN (f : Fld) (v l i j : Nat) : (s.setHw f v l i j).freeN = s.freeN := rfl
@[simp] theorem setHw_latch (f : Fld) (v l i j : Nat) : (s.setHw f v l i j).latch = s.latch := rfl
@[simp] theorem setHw_heldLow (f : Fld) (v l i j : Nat) : (s.setHw f v l i j).heldLow = s.heldLow := rfl
@[simp] theorem setHw_mem (f : Fld) (v l i j : Nat) : (s.setHw f v l i j).mem = s.mem := rfl
@[simp] theorem setHw_poison (f : Fld) (v l i j : Nat) : (s.setHw f v l i j).poison = s.poison := rfl
@[simp] theorem setHw_cnt (f : Fld) (v l i j : Nat) : (s.setHw f v l i j).cnt = s.cnt := rfl
@[simp] theorem setHw_sdl (f : Fld) (v l i j : Nat) : (s.setHw f v l i j).sdl = s.sdl := rfl
@[simp] theorem setHw_gzb (f : Fld) (v l i j : Nat) : (s.setHw f v l i j).gzb = s.gzb := rfl
@[simp] theorem setHw_arc (f : Fld) (v l i j : Nat) : (s.setHw f v l i j).arc = s.arc := rfl
@[simp] theorem setHw_pci (f : Fld) (v l i j : Nat) : (s.setHw f v l i j).pci = s.pci := rfl
@[simp] theorem setHw_tray (f : Fld) (v l i j : Nat) : (s.setHw f v l i j).tray = s.tray := rfl
@[simp] theorem setHw_par (f : Fld) (v l i j : Nat) : (s.setHw f v l i j).par = s.par := rfl
@[simp] theorem setHw_bel (f : Fld) (v l i j : Nat) : (s.setHw f v l i j).bel = s.bel := rfl
@[simp] theorem setHw_str (f : Fld) (v l i j : Nat) : (s.setHw f v l i j).str = s.str := rfl
@[simp] theorem setHw_bst (f : Fld) (v l i j : Nat) : (s.setHw f v l i j).bst = s.bst := rfl
@[simp] theorem setHw_zhl (f : Fld) (v l i j : Nat) : (s.setHw f v l i j).zhl = s.zhl := rfl
@[simp] theorem setHw_eth (f : Fld) (v l i j : Nat) : (s.setHw f v l i j).eth = s.eth := rfl
@[simp] theorem setHw_ldg (f : Fld) (v l i j : Nat) : (s.setHw f v l i j).ldg = s.ldg := rfl
@[simp] theorem setHw_gth (f : Fld) (v l i j : Nat) : (s.setHw f v l i j).gth = s.gth := rfl
@[simp] theorem setHw_sw (f : Fld) (v l i j : Nat) : (s.setHw f v l i j).sw = s.sw := rfl
@[simp] theorem setHw_org (f : Fld) (v l i j : Nat) : (s.setHw f v l i j).org = s.org := rfl
@[simp] theorem setHw_brief (f : Fld) (v l i j : Nat) : (s.setHw f v l i j).brief = s.brief := rfl
@[simp] theorem setHw_restart (f : Fld) (v l i j : Nat) : (s.setHw f v l i j).restart = s.restart := rfl
@[simp] theorem raise_pending (f : Fld) (i j : Nat) : (s.raise f i j).pending = s.pending := rfl
@[simp] theorem raise_out (f : Fld) (i j : Nat) : (s.raise f i j).out = s.out := rfl
@[simp] theorem raise_tick (f : Fld) (i j : Nat) : (s.raise f i j).tick = s.tick := rfl
@[simp] theorem raise_freeN (f : Fld) (i j : Nat) : (s.raise f i j).freeN = s.freeN := rfl
@[simp] theorem raise_latch (f : Fld) (i j : Nat) : (s.raise f i j).latch = s.latch := rfl
@[simp] theorem raise_heldLow (f : Fld) (i j : Nat) : (s.raise f i j).heldLow = s.heldLow := rfl
@[simp] theorem raise_mem (f : Fld) (i j : Nat) : (s.raise f i j).mem = s.mem := rfl
@[simp] theorem raise_poison (f : Fld) (i j : Nat) : (s.raise f i j).poison = s.poison := rfl
@[simp] theorem raise_cnt (f : Fld) (i j : Nat) : (s.raise f i j).cnt = s.cnt := rfl
@[simp] theorem raise_sdl (f : Fld) (i j : Nat) : (s.raise f i j).sdl = s.sdl := rfl
@[simp] theorem raise_gzb (f : Fld) (i j : Nat) : (s.raise f i j).gzb = s.gzb := rfl
@[simp] theorem raise_arc (f : Fld) (i j : Nat) : (s.raise f i j).arc = s.arc := rfl
@[simp] theorem raise_pci (f : Fld) (i j : Nat) : (s.raise f i j).pci = s.pci := rfl
@[simp] theorem raise_tray (f : Fld) (i j : Nat) : (s.raise f i j).tray = s.tray := rfl
@[simp] theorem raise_par (f : Fld) (i j : Nat) : (s.raise f i j).par = s.par := rfl
@[simp] theorem raise_bel (f : Fld) (i j : Nat) : (s.raise f i j).bel = s.bel := rfl
@[simp] theorem raise_str (f : Fld) (i j : Nat) : (s.raise f i j).str = s.str := rfl
@[simp] theorem raise_bst (f : Fld) (i j : Nat) : (s.raise f i j).bst = s.bst := rfl
@[simp] theorem raise_zhl (f : Fld) (i j : Nat) : (s.raise f i j).zhl = s.zhl := rfl
@[simp] theorem raise_eth (f : Fld) (i j : Nat) : (s.raise f i j).eth = s.eth := rfl
@[simp] theorem raise_ldg (f : Fld) (i j : Nat) : (s.raise f i j).ldg = s.ldg := rfl
@[simp] theorem raise_gth (f : Fld) (i j : Nat) : (s.raise f i j).gth = s.gth := rfl
@[simp] theorem raise_sw (f : Fld) (i j : Nat) : (s.raise f i j).sw = s.sw := rfl
@[simp] theorem raise_org (f : Fld) (i j : Nat) : (s.raise f i j).org = s.org := rfl
@[simp] theorem raise_brief (f : Fld) (i j : Nat) : (s.raise f i j).brief = s.brief := rfl
@[simp] theorem raise_restart (f : Fld) (i j : Nat) : (s.raise f i j).restart = s.restart := rfl
@[simp] theorem putBytes_pending (a : Nat) (bs : List Byte) : (s.putBytes a bs).pending = s.pending := rfl
@[simp] theorem putBytes_out (a : Nat) (bs : List Byte) : (s.putBytes a bs).out = s.out := rfl
@[simp] theorem putBytes_tick (a : Nat) (bs : List Byte) : (s.putBytes a bs).tick = s.tick := rfl
@[simp] theorem putBytes_freeN (a : Nat) (bs : List Byte) : (s.putBytes a bs).freeN = s.freeN := rfl
@[simp] theorem putBytes_regs (a : Nat) (bs : List Byte) : (s.putBytes a bs).regs = s.regs := rfl
@[simp] theorem putBytes_latch (a : Nat) (bs : List Byte) : (s.putBytes a bs).latch = s.latch := rfl
@[simp] theorem putBytes_heldLow (a : Nat) (bs : List Byte) : (s.putBytes a bs).heldLow = s.heldLow := rfl
@[simp] theorem putBytes_poison (a : Nat) (bs : List Byte) : (s.putBytes a bs).poison = s.poison := rfl
@[simp] theorem putBytes_cnt (a : Nat) (bs : List Byte) : (s.putBytes a bs).cnt = s.cnt := rfl
@[simp] theorem putBytes_sdl (a : Nat) (bs : List Byte) : (s.putBytes a bs).sdl = s.sdl := rfl
@[simp] theorem putBytes_gzb (a : Nat) (bs : List Byte) : (s.putBytes a bs).gzb = s.gzb := rfl
@[simp] theorem putBytes_arc (a : Nat) (bs : List Byte) : (s.putBytes a bs).arc = s.arc := rfl
@[simp] theorem putBytes_pci (a : Nat) (bs : List Byte) : (s.putBytes a bs).pci = s.pci := rfl
@[simp] theorem putBytes_tray (a : Nat) (bs : List Byte) : (s.putBytes a bs).tray = s.tray := rfl
@[simp] theorem putBytes_par (a : Nat) (bs : List Byte) : (s.putBytes a bs).par = s.par := rfl
@[simp] theorem putBytes_bel (a : Nat) (bs : List Byte) : (s.putBytes a bs).bel = s.bel := rfl
@[simp] theorem putBytes_str (a : Nat) (bs : List Byte) : (s.putBytes a bs).str = s.str := rfl
@[simp] theorem putBytes_bst (a : Nat) (bs : List Byte) : (s.putBytes a bs).bst = s.bst := rfl
@[simp] theorem putBytes_zhl (a : Nat) (bs : List Byte) : (s.putBytes a bs).zhl = s.zhl := rfl
@[simp] theorem putBytes_eth (a : Nat) (bs : List Byte) : (s.putBytes a bs).eth = s.eth := rfl
@[simp] theorem putBytes_ldg (a : Nat) (bs : List Byte) : (s.putBytes a bs).ldg = s.ldg := rfl
@[simp] theorem putBytes_gth (a : Nat) (bs : List Byte) : (s.putBytes a bs).gth = s.gth := rfl
@[simp] theorem putBytes_hw (a : Nat) (bs : List Byte) : (s.putBytes a bs).hw = s.hw := rfl
@[simp] theorem putBytes_sw (a : Nat) (bs : List Byte) : (s.putBytes a bs).sw = s.sw := rfl
@[simp] theorem putBytes_org (a : Nat) (bs : List Byte) : (s.putBytes a bs).org = s.org := rfl
@[simp] theorem putBytes_brief (a : Nat) (bs : List Byte) : (s.putBytes a bs).brief = s.brief := rfl
@[simp] theorem putBytes_restart (a : Nat) (bs : List Byte) : (s.putBytes a bs).restart = s.restart := rfl
@[simp] theorem emit_pending (o : Out) : (s.emit o).pending = s.pending := rfl
@[simp] theorem emit_tick (o : Out) : (s.emit o).tick = s.tick := rfl
@[simp] theorem emit_freeN (o : Out) : (s.emit o).freeN = s.freeN := rfl
@[simp] theorem emit_regs (o : Out) : (s.emit o).regs = s.regs := rfl
@[simp] theorem emit_latch (o : Out) : (s.emit o).latch = s.latch := rfl
@[simp] theorem emit_heldLow (o : Out) : (s.emit o).heldLow = s.heldLow := rfl
@[simp] theorem emit_mem (o : Out) : (s.emit o).mem = s.mem := rfl
@[simp] theorem emit_poison (o : Out) : (s.emit o).poison = s.poison := rfl
@[simp] theorem emit_cnt (o : Out) : (s.emit o).cnt = s.cnt := rfl
@[simp] theorem emit_sdl (o : Out) : (s.emit o).sdl = s.sdl := rfl
@[simp] theorem emit_gzb (o : Out) : (s.emit o).gzb = s.gzb := rfl
@[simp] theorem emit_arc (o : Out) : (s.emit o).arc = s.arc := rfl
@[simp] theorem emit_pci (o : Out) : (s.emit o).pci = s.pci := rfl
@[simp] theorem emit_tray (o : Out) : (s.emit o).tray = s.tray := rfl
@[simp] theorem emit_par (o : Out) : (s.emit o).par = s.par := rfl
@[simp] theorem emit_bel (o : Out) : (s.emit o).bel = s.bel := rfl
@[simp] theorem emit_str (o : Out) : (s.emit o).str = s.str := rfl
@[simp] theorem emit_bst (o : Out) : (s.emit o).bst = s.bst := rfl
@[simp] theorem emit_zhl (o : Out) : (s.emit o).zhl = s.zhl := rfl
@[simp] theorem emit_eth (o : Out) : (s.emit o).eth = s.eth := rfl
@[simp] theorem emit_ldg (o : Out) : (s.emit o).ldg = s.ldg := rfl
@[simp] theorem emit_gth (o : Out) : (s.emit o).gth = s.gth := rfl
@[simp] theorem emit_hw (o : Out) : (s.emit o).hw = s.hw := rfl
@[simp] theorem emit_sw (o : Out) : (s.emit o).sw = s.sw := rfl
@[simp] theorem emit_org (o : Out) : (s.emit o).org = s.org := rfl
@[simp] theorem emit_brief (o : Out) : (s.emit o).brief = s.brief := rfl
@[simp] theorem emit_restart (o : Out) : (s.emit o).restart = s.restart := rfl
@[simp] theorem bump_pending (code inst n : Nat) : (s.bump code inst n).pending = s.pending := rfl
@[simp] theorem bump_out (code inst n : Nat) : (s.bump code inst n).out = s.out := rfl
@[simp] theorem bump_tick (code inst n : Nat) : (s.bump code inst n).tick = s.tick := rfl
@[simp] theorem bump_freeN (code inst n : Nat) : (s.bump code inst n).freeN = s.freeN := rfl
@[simp] theorem bump_regs (code inst n : Nat) : (s.bump code inst n).regs = s.regs := rfl
@[simp] theorem bump_latch (code inst n : Nat) : (s.bump code inst n).latch = s.latch := rfl
@[simp] theorem bump_heldLow (code inst n : Nat) : (s.bump code inst n).heldLow = s.heldLow := rfl
@[simp] theorem bump_mem (code inst n : Nat) : (s.bump code inst n).mem = s.mem := rfl
@[simp] theorem bump_poison (code inst n : Nat) : (s.bump code inst n).poison = s.poison := rfl
@[simp] theorem bump_sdl (code inst n : Nat) : (s.bump code inst n).sdl = s.sdl := rfl
@[simp] theorem bump_gzb (code inst n : Nat) : (s.bump code inst n).gzb = s.gzb := rfl
@[simp] theorem bump_arc (code inst n : Nat) : (s.bump code inst n).arc = s.arc := rfl
@[simp] theorem bump_pci (code inst n : Nat) : (s.bump code inst n).pci = s.pci := rfl
@[simp] theorem bump_tray (code inst n : Nat) : (s.bump code inst n).tray = s.tray := rfl
@[simp] theorem bump_par (code inst n : Nat) : (s.bump code inst n).par = s.par := rfl
@[simp] theorem bump_bel (code inst n : Nat) : (s.bump code inst n).bel = s.bel := rfl
@[simp] theorem bump_str (code inst n : Nat) : (s.bump code inst n).str = s.str := rfl
@[simp] theorem bump_bst (code inst n : Nat) : (s.bump code inst n).bst = s.bst := rfl
@[simp] theorem bump_zhl (code inst n : Nat) : (s.bump code inst n).zhl = s.zhl := rfl
@[simp] theorem bump_eth (code inst n : Nat) : (s.bump code inst n).eth = s.eth := rfl
@[simp] theorem bump_ldg (code inst n : Nat) : (s.bump code inst n).ldg = s.ldg := rfl
@[simp] theorem bump_gth (code inst n : Nat) : (s.bump code inst n).gth = s.gth := rfl
@[simp] theorem bump_hw (code inst n : Nat) : (s.bump code inst n).hw = s.hw := rfl
@[simp] theorem bump_sw (code inst n : Nat) : (s.bump code inst n).sw = s.sw := rfl
@[simp] theorem bump_org (code inst n : Nat) : (s.bump code inst n).org = s.org := rfl
@[simp] theorem bump_brief (code inst n : Nat) : (s.bump code inst n).brief = s.brief := rfl
@[simp] theorem bump_restart (code inst n : Nat) : (s.bump code inst n).restart = s.restart := rfl
@[simp] theorem beat_pending (e : Nat) : (s.beat e).pending = s.pending := rfl
@[simp] theorem beat_out (e : Nat) : (s.beat e).out = s.out := rfl
@[simp] theorem beat_tick (e : Nat) : (s.beat e).tick = s.tick := rfl
@[simp] theorem beat_freeN (e : Nat) : (s.beat e).freeN = s.freeN := rfl
@[simp] theorem beat_regs (e : Nat) : (s.beat e).regs = s.regs := rfl
@[simp] theorem beat_latch (e : Nat) : (s.beat e).latch = s.latch := rfl
@[simp] theorem beat_heldLow (e : Nat) : (s.beat e).heldLow = s.heldLow := rfl
@[simp] theorem beat_mem (e : Nat) : (s.beat e).mem = s.mem := rfl
@[simp] theorem beat_poison (e : Nat) : (s.beat e).poison = s.poison := rfl
@[simp] theorem beat_cnt (e : Nat) : (s.beat e).cnt = s.cnt := rfl
@[simp] theorem beat_sdl (e : Nat) : (s.beat e).sdl = s.sdl := rfl
@[simp] theorem beat_gzb (e : Nat) : (s.beat e).gzb = s.gzb := rfl
@[simp] theorem beat_arc (e : Nat) : (s.beat e).arc = s.arc := rfl
@[simp] theorem beat_pci (e : Nat) : (s.beat e).pci = s.pci := rfl
@[simp] theorem beat_tray (e : Nat) : (s.beat e).tray = s.tray := rfl
@[simp] theorem beat_par (e : Nat) : (s.beat e).par = s.par := rfl
@[simp] theorem beat_bel (e : Nat) : (s.beat e).bel = s.bel := rfl
@[simp] theorem beat_str (e : Nat) : (s.beat e).str = s.str := rfl
@[simp] theorem beat_bst (e : Nat) : (s.beat e).bst = s.bst := rfl
@[simp] theorem beat_zhl (e : Nat) : (s.beat e).zhl = s.zhl := rfl
@[simp] theorem beat_eth (e : Nat) : (s.beat e).eth = s.eth := rfl
@[simp] theorem beat_gth (e : Nat) : (s.beat e).gth = s.gth := rfl
@[simp] theorem beat_hw (e : Nat) : (s.beat e).hw = s.hw := rfl
@[simp] theorem beat_sw (e : Nat) : (s.beat e).sw = s.sw := rfl
@[simp] theorem beat_org (e : Nat) : (s.beat e).org = s.org := rfl
@[simp] theorem beat_brief (e : Nat) : (s.beat e).brief = s.brief := rfl
@[simp] theorem beat_restart (e : Nat) : (s.beat e).restart = s.restart := rfl
@[simp] theorem setProg_pending (k : Nat) (g : Prog) : (s.setProg k g).pending = s.pending := rfl
@[simp] theorem setProg_out (k : Nat) (g : Prog) : (s.setProg k g).out = s.out := rfl
@[simp] theorem setProg_tick (k : Nat) (g : Prog) : (s.setProg k g).tick = s.tick := rfl
@[simp] theorem setProg_freeN (k : Nat) (g : Prog) : (s.setProg k g).freeN = s.freeN := rfl
@[simp] theorem setProg_regs (k : Nat) (g : Prog) : (s.setProg k g).regs = s.regs := rfl
@[simp] theorem setProg_latch (k : Nat) (g : Prog) : (s.setProg k g).latch = s.latch := rfl
@[simp] theorem setProg_heldLow (k : Nat) (g : Prog) : (s.setProg k g).heldLow = s.heldLow := rfl
@[simp] theorem setProg_mem (k : Nat) (g : Prog) : (s.setProg k g).mem = s.mem := rfl
@[simp] theorem setProg_poison (k : Nat) (g : Prog) : (s.setProg k g).poison = s.poison := rfl
@[simp] theorem setProg_cnt (k : Nat) (g : Prog) : (s.setProg k g).cnt = s.cnt := rfl
@[simp] theorem setProg_sdl (k : Nat) (g : Prog) : (s.setProg k g).sdl = s.sdl := rfl
@[simp] theorem setProg_gzb (k : Nat) (g : Prog) : (s.setProg k g).gzb = s.gzb := rfl
@[simp] theorem setProg_arc (k : Nat) (g : Prog) : (s.setProg k g).arc = s.arc := rfl
@[simp] theorem setProg_pci (k : Nat) (g : Prog) : (s.setProg k g).pci = s.pci := rfl
@[simp] theorem setProg_tray (k : Nat) (g : Prog) : (s.setProg k g).tray = s.tray := rfl
@[simp] theorem setProg_bel (k : Nat) (g : Prog) : (s.setProg k g).bel = s.bel := rfl
@[simp] theorem setProg_str (k : Nat) (g : Prog) : (s.setProg k g).str = s.str := rfl
@[simp] theorem setProg_bst (k : Nat) (g : Prog) : (s.setProg k g).bst = s.bst := rfl
@[simp] theorem setProg_zhl (k : Nat) (g : Prog) : (s.setProg k g).zhl = s.zhl := rfl
@[simp] theorem setProg_eth (k : Nat) (g : Prog) : (s.setProg k g).eth = s.eth := rfl
@[simp] theorem setProg_ldg (k : Nat) (g : Prog) : (s.setProg k g).ldg = s.ldg := rfl
@[simp] theorem setProg_gth (k : Nat) (g : Prog) : (s.setProg k g).gth = s.gth := rfl
@[simp] theorem setProg_hw (k : Nat) (g : Prog) : (s.setProg k g).hw = s.hw := rfl
@[simp] theorem setProg_sw (k : Nat) (g : Prog) : (s.setProg k g).sw = s.sw := rfl
@[simp] theorem setProg_org (k : Nat) (g : Prog) : (s.setProg k g).org = s.org := rfl
@[simp] theorem setProg_brief (k : Nat) (g : Prog) : (s.setProg k g).brief = s.brief := rfl
@[simp] theorem setProg_restart (k : Nat) (g : Prog) : (s.setProg k g).restart = s.restart := rfl
@[simp] theorem setPlot_pending (p : Nat) (g : Plot) : (s.setPlot p g).pending = s.pending := rfl
@[simp] theorem setPlot_out (p : Nat) (g : Plot) : (s.setPlot p g).out = s.out := rfl
@[simp] theorem setPlot_tick (p : Nat) (g : Plot) : (s.setPlot p g).tick = s.tick := rfl
@[simp] theorem setPlot_freeN (p : Nat) (g : Plot) : (s.setPlot p g).freeN = s.freeN := rfl
@[simp] theorem setPlot_regs (p : Nat) (g : Plot) : (s.setPlot p g).regs = s.regs := rfl
@[simp] theorem setPlot_latch (p : Nat) (g : Plot) : (s.setPlot p g).latch = s.latch := rfl
@[simp] theorem setPlot_heldLow (p : Nat) (g : Plot) : (s.setPlot p g).heldLow = s.heldLow := rfl
@[simp] theorem setPlot_mem (p : Nat) (g : Plot) : (s.setPlot p g).mem = s.mem := rfl
@[simp] theorem setPlot_poison (p : Nat) (g : Plot) : (s.setPlot p g).poison = s.poison := rfl
@[simp] theorem setPlot_cnt (p : Nat) (g : Plot) : (s.setPlot p g).cnt = s.cnt := rfl
@[simp] theorem setPlot_sdl (p : Nat) (g : Plot) : (s.setPlot p g).sdl = s.sdl := rfl
@[simp] theorem setPlot_gzb (p : Nat) (g : Plot) : (s.setPlot p g).gzb = s.gzb := rfl
@[simp] theorem setPlot_arc (p : Nat) (g : Plot) : (s.setPlot p g).arc = s.arc := rfl
@[simp] theorem setPlot_pci (p : Nat) (g : Plot) : (s.setPlot p g).pci = s.pci := rfl
@[simp] theorem setPlot_tray (p : Nat) (g : Plot) : (s.setPlot p g).tray = s.tray := rfl
@[simp] theorem setPlot_bel (p : Nat) (g : Plot) : (s.setPlot p g).bel = s.bel := rfl
@[simp] theorem setPlot_str (p : Nat) (g : Plot) : (s.setPlot p g).str = s.str := rfl
@[simp] theorem setPlot_bst (p : Nat) (g : Plot) : (s.setPlot p g).bst = s.bst := rfl
@[simp] theorem setPlot_zhl (p : Nat) (g : Plot) : (s.setPlot p g).zhl = s.zhl := rfl
@[simp] theorem setPlot_eth (p : Nat) (g : Plot) : (s.setPlot p g).eth = s.eth := rfl
@[simp] theorem setPlot_ldg (p : Nat) (g : Plot) : (s.setPlot p g).ldg = s.ldg := rfl
@[simp] theorem setPlot_gth (p : Nat) (g : Plot) : (s.setPlot p g).gth = s.gth := rfl
@[simp] theorem setPlot_hw (p : Nat) (g : Plot) : (s.setPlot p g).hw = s.hw := rfl
@[simp] theorem setPlot_sw (p : Nat) (g : Plot) : (s.setPlot p g).sw = s.sw := rfl
@[simp] theorem setPlot_org (p : Nat) (g : Plot) : (s.setPlot p g).org = s.org := rfl
@[simp] theorem setPlot_brief (p : Nat) (g : Plot) : (s.setPlot p g).brief = s.brief := rfl
@[simp] theorem setPlot_restart (p : Nat) (g : Plot) : (s.setPlot p g).restart = s.restart := rfl
@[simp] theorem setSlot_pending (p j : Nat) (g : Slot) : (s.setSlot p j g).pending = s.pending := rfl
@[simp] theorem setSlot_out (p j : Nat) (g : Slot) : (s.setSlot p j g).out = s.out := rfl
@[simp] theorem setSlot_tick (p j : Nat) (g : Slot) : (s.setSlot p j g).tick = s.tick := rfl
@[simp] theorem setSlot_freeN (p j : Nat) (g : Slot) : (s.setSlot p j g).freeN = s.freeN := rfl
@[simp] theorem setSlot_regs (p j : Nat) (g : Slot) : (s.setSlot p j g).regs = s.regs := rfl
@[simp] theorem setSlot_latch (p j : Nat) (g : Slot) : (s.setSlot p j g).latch = s.latch := rfl
@[simp] theorem setSlot_heldLow (p j : Nat) (g : Slot) : (s.setSlot p j g).heldLow = s.heldLow := rfl
@[simp] theorem setSlot_mem (p j : Nat) (g : Slot) : (s.setSlot p j g).mem = s.mem := rfl
@[simp] theorem setSlot_poison (p j : Nat) (g : Slot) : (s.setSlot p j g).poison = s.poison := rfl
@[simp] theorem setSlot_cnt (p j : Nat) (g : Slot) : (s.setSlot p j g).cnt = s.cnt := rfl
@[simp] theorem setSlot_sdl (p j : Nat) (g : Slot) : (s.setSlot p j g).sdl = s.sdl := rfl
@[simp] theorem setSlot_gzb (p j : Nat) (g : Slot) : (s.setSlot p j g).gzb = s.gzb := rfl
@[simp] theorem setSlot_arc (p j : Nat) (g : Slot) : (s.setSlot p j g).arc = s.arc := rfl
@[simp] theorem setSlot_pci (p j : Nat) (g : Slot) : (s.setSlot p j g).pci = s.pci := rfl
@[simp] theorem setSlot_tray (p j : Nat) (g : Slot) : (s.setSlot p j g).tray = s.tray := rfl
@[simp] theorem setSlot_bel (p j : Nat) (g : Slot) : (s.setSlot p j g).bel = s.bel := rfl
@[simp] theorem setSlot_str (p j : Nat) (g : Slot) : (s.setSlot p j g).str = s.str := rfl
@[simp] theorem setSlot_bst (p j : Nat) (g : Slot) : (s.setSlot p j g).bst = s.bst := rfl
@[simp] theorem setSlot_zhl (p j : Nat) (g : Slot) : (s.setSlot p j g).zhl = s.zhl := rfl
@[simp] theorem setSlot_eth (p j : Nat) (g : Slot) : (s.setSlot p j g).eth = s.eth := rfl
@[simp] theorem setSlot_ldg (p j : Nat) (g : Slot) : (s.setSlot p j g).ldg = s.ldg := rfl
@[simp] theorem setSlot_gth (p j : Nat) (g : Slot) : (s.setSlot p j g).gth = s.gth := rfl
@[simp] theorem setSlot_hw (p j : Nat) (g : Slot) : (s.setSlot p j g).hw = s.hw := rfl
@[simp] theorem setSlot_sw (p j : Nat) (g : Slot) : (s.setSlot p j g).sw = s.sw := rfl
@[simp] theorem setSlot_org (p j : Nat) (g : Slot) : (s.setSlot p j g).org = s.org := rfl
@[simp] theorem setSlot_brief (p j : Nat) (g : Slot) : (s.setSlot p j g).brief = s.brief := rfl
@[simp] theorem setSlot_restart (p j : Nat) (g : Slot) : (s.setSlot p j g).restart = s.restart := rfl
@[simp] theorem setChan_pending (k : Nat) (g : Chan) : (s.setChan k g).pending = s.pending := rfl
@[simp] theorem setChan_out (k : Nat) (g : Chan) : (s.setChan k g).out = s.out := rfl
@[simp] theorem setChan_tick (k : Nat) (g : Chan) : (s.setChan k g).tick = s.tick := rfl
@[simp] theorem setChan_freeN (k : Nat) (g : Chan) : (s.setChan k g).freeN = s.freeN := rfl
@[simp] theorem setChan_regs (k : Nat) (g : Chan) : (s.setChan k g).regs = s.regs := rfl
@[simp] theorem setChan_latch (k : Nat) (g : Chan) : (s.setChan k g).latch = s.latch := rfl
@[simp] theorem setChan_heldLow (k : Nat) (g : Chan) : (s.setChan k g).heldLow = s.heldLow := rfl
@[simp] theorem setChan_mem (k : Nat) (g : Chan) : (s.setChan k g).mem = s.mem := rfl
@[simp] theorem setChan_poison (k : Nat) (g : Chan) : (s.setChan k g).poison = s.poison := rfl
@[simp] theorem setChan_cnt (k : Nat) (g : Chan) : (s.setChan k g).cnt = s.cnt := rfl
@[simp] theorem setChan_sdl (k : Nat) (g : Chan) : (s.setChan k g).sdl = s.sdl := rfl
@[simp] theorem setChan_gzb (k : Nat) (g : Chan) : (s.setChan k g).gzb = s.gzb := rfl
@[simp] theorem setChan_arc (k : Nat) (g : Chan) : (s.setChan k g).arc = s.arc := rfl
@[simp] theorem setChan_pci (k : Nat) (g : Chan) : (s.setChan k g).pci = s.pci := rfl
@[simp] theorem setChan_tray (k : Nat) (g : Chan) : (s.setChan k g).tray = s.tray := rfl
@[simp] theorem setChan_bel (k : Nat) (g : Chan) : (s.setChan k g).bel = s.bel := rfl
@[simp] theorem setChan_str (k : Nat) (g : Chan) : (s.setChan k g).str = s.str := rfl
@[simp] theorem setChan_bst (k : Nat) (g : Chan) : (s.setChan k g).bst = s.bst := rfl
@[simp] theorem setChan_zhl (k : Nat) (g : Chan) : (s.setChan k g).zhl = s.zhl := rfl
@[simp] theorem setChan_eth (k : Nat) (g : Chan) : (s.setChan k g).eth = s.eth := rfl
@[simp] theorem setChan_ldg (k : Nat) (g : Chan) : (s.setChan k g).ldg = s.ldg := rfl
@[simp] theorem setChan_gth (k : Nat) (g : Chan) : (s.setChan k g).gth = s.gth := rfl
@[simp] theorem setChan_hw (k : Nat) (g : Chan) : (s.setChan k g).hw = s.hw := rfl
@[simp] theorem setChan_sw (k : Nat) (g : Chan) : (s.setChan k g).sw = s.sw := rfl
@[simp] theorem setChan_org (k : Nat) (g : Chan) : (s.setChan k g).org = s.org := rfl
@[simp] theorem setChan_brief (k : Nat) (g : Chan) : (s.setChan k g).brief = s.brief := rfl
@[simp] theorem setChan_restart (k : Nat) (g : Chan) : (s.setChan k g).restart = s.restart := rfl
@[simp] theorem setWkt_pending (w : Nat) (g : Wicket) : (s.setWkt w g).pending = s.pending := rfl
@[simp] theorem setWkt_out (w : Nat) (g : Wicket) : (s.setWkt w g).out = s.out := rfl
@[simp] theorem setWkt_tick (w : Nat) (g : Wicket) : (s.setWkt w g).tick = s.tick := rfl
@[simp] theorem setWkt_freeN (w : Nat) (g : Wicket) : (s.setWkt w g).freeN = s.freeN := rfl
@[simp] theorem setWkt_regs (w : Nat) (g : Wicket) : (s.setWkt w g).regs = s.regs := rfl
@[simp] theorem setWkt_latch (w : Nat) (g : Wicket) : (s.setWkt w g).latch = s.latch := rfl
@[simp] theorem setWkt_heldLow (w : Nat) (g : Wicket) : (s.setWkt w g).heldLow = s.heldLow := rfl
@[simp] theorem setWkt_mem (w : Nat) (g : Wicket) : (s.setWkt w g).mem = s.mem := rfl
@[simp] theorem setWkt_poison (w : Nat) (g : Wicket) : (s.setWkt w g).poison = s.poison := rfl
@[simp] theorem setWkt_cnt (w : Nat) (g : Wicket) : (s.setWkt w g).cnt = s.cnt := rfl
@[simp] theorem setWkt_sdl (w : Nat) (g : Wicket) : (s.setWkt w g).sdl = s.sdl := rfl
@[simp] theorem setWkt_gzb (w : Nat) (g : Wicket) : (s.setWkt w g).gzb = s.gzb := rfl
@[simp] theorem setWkt_arc (w : Nat) (g : Wicket) : (s.setWkt w g).arc = s.arc := rfl
@[simp] theorem setWkt_pci (w : Nat) (g : Wicket) : (s.setWkt w g).pci = s.pci := rfl
@[simp] theorem setWkt_tray (w : Nat) (g : Wicket) : (s.setWkt w g).tray = s.tray := rfl
@[simp] theorem setWkt_bel (w : Nat) (g : Wicket) : (s.setWkt w g).bel = s.bel := rfl
@[simp] theorem setWkt_str (w : Nat) (g : Wicket) : (s.setWkt w g).str = s.str := rfl
@[simp] theorem setWkt_bst (w : Nat) (g : Wicket) : (s.setWkt w g).bst = s.bst := rfl
@[simp] theorem setWkt_zhl (w : Nat) (g : Wicket) : (s.setWkt w g).zhl = s.zhl := rfl
@[simp] theorem setWkt_eth (w : Nat) (g : Wicket) : (s.setWkt w g).eth = s.eth := rfl
@[simp] theorem setWkt_ldg (w : Nat) (g : Wicket) : (s.setWkt w g).ldg = s.ldg := rfl
@[simp] theorem setWkt_gth (w : Nat) (g : Wicket) : (s.setWkt w g).gth = s.gth := rfl
@[simp] theorem setWkt_hw (w : Nat) (g : Wicket) : (s.setWkt w g).hw = s.hw := rfl
@[simp] theorem setWkt_sw (w : Nat) (g : Wicket) : (s.setWkt w g).sw = s.sw := rfl
@[simp] theorem setWkt_org (w : Nat) (g : Wicket) : (s.setWkt w g).org = s.org := rfl
@[simp] theorem setWkt_brief (w : Nat) (g : Wicket) : (s.setWkt w g).brief = s.brief := rfl
@[simp] theorem setWkt_restart (w : Nat) (g : Wicket) : (s.setWkt w g).restart = s.restart := rfl
@[simp] theorem setCtx_pending (c : Nat) (g : Ctx) : (s.setCtx c g).pending = s.pending := rfl
@[simp] theorem setCtx_out (c : Nat) (g : Ctx) : (s.setCtx c g).out = s.out := rfl
@[simp] theorem setCtx_tick (c : Nat) (g : Ctx) : (s.setCtx c g).tick = s.tick := rfl
@[simp] theorem setCtx_freeN (c : Nat) (g : Ctx) : (s.setCtx c g).freeN = s.freeN := rfl
@[simp] theorem setCtx_regs (c : Nat) (g : Ctx) : (s.setCtx c g).regs = s.regs := rfl
@[simp] theorem setCtx_latch (c : Nat) (g : Ctx) : (s.setCtx c g).latch = s.latch := rfl
@[simp] theorem setCtx_heldLow (c : Nat) (g : Ctx) : (s.setCtx c g).heldLow = s.heldLow := rfl
@[simp] theorem setCtx_mem (c : Nat) (g : Ctx) : (s.setCtx c g).mem = s.mem := rfl
@[simp] theorem setCtx_poison (c : Nat) (g : Ctx) : (s.setCtx c g).poison = s.poison := rfl
@[simp] theorem setCtx_cnt (c : Nat) (g : Ctx) : (s.setCtx c g).cnt = s.cnt := rfl
@[simp] theorem setCtx_sdl (c : Nat) (g : Ctx) : (s.setCtx c g).sdl = s.sdl := rfl
@[simp] theorem setCtx_gzb (c : Nat) (g : Ctx) : (s.setCtx c g).gzb = s.gzb := rfl
@[simp] theorem setCtx_arc (c : Nat) (g : Ctx) : (s.setCtx c g).arc = s.arc := rfl
@[simp] theorem setCtx_pci (c : Nat) (g : Ctx) : (s.setCtx c g).pci = s.pci := rfl
@[simp] theorem setCtx_tray (c : Nat) (g : Ctx) : (s.setCtx c g).tray = s.tray := rfl
@[simp] theorem setCtx_bel (c : Nat) (g : Ctx) : (s.setCtx c g).bel = s.bel := rfl
@[simp] theorem setCtx_str (c : Nat) (g : Ctx) : (s.setCtx c g).str = s.str := rfl
@[simp] theorem setCtx_bst (c : Nat) (g : Ctx) : (s.setCtx c g).bst = s.bst := rfl
@[simp] theorem setCtx_zhl (c : Nat) (g : Ctx) : (s.setCtx c g).zhl = s.zhl := rfl
@[simp] theorem setCtx_eth (c : Nat) (g : Ctx) : (s.setCtx c g).eth = s.eth := rfl
@[simp] theorem setCtx_ldg (c : Nat) (g : Ctx) : (s.setCtx c g).ldg = s.ldg := rfl
@[simp] theorem setCtx_gth (c : Nat) (g : Ctx) : (s.setCtx c g).gth = s.gth := rfl
@[simp] theorem setCtx_hw (c : Nat) (g : Ctx) : (s.setCtx c g).hw = s.hw := rfl
@[simp] theorem setCtx_sw (c : Nat) (g : Ctx) : (s.setCtx c g).sw = s.sw := rfl
@[simp] theorem setCtx_org (c : Nat) (g : Ctx) : (s.setCtx c g).org = s.org := rfl
@[simp] theorem setCtx_brief (c : Nat) (g : Ctx) : (s.setCtx c g).brief = s.brief := rfl
@[simp] theorem setCtx_restart (c : Nat) (g : Ctx) : (s.setCtx c g).restart = s.restart := rfl
@[simp] theorem setFull_pending (b : Nat) (v : Bool) : (s.setFull b v).pending = s.pending := rfl
@[simp] theorem setFull_out (b : Nat) (v : Bool) : (s.setFull b v).out = s.out := rfl
@[simp] theorem setFull_tick (b : Nat) (v : Bool) : (s.setFull b v).tick = s.tick := rfl
@[simp] theorem setFull_freeN (b : Nat) (v : Bool) : (s.setFull b v).freeN = s.freeN := rfl
@[simp] theorem setFull_regs (b : Nat) (v : Bool) : (s.setFull b v).regs = s.regs := rfl
@[simp] theorem setFull_latch (b : Nat) (v : Bool) : (s.setFull b v).latch = s.latch := rfl
@[simp] theorem setFull_heldLow (b : Nat) (v : Bool) : (s.setFull b v).heldLow = s.heldLow := rfl
@[simp] theorem setFull_mem (b : Nat) (v : Bool) : (s.setFull b v).mem = s.mem := rfl
@[simp] theorem setFull_poison (b : Nat) (v : Bool) : (s.setFull b v).poison = s.poison := rfl
@[simp] theorem setFull_cnt (b : Nat) (v : Bool) : (s.setFull b v).cnt = s.cnt := rfl
@[simp] theorem setFull_sdl (b : Nat) (v : Bool) : (s.setFull b v).sdl = s.sdl := rfl
@[simp] theorem setFull_gzb (b : Nat) (v : Bool) : (s.setFull b v).gzb = s.gzb := rfl
@[simp] theorem setFull_arc (b : Nat) (v : Bool) : (s.setFull b v).arc = s.arc := rfl
@[simp] theorem setFull_pci (b : Nat) (v : Bool) : (s.setFull b v).pci = s.pci := rfl
@[simp] theorem setFull_tray (b : Nat) (v : Bool) : (s.setFull b v).tray = s.tray := rfl
@[simp] theorem setFull_bel (b : Nat) (v : Bool) : (s.setFull b v).bel = s.bel := rfl
@[simp] theorem setFull_str (b : Nat) (v : Bool) : (s.setFull b v).str = s.str := rfl
@[simp] theorem setFull_bst (b : Nat) (v : Bool) : (s.setFull b v).bst = s.bst := rfl
@[simp] theorem setFull_zhl (b : Nat) (v : Bool) : (s.setFull b v).zhl = s.zhl := rfl
@[simp] theorem setFull_eth (b : Nat) (v : Bool) : (s.setFull b v).eth = s.eth := rfl
@[simp] theorem setFull_ldg (b : Nat) (v : Bool) : (s.setFull b v).ldg = s.ldg := rfl
@[simp] theorem setFull_gth (b : Nat) (v : Bool) : (s.setFull b v).gth = s.gth := rfl
@[simp] theorem setFull_hw (b : Nat) (v : Bool) : (s.setFull b v).hw = s.hw := rfl
@[simp] theorem setFull_sw (b : Nat) (v : Bool) : (s.setFull b v).sw = s.sw := rfl
@[simp] theorem setFull_org (b : Nat) (v : Bool) : (s.setFull b v).org = s.org := rfl
@[simp] theorem setFull_brief (b : Nat) (v : Bool) : (s.setFull b v).brief = s.brief := rfl
@[simp] theorem setFull_restart (b : Nat) (v : Bool) : (s.setFull b v).restart = s.restart := rfl
@[simp] theorem wipeStore_pending (b : Nat) : (s.wipeStore b).pending = s.pending := rfl
@[simp] theorem wipeStore_out (b : Nat) : (s.wipeStore b).out = s.out := rfl
@[simp] theorem wipeStore_tick (b : Nat) : (s.wipeStore b).tick = s.tick := rfl
@[simp] theorem wipeStore_freeN (b : Nat) : (s.wipeStore b).freeN = s.freeN := rfl
@[simp] theorem wipeStore_regs (b : Nat) : (s.wipeStore b).regs = s.regs := rfl
@[simp] theorem wipeStore_latch (b : Nat) : (s.wipeStore b).latch = s.latch := rfl
@[simp] theorem wipeStore_heldLow (b : Nat) : (s.wipeStore b).heldLow = s.heldLow := rfl
@[simp] theorem wipeStore_poison (b : Nat) : (s.wipeStore b).poison = s.poison := rfl
@[simp] theorem wipeStore_cnt (b : Nat) : (s.wipeStore b).cnt = s.cnt := rfl
@[simp] theorem wipeStore_sdl (b : Nat) : (s.wipeStore b).sdl = s.sdl := rfl
@[simp] theorem wipeStore_gzb (b : Nat) : (s.wipeStore b).gzb = s.gzb := rfl
@[simp] theorem wipeStore_arc (b : Nat) : (s.wipeStore b).arc = s.arc := rfl
@[simp] theorem wipeStore_pci (b : Nat) : (s.wipeStore b).pci = s.pci := rfl
@[simp] theorem wipeStore_tray (b : Nat) : (s.wipeStore b).tray = s.tray := rfl
@[simp] theorem wipeStore_bel (b : Nat) : (s.wipeStore b).bel = s.bel := rfl
@[simp] theorem wipeStore_str (b : Nat) : (s.wipeStore b).str = s.str := rfl
@[simp] theorem wipeStore_bst (b : Nat) : (s.wipeStore b).bst = s.bst := rfl
@[simp] theorem wipeStore_zhl (b : Nat) : (s.wipeStore b).zhl = s.zhl := rfl
@[simp] theorem wipeStore_eth (b : Nat) : (s.wipeStore b).eth = s.eth := rfl
@[simp] theorem wipeStore_ldg (b : Nat) : (s.wipeStore b).ldg = s.ldg := rfl
@[simp] theorem wipeStore_gth (b : Nat) : (s.wipeStore b).gth = s.gth := rfl
@[simp] theorem wipeStore_hw (b : Nat) : (s.wipeStore b).hw = s.hw := rfl
@[simp] theorem wipeStore_sw (b : Nat) : (s.wipeStore b).sw = s.sw := rfl
@[simp] theorem wipeStore_org (b : Nat) : (s.wipeStore b).org = s.org := rfl
@[simp] theorem wipeStore_brief (b : Nat) : (s.wipeStore b).brief = s.brief := rfl
@[simp] theorem wipeStore_restart (b : Nat) : (s.wipeStore b).restart = s.restart := rfl

@[simp] theorem emit_out (o : Out) : (s.emit o).out = s.out ++ [o] := rfl
@[simp] theorem putBytes_mem (a : Nat) (bs : List Byte) : (s.putBytes a bs).mem = writeRun s.mem a bs := rfl
@[simp] theorem wr_regs (r : Reg) (v i j : Nat) :
    (s.wr r v i j).regs = s.regs.set (BitVec.ofNat 64 (r.reset i)) (r.addr i j) (BitVec.ofNat 64 v) := rfl
@[simp] theorem bump_cnt (code inst n : Nat) : (s.bump code inst n).cnt
    = s.cnt.set 0 (code * 65536 + inst) (s.cnt.get 0 (code * 65536 + inst) + n) := rfl
theorem setFld_eq_wr (f : Fld) (v i j : Nat) : s.setFld f v i j = s.wr f.reg (setBits (s.rd f.reg i j) f.lo f.w v) i j := rfl
/-! What `after` takes from where: the queue, PORST_N and the rails from the state before, all else from the state after. -/
@[simp] theorem after_pending : (s.after t).pending = s.pending := rfl
@[simp] theorem after_held : (s.after t).gth.held = false := rfl
@[simp] theorem after_porst : (s.after t).gth.porst = s.gth.porst := rfl
@[simp] theorem after_lowRail : (s.after t).gth.lowRail = s.gth.lowRail := rfl
@[simp] theorem after_out : (s.after t).out = t.out := rfl
@[simp] theorem after_tick : (s.after t).tick = t.tick := rfl
@[simp] theorem after_freeN : (s.after t).freeN = t.freeN := rfl
@[simp] theorem after_regs : (s.after t).regs = t.regs := rfl
@[simp] theorem after_latch : (s.after t).latch = t.latch := rfl
@[simp] theorem after_heldLow : (s.after t).heldLow = t.heldLow := rfl
@[simp] theorem after_mem : (s.after t).mem = t.mem := rfl
@[simp] theorem after_poison : (s.after t).poison = t.poison := rfl
@[simp] theorem after_cnt : (s.after t).cnt = t.cnt := rfl
@[simp] theorem after_sdl : (s.after t).sdl = t.sdl := rfl
@[simp] theorem after_gzb : (s.after t).gzb = t.gzb := rfl
@[simp] theorem after_arc : (s.after t).arc = t.arc := rfl
@[simp] theorem after_pci : (s.after t).pci = t.pci := rfl
@[simp] theorem after_tray : (s.after t).tray = t.tray := rfl
@[simp] theorem after_par : (s.after t).par = t.par := rfl
@[simp] theorem after_bel : (s.after t).bel = t.bel := rfl
@[simp] theorem after_str : (s.after t).str = t.str := rfl
@[simp] theorem after_bst : (s.after t).bst = t.bst := rfl
@[simp] theorem after_zhl : (s.after t).zhl = t.zhl := rfl
@[simp] theorem after_eth : (s.after t).eth = t.eth := rfl
@[simp] theorem after_ldg : (s.after t).ldg = t.ldg := rfl
end
end Sys2Proof.Laws
end

