-- ==== Sys2Proof/Laws/Tbl.lean ====
section
/-! SUPPORT. Laws of sparse tables: a key written reads back, every other key reads as before, and the canonical form is kept. -/
namespace Sys2Proof.Laws
open Sys2Proof Sys2Proof.Machine
variable {α : Type}

@[simp] theorem Tbl_get_nil (d : α) (i : Nat) : Tbl.get d [] i = d := rfl
theorem Tbl_get_cons (d : α) (p : Nat × α) (t : Tbl α) (i : Nat) :
    Tbl.get d (p :: t) i = if p.1 = i then p.2 else Tbl.get d t i := by
  by_cases h : p.1 = i <;> simp [Tbl.get, h]
/-- A key that no entry of the front part has is looked up in the back part. -/
theorem Tbl_get_append_right (d : α) (a b : Tbl α) (i : Nat) (h : ∀ p ∈ a, p.1 ≠ i) :
    Tbl.get d (a ++ b) i = Tbl.get d b i := by
  induction a with
  | nil => rfl
  | cons p t ih =>
    have hp : p.1 ≠ i := h p (by simp)
    simp [Tbl_get_cons, hp, ih (fun q hq => h q (by simp [hq]))]
/-- A key that no entry of the back part has is looked up in the front part. -/
theorem Tbl_get_append_left (d : α) (a b : Tbl α) (i : Nat) (h : ∀ p ∈ b, p.1 ≠ i) :
    Tbl.get d (a ++ b) i = Tbl.get d a i := by
  induction a with
  | nil =>
    induction b with
    | nil => rfl
    | cons p t ih =>
      have hp : p.1 ≠ i := h p (by simp)
      simpa [Tbl_get_cons, hp] using ih (fun q hq => h q (by simp [hq]))
  | cons p t ih => simp [Tbl_get_cons, ih]
/-- Keeping the keys of a set that holds `i` does not change what `i` reads as. -/
theorem Tbl_get_filter (d : α) (f : Nat → Bool) (t : Tbl α) (i : Nat) (h : f i = true) :
    Tbl.get d (t.filter (fun p => f p.1)) i = Tbl.get d t i := by
  induction t with
  | nil => rfl
  | cons p t ih =>
    by_cases hp : p.1 = i
    · simp [Tbl_get_cons, hp, h]
    · by_cases hf : f p.1 = true <;> simp [hf, Tbl_get_cons, hp, ih]
/-- A key that a filter drops reads as the default. -/
theorem Tbl_get_filter_out (d : α) (f : Nat → Bool) (t : Tbl α) (i : Nat) (h : f i = false) :
    Tbl.get d (t.filter (fun p => f p.1)) i = d := by
  induction t with
  | nil => rfl
  | cons p t ih =>
    by_cases hf : f p.1 = true
    · have hp : p.1 ≠ i := fun e => by simp [e, h] at hf
      simp [hf, Tbl_get_cons, hp, ih]
    · simp [hf, ih]
/-- The key written reads as the value written. -/
@[simp] theorem Tbl_get_set_self [DecidableEq α] (d : α) (t : Tbl α) (i : Nat) (v : α) : (t.set d i v).get d i = v := by
  unfold Tbl.set
  rw [Tbl_get_append_left _ _ _ _ (by intro p hp; simp at hp; omega),
    Tbl_get_append_right _ _ _ _ (by intro p hp; simp at hp; omega)]
  by_cases h : v = d <;> simp [h, Tbl_get_cons]
/-- Every other key reads as before. -/
theorem Tbl_get_set_ne [DecidableEq α] (d e : α) (t : Tbl α) (i j : Nat) (v : α) (h : j ≠ i) :
    (t.set d i v).get e j = t.get e j := by
  unfold Tbl.set
  rcases Nat.lt_or_gt_of_ne h with hlt | hgt
  · rw [Tbl_get_append_left _ _ _ _ (by intro p hp; simp at hp; omega),
      Tbl_get_append_left _ _ _ _ (by intro p hp; split at hp <;> simp at hp; subst hp; simpa using (Nat.ne_of_lt hlt).symm)]
    exact Tbl_get_filter e (fun k => decide (k < i)) t j (by simpa using hlt)
  · rw [List.append_assoc, Tbl_get_append_right _ _ _ _ (by intro p hp; simp at hp; omega),
      Tbl_get_append_right _ _ _ _ (by intro p hp; split at hp <;> simp at hp; subst hp; simpa using Nat.ne_of_lt hgt)]
    exact Tbl_get_filter e (fun k => decide (i < k)) t j (by simpa using hgt)

/-- The order of keys, as Lean's library says it. -/
theorem Tbl_sorted_iff (t : Tbl α) : t.sorted = true ↔ t.Pairwise (fun p q => p.1 < q.1) := by
  induction t with
  | nil => simp [Tbl.sorted]
  | cons p t ih =>
    cases t with
    | nil => simp [Tbl.sorted]
    | cons q t =>
      rw [Tbl.sorted, Bool.and_eq_true, ih, decide_eq_true_eq, List.pairwise_cons (a := p)]
      constructor
      · rintro ⟨h, hp⟩
        refine ⟨fun r hr => ?_, hp⟩
        rcases List.mem_cons.mp hr with rfl | hr
        · exact h
        · exact Nat.lt_trans h ((List.pairwise_cons.mp hp).1 r hr)
      · rintro ⟨h, hp⟩
        exact ⟨h q (by simp), hp⟩
/-- The canonical form: keys strictly rising and no entry at the default. -/
theorem Tbl_wf_iff [DecidableEq α] (d : α) (t : Tbl α) :
    t.wf d = true ↔ t.Pairwise (fun p q => p.1 < q.1) ∧ ∀ p ∈ t, p.2 ≠ d := by
  simp [Tbl.wf, Tbl_sorted_iff]
theorem Tbl_filter_wf [DecidableEq α] (d : α) (t : Tbl α) (f : Nat × α → Bool) (h : t.wf d = true) : Tbl.wf d (t.filter f) = true := by
  rw [Tbl_wf_iff] at h ⊢
  exact ⟨h.1.filter f, fun p hp => h.2 p ((List.mem_filter.mp hp).1)⟩
/-- Three parts whose keys lie below, within and above a range join to a canonical table. -/
theorem Tbl_join_wf [DecidableEq α] (d : α) (lo hi : Nat) (a b c : Tbl α) (ha : a.wf d = true) (hb : b.wf d = true)
    (hc : c.wf d = true) (ha' : ∀ p ∈ a, p.1 < lo) (hb' : ∀ p ∈ b, lo ≤ p.1 ∧ p.1 < hi) (hc' : ∀ p ∈ c, hi ≤ p.1)
    (hlh : lo ≤ hi) : Tbl.wf d (a ++ b ++ c) = true := by
  rw [Tbl_wf_iff] at ha hb hc ⊢
  refine ⟨?_, ?_⟩
  · rw [List.pairwise_append, List.pairwise_append]
    refine ⟨⟨ha.1, hb.1, fun p hp q hq => ?_⟩, hc.1, fun p hp q hq => ?_⟩
    · have := ha' p hp; have := hb' q hq; omega
    · have h2 := hc' q hq
      rcases List.mem_append.mp hp with hp | hp
      · have := ha' p hp; omega
      · have := hb' p hp; omega
  · intro p hp
    rcases List.mem_append.mp hp with hp | hp
    · rcases List.mem_append.mp hp with hp | hp
      · exact ha.2 p hp
      · exact hb.2 p hp
    · exact hc.2 p hp
/-- A write keeps the canonical form. -/
theorem Tbl_set_wf [DecidableEq α] (d : α) (t : Tbl α) (i : Nat) (v : α) (h : t.wf d = true) : (t.set d i v).wf d = true := by
  unfold Tbl.set
  refine Tbl_join_wf d i (i + 1) _ _ _ (Tbl_filter_wf d t _ h) ?_ (Tbl_filter_wf d t _ h) ?_ ?_ ?_ (by omega)
  · by_cases hv : v = d <;> simp [hv, Tbl.wf, Tbl.sorted]
  · intro p hp; simpa using (List.mem_filter.mp hp).2
  · intro p hp; split at hp <;> simp at hp; subst hp; simp
  · intro p hp; have := (List.mem_filter.mp hp).2; simp at this; omega
/-- In the canonical form an entry is what its key reads as. -/
theorem Tbl_get_of_mem (d : α) (t : Tbl α) (h : t.sorted = true) (p : Nat × α) (hp : p ∈ t) : t.get d p.1 = p.2 := by
  rw [Tbl_sorted_iff] at h
  induction t with
  | nil => simp at hp
  | cons q t ih =>
    rw [List.pairwise_cons] at h
    rw [Tbl_get_cons]
    rcases List.mem_cons.mp hp with rfl | hp
    · simp
    · have := h.1 p hp
      rw [if_neg (by omega), ih h.2 hp]
/-- Tables in canonical form that read alike are equal. -/
theorem Tbl_ext [DecidableEq α] (d : α) (s t : Tbl α) (hs : s.wf d = true) (ht : t.wf d = true)
    (h : ∀ i, s.get d i = t.get d i) : s = t := by
  have key : ∀ (a b : Tbl α), a.wf d = true → b.wf d = true → (∀ i, a.get d i = b.get d i) → ∀ p ∈ a, p ∈ b := by
    intro a b ha hb hab p hp
    have hd := ((Tbl_wf_iff d a).mp ha).2 p hp
    have h1 := Tbl_get_of_mem d a (by simp [Tbl.wf] at ha; exact ha.1) p hp
    rw [hab] at h1
    apply Classical.byContradiction
    intro hne
    unfold Tbl.get at h1
    cases hf : b.find? (fun q => q.1 == p.1) with
    | none => rw [hf] at h1; exact hd h1.symm
    | some q =>
      rw [hf] at h1
      have hq := List.mem_of_find?_eq_some hf
      have hk : q.1 = p.1 := by simpa using List.find?_some hf
      exact hne (by rw [show p = q from Prod.ext hk.symm h1.symm]; exact hq)
  have hs' := ((Tbl_wf_iff d s).mp hs).1
  have ht' := ((Tbl_wf_iff d t).mp ht).1
  have nd : ∀ (a : Tbl α), a.Pairwise (fun p q => p.1 < q.1) → a.Nodup := fun a ha =>
    ha.imp (fun {p q} hpq => by rintro rfl; exact Nat.lt_irrefl _ hpq)
  refine List.Perm.eq_of_pairwise (le := fun p q => p.1 < q.1) ?_ hs' ht' ((List.perm_ext_iff_of_nodup (nd s hs') (nd t ht')).mpr
    (fun p => ⟨key s t hs ht h p, key t s ht hs (fun i => (h i).symm) p⟩))
  intro a b _ _ h1 h2; omega
end Sys2Proof.Laws
end

