-- ==== Sys2Proof/Laws/Regs.lean ====
section
/-! SUPPORT. Laws of bit fields and of registers: a field written reads back, and every other register and field reads as before. -/
namespace Sys2Proof.Laws
open Sys2Proof Sys2Proof.Machine

theorem bits_lt (v lo w : Nat) : bits v lo w < 2 ^ w := Nat.mod_lt _ (Nat.two_pow_pos w)
/-- Bit `k` of a field is bit `lo + k` of the number. -/
theorem testBit_bits (v lo w k : Nat) : (bits v lo w).testBit k = (decide (k < w) && v.testBit (lo + k)) := by
  simp [bits, Nat.testBit_mod_two_pow, Nat.testBit_shiftRight]
/-- A number is its part below a field, the field and its part above. -/
theorem split_field (v lo w : Nat) :
    v = v % 2 ^ lo + bits v lo w * 2 ^ lo + v / 2 ^ lo / 2 ^ w * (2 ^ lo * 2 ^ w) := by
  rw [show bits v lo w = v / 2 ^ lo % 2 ^ w by rw [bits, Nat.shiftRight_eq_div_pow]]
  have h1 := Nat.div_add_mod v (2 ^ lo)
  have h2 := Nat.div_add_mod (v / 2 ^ lo) (2 ^ w)
  have h3 : v / 2 ^ lo / 2 ^ w * (2 ^ lo * 2 ^ w) = 2 ^ lo * (2 ^ w * (v / 2 ^ lo / 2 ^ w)) := by
    rw [Nat.mul_comm, Nat.mul_assoc]
  have h4 : 2 ^ lo * (v / 2 ^ lo) = 2 ^ lo * (2 ^ w * (v / 2 ^ lo / 2 ^ w)) + v / 2 ^ lo % 2 ^ w * 2 ^ lo := by
    rw [Nat.mul_comm (v / 2 ^ lo % 2 ^ w), ← Nat.mul_add, h2]
  omega
/-- What `setBits` leaves: the parts below and above as before, and the new field between them. -/
theorem setBits_eq (v lo w x : Nat) :
    setBits v lo w x = v % 2 ^ lo + x % 2 ^ w * 2 ^ lo + v / 2 ^ lo / 2 ^ w * (2 ^ lo * 2 ^ w) := by
  have h := split_field v lo w
  unfold setBits
  rw [Nat.shiftLeft_eq, Nat.shiftLeft_eq]
  omega
/-- A field of a number put together from its parts. -/
theorem bits_join (a x h lo w : Nat) (ha : a < 2 ^ lo) (hx : x < 2 ^ w) :
    bits (a + x * 2 ^ lo + h * (2 ^ lo * 2 ^ w)) lo w = x := by
  have e : a + x * 2 ^ lo + h * (2 ^ lo * 2 ^ w) = a + (x + h * 2 ^ w) * 2 ^ lo := by
    rw [Nat.add_mul, Nat.mul_comm (2 ^ lo) (2 ^ w), Nat.mul_assoc, Nat.add_assoc]
  rw [bits, Nat.shiftRight_eq_div_pow, e, Nat.add_mul_div_right _ _ (Nat.two_pow_pos lo), Nat.div_eq_of_lt ha, Nat.zero_add,
    Nat.add_mul_mod_self_right, Nat.mod_eq_of_lt hx]
/-- The field set reads as the low bits of the value. -/
@[simp] theorem bits_setBits_self (v lo w x : Nat) : bits (setBits v lo w x) lo w = x % 2 ^ w := by
  rw [setBits_eq, bits_join _ _ _ _ _ (Nat.mod_lt _ (Nat.two_pow_pos lo)) (Nat.mod_lt _ (Nat.two_pow_pos w))]
/-- Bit by bit, `setBits` changes the field and nothing else. -/
theorem testBit_setBits (v lo w x k : Nat) :
    (setBits v lo w x).testBit k = if lo ≤ k ∧ k < lo + w then x.testBit (k - lo) else v.testBit k := by
  by_cases h : lo ≤ k ∧ k < lo + w
  · rw [if_pos h]
    have := testBit_bits (setBits v lo w x) lo w (k - lo)
    rw [bits_setBits_self, Nat.testBit_mod_two_pow, show lo + (k - lo) = k by omega] at this
    simpa [show k - lo < w by omega] using this.symm
  · rw [if_neg h]
    by_cases hk : k < lo
    · have e : setBits v lo w x % 2 ^ lo = v % 2 ^ lo := by
        rw [setBits_eq, Nat.mul_comm (2 ^ lo), ← Nat.mul_assoc, Nat.add_assoc, ← Nat.add_mul, Nat.add_mul_mod_self_right,
          Nat.mod_mod]
      have h1 := congrArg (fun n => Nat.testBit n k) e
      simpa [Nat.testBit_mod_two_pow, hk] using h1
    · have e : ∀ y, (v % 2 ^ lo + y % 2 ^ w * 2 ^ lo + v / 2 ^ lo / 2 ^ w * (2 ^ lo * 2 ^ w)) / 2 ^ (lo + w)
          = v / 2 ^ lo / 2 ^ w := by
        intro y
        rw [Nat.pow_add, ← Nat.div_div_eq_div_mul, Nat.mul_comm (2 ^ lo) (2 ^ w), ← Nat.mul_assoc, Nat.add_assoc, ← Nat.add_mul,
          Nat.add_mul_div_right _ _ (Nat.two_pow_pos lo), Nat.div_eq_of_lt (Nat.mod_lt _ (Nat.two_pow_pos lo)), Nat.zero_add,
          Nat.add_mul_div_right _ _ (Nat.two_pow_pos w), Nat.div_eq_of_lt (Nat.mod_lt _ (Nat.two_pow_pos w)), Nat.zero_add]
      have h1 : setBits v lo w x >>> (lo + w) = v >>> (lo + w) := by
        rw [Nat.shiftRight_eq_div_pow, Nat.shiftRight_eq_div_pow, setBits_eq, e, Nat.pow_add, ← Nat.div_div_eq_div_mul]
      have h2 := congrArg (fun n => Nat.testBit n (k - (lo + w))) h1
      simpa [Nat.testBit_shiftRight, show lo + w + (k - (lo + w)) = k by omega] using h2
/-- A field that does not overlap the one set reads as before. -/
theorem bits_setBits_ne (v lo w x lo' w' : Nat) (h : lo' + w' ≤ lo ∨ lo + w ≤ lo') :
    bits (setBits v lo w x) lo' w' = bits v lo' w' := by
  apply Nat.eq_of_testBit_eq
  intro k
  rw [testBit_bits, testBit_bits, testBit_setBits]
  by_cases hk : k < w'
  · rw [if_neg (by omega)]
  · simp [hk]
/-- A field set keeps a number within its register. -/
theorem setBits_lt (v lo w x n : Nat) (hv : v < 2 ^ n) (h : lo + w ≤ n) : setBits v lo w x < 2 ^ n := by
  apply Nat.lt_pow_two_of_testBit
  intro k hk
  rw [testBit_setBits, if_neg (by omega)]
  exact Nat.testBit_lt_two_pow (Nat.lt_of_lt_of_le hv (Nat.pow_le_pow_right (by omega) hk))

section
variable (s : State)
theorem rd_lt (r : Reg) (i j : Nat) : s.rd r i j < 2 ^ 64 := BitVec.isLt _
/-- The register written reads as the value written. -/
@[simp] theorem rd_wr_self (r : Reg) (v i j : Nat) : (s.wr r v i j).rd r i j = v % 2 ^ 64 := by
  simp [State.rd, BitVec.toNat_ofNat]
/-- A register at another offset reads as before. -/
theorem rd_wr_ne (r r' : Reg) (v i j i' j' : Nat) (h : r'.addr i' j' ≠ r.addr i j) :
    (s.wr r v i j).rd r' i' j' = s.rd r' i' j' := by
  simp only [State.rd, wr_regs, Tbl_get_set_ne _ _ _ _ _ _ h]
/-- The field set reads as the low bits of the value. -/
theorem fld_setFld_self (f : Fld) (v i j : Nat) (h : f.lo + f.w ≤ 64) : (s.setFld f v i j).fld f i j = v % 2 ^ f.w := by
  unfold State.fld
  rw [setFld_eq_wr, rd_wr_self, Nat.mod_eq_of_lt (setBits_lt _ _ _ _ _ (rd_lt s _ _ _) h), bits_setBits_self]
/-- Another field of the same register reads as before. -/
theorem fld_setFld_same (f g : Fld) (v i j : Nat) (hr : g.reg = f.reg) (h : f.lo + f.w ≤ 64)
    (hd : g.lo + g.w ≤ f.lo ∨ f.lo + f.w ≤ g.lo) : (s.setFld f v i j).fld g i j = s.fld g i j := by
  unfold State.fld
  rw [setFld_eq_wr, hr, rd_wr_self, Nat.mod_eq_of_lt (setBits_lt _ _ _ _ _ (rd_lt s _ _ _) h), bits_setBits_ne _ _ _ _ _ _ hd]
/-- A field of a register at another offset reads as before. -/
theorem fld_setFld_ne (f g : Fld) (v i j i' j' : Nat) (h : g.reg.addr i' j' ≠ f.reg.addr i j) :
    (s.setFld f v i j).fld g i' j' = s.fld g i' j' := by
  unfold State.fld
  rw [setFld_eq_wr, rd_wr_ne _ _ _ _ _ _ _ _ h]
/-- What a register write leaves of the register space: every other offset reads as before. -/
theorem regs_wr_ne (r : Reg) (v i j a : Nat) (d : BitVec 64) (h : a ≠ r.addr i j) :
    (s.wr r v i j).regs.get d a = s.regs.get d a := by
  rw [wr_regs, Tbl_get_set_ne _ _ _ _ _ _ h]
theorem regs_setFld_ne (f : Fld) (v i j a : Nat) (d : BitVec 64) (h : a ≠ f.reg.addr i j) :
    (s.setFld f v i j).regs.get d a = s.regs.get d a := regs_wr_ne s _ _ i j a d h
/-- A state whose registers alone were written is the old one with the new registers. -/
theorem wr_frame (r : Reg) (v i j : Nat) : s.wr r v i j = { s with regs := (s.wr r v i j).regs } := rfl
theorem setFld_frame (f : Fld) (v i j : Nat) : s.setFld f v i j = { s with regs := (s.setFld f v i j).regs } := rfl
theorem after_of_eq (t : State) (hp : t.pending = s.pending) (hg : t.gth = s.gth) (h : s.gth.held = false) : s.after t = t := by
  unfold State.after
  rw [← hp, ← h, ← hg]
end
end Sys2Proof.Laws
end

