-- ==== Sys2Proof/Laws/Exec.lean ====
section
/-! SUPPORT. What a step can do, said once: a command that is not a reset leaves a held device alone and otherwise answers a next state
of the form `s.after t`. -/
namespace Sys2Proof.Laws
open Sys2Proof Sys2Proof.Machine
section
variable (s t u : State)
theorem done_held (h : s.gth.held = true) : done s t = .next s := by simp [done, h]
theorem done_next (h : s.gth.held = false) : done s t = .next (s.after t) := by simp [done, h]
/-- The inversion of `done`. -/
theorem done_cases (h : done s t = .next u) : (s.gth.held = true ∧ u = s) ∨ (s.gth.held = false ∧ u = s.after t) := by
  cases hh : s.gth.held with
  | true => rw [done_held s t hh] at h; exact .inl ⟨rfl, (Host.Outcome.next.inj h).symm⟩
  | false => rw [done_next s t hh] at h; exact .inr ⟨rfl, (Host.Outcome.next.inj h).symm⟩
theorem doneAny_cases (h : doneAny s t = .next u) : u = { t with pending := s.pending } := (Host.Outcome.next.inj h).symm
end
/-- Every command that is not a reset goes through `done`. -/
theorem exec_done (c : Instr) (s : State) (h : c.isReset = false) : ∃ t, exec c s = done s t := by
  cases c with
  | regWrite => exact ⟨_, rfl⟩
  | readClear => exact ⟨_, rfl⟩
  | tbStepWrite => exact ⟨_, rfl⟩
  | tbLoad => exact ⟨_, rfl⟩
  | tbOvr => exact ⟨_, rfl⟩
  | tbIncWrite => exact ⟨_, rfl⟩
  | tbPhaseApply => exact ⟨_, rfl⟩
  | holdoverClear => exact ⟨_, rfl⟩
  | tbCapture => exact ⟨_, rfl⟩
  | pairForce => exact ⟨_, rfl⟩
  | pairPeriodic => exact ⟨_, rfl⟩
  | lcApply => exact ⟨_, rfl⟩
  | lcFrameStart => exact ⟨_, rfl⟩
  | genlockPulse => exact ⟨_, rfl⟩
  | genlockTimeout => exact ⟨_, rfl⟩
  | atPos => exact ⟨_, rfl⟩
  | atComplete => exact ⟨_, rfl⟩
  | due => exact ⟨_, rfl⟩
  | lineStartCheck => exact ⟨_, rfl⟩
  | duePositionReached => exact ⟨_, rfl⟩
  | time => exact ⟨_, rfl⟩
  | plotEnable => exact ⟨_, rfl⟩
  | imageLoad => exact ⟨_, rfl⟩
  | stoppingDone => exact ⟨_, rfl⟩
  | plotMapWrite => exact ⟨_, rfl⟩
  | membershipChange => exact ⟨_, rfl⟩
  | commandFire => exact ⟨_, rfl⟩
  | commandCommit => exact ⟨_, rfl⟩
  | tokenLand => exact ⟨_, rfl⟩
  | creditLand => exact ⟨_, rfl⟩
  | wicketAlloc => exact ⟨_, rfl⟩
  | wsig => exact ⟨_, rfl⟩
  | wicketSignal => exact ⟨_, rfl⟩
  | wwait => exact ⟨_, rfl⟩
  | wwaitRelease => exact ⟨_, rfl⟩
  | waitTimeout => exact ⟨_, rfl⟩
  | barrier => exact ⟨_, rfl⟩
  | barrierRelease => exact ⟨_, rfl⟩
  | tdesc => exact ⟨_, rfl⟩
  | sdesc => exact ⟨_, rfl⟩
  | kdesc => exact ⟨_, rfl⟩
  | conv => exact ⟨_, rfl⟩
  | dwconv => exact ⟨_, rfl⟩
  | gemm => exact ⟨_, rfl⟩
  | pool => exact ⟨_, rfl⟩
  | resamp => exact ⟨_, rfl⟩
  | elt => exact ⟨_, rfl⟩
  | act => exact ⟨_, rfl⟩
  | norm => exact ⟨_, rfl⟩
  | smax => exact ⟨_, rfl⟩
  | reduce => exact ⟨_, rfl⟩
  | quant => exact ⟨_, rfl⟩
  | rng => exact ⟨_, rfl⟩
  | stat => exact ⟨_, rfl⟩
  | digest => exact ⟨_, rfl⟩
  | flow => exact ⟨_, rfl⟩
  | disp => exact ⟨_, rfl⟩
  | warp => exact ⟨_, rfl⟩
  | belRequestAccept => exact ⟨_, rfl⟩
  | belRequestStart => exact ⟨_, rfl⟩
  | belRequestComplete => exact ⟨_, rfl⟩
  | load => exact ⟨_, rfl⟩
  | store => exact ⟨_, rfl⟩
  | send => exact ⟨_, rfl⟩
  | recv => exact ⟨_, rfl⟩
  | halo => exact ⟨_, rfl⟩
  | atom => exact ⟨_, rfl⟩
  | loop => exact ⟨_, rfl⟩
  | endloop => exact ⟨_, rfl⟩
  | drainPoint => exact ⟨_, rfl⟩
  | br => exact ⟨_, rfl⟩
  | commit => exact ⟨_, rfl⟩
  | fence => exact ⟨_, rfl⟩
  | fenceDone => exact ⟨_, rfl⟩
  | halt => exact ⟨_, rfl⟩
  | nop => exact ⟨_, rfl⟩
  | ctxAlloc => exact ⟨_, rfl⟩
  | ctxTear => exact ⟨_, rfl⟩
  | teardownDrainDone => exact ⟨_, rfl⟩
  | drainTimeout => exact ⟨_, rfl⟩
  | slotBind => exact ⟨_, rfl⟩
  | slotUnbind => exact ⟨_, rfl⟩
  | reimage => exact ⟨_, rfl⟩
  | reimageSwitch => exact ⟨_, rfl⟩
  | resumeArm => exact ⟨_, rfl⟩
  | seedWrite => exact ⟨_, rfl⟩
  | periodStart => exact ⟨_, rfl⟩
  | quantumExpiry => exact ⟨_, rfl⟩
  | preemptRequest => exact ⟨_, rfl⟩
  | preemptGraceExpiry => exact ⟨_, rfl⟩
  | switchOut => exact ⟨_, rfl⟩
  | switchIn => exact ⟨_, rfl⟩
  | batchGroupEnable => exact ⟨_, rfl⟩
  | join => exact ⟨_, rfl⟩
  | leave => exact ⟨_, rfl⟩
  | laneMapAck => exact ⟨_, rfl⟩
  | streamEnable => exact ⟨_, rfl⟩
  | inputPost => exact ⟨_, rfl⟩
  | headlessSignal => exact ⟨_, rfl⟩
  | bandLatch => exact ⟨_, rfl⟩
  | aliasRead => exact ⟨_, rfl⟩
  | bandDue => exact ⟨_, rfl⟩
  | holdPromote => exact ⟨_, rfl⟩
  | headEnable => exact ⟨_, rfl⟩
  | headCommit => exact ⟨_, rfl⟩
  | commitTake => exact ⟨_, rfl⟩
  | headFrameStart => exact ⟨_, rfl⟩
  | hpdLoss => exact ⟨_, rfl⟩
  | hpdReturn => exact ⟨_, rfl⟩
  | dpTrainRetry => exact ⟨_, rfl⟩
  | underrun => exact ⟨_, rfl⟩
  | critHoldEnd => exact ⟨_, rfl⟩
  | regionRowDone => exact ⟨_, rfl⟩
  | regionSent => exact ⟨_, rfl⟩
  | stageSlotReuse => exact ⟨_, rfl⟩
  | keepaliveTimer => exact ⟨_, rfl⟩
  | pinCheck => exact ⟨_, rfl⟩
  | arrive => exact ⟨_, rfl⟩
  | release => exact ⟨_, rfl⟩
  | syncInEdge => exact ⟨_, rfl⟩
  | gbarRelease => exact ⟨_, rfl⟩
  | linkEnable => exact ⟨_, rfl⟩
  | linkTrainingDone => exact ⟨_, rfl⟩
  | linkTrainRetry => exact ⟨_, rfl⟩
  | helloTimer => exact ⟨_, rfl⟩
  | hello => exact ⟨_, rfl⟩
  | ackNak => exact ⟨_, rfl⟩
  | lstate => exact ⟨_, rfl⟩
  | frameCheckFail => exact ⟨_, rfl⟩
  | linkSilenceTimeout => exact ⟨_, rfl⟩
  | laneFail => exact ⟨_, rfl⟩
  | laneSwap => exact ⟨_, rfl⟩
  | haloReq => exact ⟨_, rfl⟩
  | haloAnswer => exact ⟨_, rfl⟩
  | haloBusyRetry => exact ⟨_, rfl⟩
  | haloData => exact ⟨_, rfl⟩
  | haloAck => exact ⟨_, rfl⟩
  | wsigFrame => exact ⟨_, rfl⟩
  | waitReq => exact ⟨_, rfl⟩
  | waitDone => exact ⟨_, rfl⟩
  | waitCancel => exact ⟨_, rfl⟩
  | fenceFrame => exact ⟨_, rfl⟩
  | fenceAck => exact ⟨_, rfl⟩
  | tsyncTimer => exact ⟨_, rfl⟩
  | tsync => exact ⟨_, rfl⟩
  | groupCfgApply => exact ⟨_, rfl⟩
  | cutOffTimer => exact ⟨_, rfl⟩
  | rejoin => exact ⟨_, rfl⟩
  | autoRejoinTimer => exact ⟨_, rfl⟩
  | rejoinReq => exact ⟨_, rfl⟩
  | rejoinGrant => exact ⟨_, rfl⟩
  | rejoinLapse => exact ⟨_, rfl⟩
  | rejoinFrame => exact ⟨_, rfl⟩
  | formation => exact ⟨_, rfl⟩
  | hang => exact ⟨_, rfl⟩
  | plotStall => exact ⟨_, rfl⟩
  | suspectReplay => exact ⟨_, rfl⟩
  | replayWatchdog => exact ⟨_, rfl⟩
  | engineReset => exact ⟨_, rfl⟩
  | headReset => exact ⟨_, rfl⟩
  | partitionReset => exact ⟨_, rfl⟩
  | chipWarmReset => exact ⟨_, rfl⟩
  | levelTimeout => exact ⟨_, rfl⟩
  | pavilionRetire => exact ⟨_, rfl⟩
  | spareMapChange => exact ⟨_, rfl⟩
  | keeperHeartbeatMiss => exact ⟨_, rfl⟩
  | schedHeartbeatMiss => exact ⟨_, rfl⟩
  | keepersSilent => exact ⟨_, rfl⟩
  | fwGo => exact ⟨_, rfl⟩
  | fwHandoverFrame => exact ⟨_, rfl⟩
  | dumpReq => exact ⟨_, rfl⟩
  | dumpReadTimeout => exact ⟨_, rfl⟩
  | dumpDone => exact ⟨_, rfl⟩
  | powerLoss => exact absurd h (by simp [Instr.isReset])
  | supplyDetector => exact absurd h (by simp [Instr.isReset])
  | porstRelease => exact absurd h (by simp [Instr.isReset])
  | coldReset => exact absurd h (by simp [Instr.isReset])
  | pushWrite => exact ⟨_, rfl⟩
  | hartRelease => exact ⟨_, rfl⟩
  | quote => exact ⟨_, rfl⟩
  | identity => exact ⟨_, rfl⟩
  | extend => exact ⟨_, rfl⟩
  | modelKey => exact ⟨_, rfl⟩
  | decrypt => exact ⟨_, rfl⟩
  | decryptDone => exact ⟨_, rfl⟩
  | unsealCtx => exact ⟨_, rfl⟩
  | lcAdvance => exact ⟨_, rfl⟩
  | debugChallenge => exact ⟨_, rfl⟩
  | debugUnlock => exact ⟨_, rfl⟩
  | rollbackAdvance => exact ⟨_, rfl⟩
  | verify => exact ⟨_, rfl⟩
  | copy => exact ⟨_, rfl⟩
  | dmaEnable => exact ⟨_, rfl⟩
  | dmaTailWrite => exact ⟨_, rfl⟩
  | dmaDescriptor => exact ⟨_, rfl⟩
  | dmaDescDone => exact ⟨_, rfl⟩
  | hostLinkDown => exact ⟨_, rfl⟩
  | perst => exact ⟨_, rfl⟩
  | flr => exact ⟨_, rfl⟩
  | spoutAddrWrite => exact ⟨_, rfl⟩
  | spoutDataWrite => exact ⟨_, rfl⟩
  | spoutRead => exact ⟨_, rfl⟩
  | spoutDoorbell => exact ⟨_, rfl⟩
  | doorbellDone => exact ⟨_, rfl⟩
  | msixUnmask => exact ⟨_, rfl⟩
  | devid => exact ⟨_, rfl⟩
  | heartbeat => exact ⟨_, rfl⟩
  | status => exact ⟨_, rfl⟩
  | power => exact ⟨_, rfl⟩
  | alarmMap => exact ⟨_, rfl⟩
  | alarmSel => exact ⟨_, rfl⟩
  | alarmEntry => exact ⟨_, rfl⟩
  | recovery => exact ⟨_, rfl⟩
  | alertResponse => exact ⟨_, rfl⟩
  | portEnable => exact ⟨_, rfl⟩
  | portLinkLoss => exact ⟨_, rfl⟩
  | bypHoldTimer => exact ⟨_, rfl⟩
  | frameIngress => exact ⟨_, rfl⟩
  | guardTimer => exact ⟨_, rfl⟩
  | guardReturnTimeout => exact ⟨_, rfl⟩
  | ringClosed => exact ⟨_, rfl⟩
  | flush => exact ⟨_, rfl⟩
  | ptpEnable => exact ⟨_, rfl⟩
  | ptpMessageTimer => exact ⟨_, rfl⟩
  | ptpEventRx => exact ⟨_, rfl⟩
  | sampleSetLatch => exact ⟨_, rfl⟩
  | announceRx => exact ⟨_, rfl⟩
  | announceTimeout => exact ⟨_, rfl⟩
  | rxEnable => exact ⟨_, rfl⟩
  | rxPacket => exact ⟨_, rfl⟩
  | txEnable => exact ⟨_, rfl⟩
  | txFrameStart => exact ⟨_, rfl⟩
  | sndLate => exact ⟨_, rfl⟩
  | cpuTx => exact ⟨_, rfl⟩
  | densityWrite => exact ⟨_, rfl⟩
  | trainingDone => exact ⟨_, rfl⟩
  | refreshSlot => exact ⟨_, rfl⟩
  | dramTempPoll => exact ⟨_, rfl⟩
  | resvWrite => exact ⟨_, rfl⟩
  | stagingEnable => exact ⟨_, rfl⟩
  | stagingCopyDone => exact ⟨_, rfl⟩
  | fillGo => exact ⟨_, rfl⟩
  | fillDone => exact ⟨_, rfl⟩
  | powerDomainEnable => exact ⟨_, rfl⟩
  | tempSensorRead => exact ⟨_, rfl⟩
  | emergThrottleStart => exact ⟨_, rfl⟩
  | emergThrottleEnd => exact ⟨_, rfl⟩
  | alarmUser => exact ⟨_, rfl⟩
  | stickyClear => exact ⟨_, rfl⟩
  | logPut => exact ⟨_, rfl⟩
  | logRidxWrite => exact ⟨_, rfl⟩
  | traceLevelWrite => exact ⟨_, rfl⟩
  | traceDecimation => exact ⟨_, rfl⟩
  | vlanEgressTimer => exact ⟨_, rfl⟩
  | belDomainEnable => exact ⟨_, rfl⟩
  | fillBelowCrit => exact ⟨_, rfl⟩
  | fetchLine => exact ⟨_, rfl⟩
  | pcieLinkTrained => exact ⟨_, rfl⟩
  | portLinkUp => exact ⟨_, rfl⟩
  | learnedEntryAgeOut => exact ⟨_, rfl⟩
  | ptpGeneralMessage => exact ⟨_, rfl⟩
  | bar4Write => exact ⟨_, rfl⟩
  | lowWordRead => exact ⟨_, rfl⟩
end Sys2Proof.Laws
end

