-- ==== Sys2Proof/Laws/Memory.lean ====
section
/-! SUPPORT. Laws of memory: a byte written reads back, every other byte reads as before, and every operation on memory keeps its
canonical form. -/
namespace Sys2Proof.Laws
open Sys2Proof Sys2Proof.Machine

/-- The cells of a run lie within it. -/
theorem cells_mem (a : Nat) (bs : List Byte) : ∀ p ∈ cells a bs, a ≤ p.1 ∧ p.1 < a + bs.length := by
  induction bs generalizing a with
  | nil => simp [cells]
  | cons b bs ih =>
    intro p hp
    unfold cells at hp
    split at hp
    · have := ih (a + 1) p hp; simp; omega
    · rcases List.mem_cons.mp hp with rfl | hp
      · simp
      · have := ih (a + 1) p hp; simp; omega
theorem cells_wf (a : Nat) (bs : List Byte) : Memory.wf (cells a bs) = true := by
  unfold Memory.wf
  induction bs generalizing a with
  | nil => rfl
  | cons b bs ih =>
    unfold cells
    split
    · exact ih (a + 1)
    · rename_i hb
      have h := (Tbl_wf_iff _ _).mp (ih (a + 1))
      rw [Tbl_wf_iff, List.pairwise_cons]
      refine ⟨⟨fun q hq => ?_, h.1⟩, fun p hp => ?_⟩
      · have := cells_mem (a + 1) bs q hq; omega
      · rcases List.mem_cons.mp hp with rfl | hp
        · exact hb
        · exact h.2 p hp
/-- What the cells of a run read as. -/
theorem cells_get (a : Nat) (bs : List Byte) (x : Nat) :
    Tbl.get Memory.blank (cells a bs) x = if a ≤ x then bs.getD (x - a) Memory.blank else Memory.blank := by
  induction bs generalizing a with
  | nil => simp [cells]
  | cons b bs ih =>
    unfold cells
    have e : ∀ y, a + 1 ≤ y → (b :: bs).getD (y - a) Memory.blank = bs.getD (y - (a + 1)) Memory.blank := by
      intro y hy
      obtain ⟨k, rfl⟩ := Nat.exists_eq_add_of_le hy
      rw [show a + 1 + k - a = k + 1 by omega, show a + 1 + k - (a + 1) = k by omega]; rfl
    by_cases hx : a = x
    · subst hx
      split
      · rename_i hb; rw [ih, if_neg (by omega)]; simp [hb]
      · simp [Tbl_get_cons]
    · have h1 : Tbl.get Memory.blank (cells (a + 1) bs) x
          = if a ≤ x then (b :: bs).getD (x - a) Memory.blank else Memory.blank := by
        rw [ih]
        by_cases h : a + 1 ≤ x
        · rw [if_pos h, if_pos (by omega), e x h]
        · rw [if_neg h, if_neg (by omega)]
      split
      · exact h1
      · rw [Tbl_get_cons, if_neg hx, h1]

/-- A write of a run keeps the canonical form. -/
theorem writeRun_wf (m : Tbl Byte) (a : Nat) (bs : List Byte) (h : Memory.wf m = true) : Memory.wf (writeRun m a bs) = true := by
  unfold Memory.wf at *
  refine Tbl_join_wf _ a (a + bs.length) _ _ _ (Tbl_filter_wf _ _ _ h) (cells_wf a bs) (Tbl_filter_wf _ _ _ h) ?_
    (cells_mem a bs) ?_ (by omega)
  · intro p hp; simpa using (List.mem_filter.mp hp).2
  · intro p hp; simpa using (List.mem_filter.mp hp).2
/-- A wipe keeps the canonical form. -/
theorem wipeRun_wf (m : Tbl Byte) (a n : Nat) (h : Memory.wf m = true) : Memory.wf (wipeRun m a n) = true :=
  Tbl_filter_wf _ _ _ h
/-- Read after write: the bytes written within the run, and every other byte as before. -/
theorem writeRun_get (m : Tbl Byte) (a : Nat) (bs : List Byte) (x : Nat) :
    Tbl.get Memory.blank (writeRun m a bs) x
      = if a ≤ x ∧ x < a + bs.length then bs.getD (x - a) Memory.blank else Tbl.get Memory.blank m x := by
  unfold writeRun
  by_cases h1 : x < a
  · rw [if_neg (by omega), Tbl_get_append_left, Tbl_get_append_left]
    · exact Tbl_get_filter _ (fun k => decide (k < a)) m x (by simpa using h1)
    · intro p hp; have := cells_mem a bs p hp; omega
    · intro p hp; have := (List.mem_filter.mp hp).2; simp at this; omega
  · by_cases h2 : x < a + bs.length
    · rw [if_pos (by omega), Tbl_get_append_left, Tbl_get_append_right, cells_get, if_pos (by omega)]
      · intro p hp; have := (List.mem_filter.mp hp).2; simp at this; omega
      · intro p hp; have := (List.mem_filter.mp hp).2; simp at this; omega
    · rw [if_neg (by omega), List.append_assoc, Tbl_get_append_right, Tbl_get_append_right]
      · exact Tbl_get_filter _ (fun k => decide (a + bs.length ≤ k)) m x (by simp; omega)
      · intro p hp; have := cells_mem a bs p hp; omega
      · intro p hp; have := (List.mem_filter.mp hp).2; simp at this; omega
/-- A wipe leaves zero within its range, and every other byte as before. -/
theorem wipeRun_get (m : Tbl Byte) (a n x : Nat) :
    Tbl.get Memory.blank (wipeRun m a n) x = if a ≤ x ∧ x < a + n then Memory.blank else Tbl.get Memory.blank m x := by
  unfold wipeRun
  by_cases h : a ≤ x ∧ x < a + n
  · rw [if_pos h]
    exact Tbl_get_filter_out _ (fun k => decide (k < a ∨ a + n ≤ k)) m x (by simp; omega)
  · rw [if_neg h]
    exact Tbl_get_filter _ (fun k => decide (k < a ∨ a + n ≤ k)) m x (by simp; omega)
/-- A run read from a table whose keys are at or above its start. -/
theorem spread_get (n a : Nat) (t : Tbl Byte) (h : t.sorted = true) (ha : ∀ p ∈ t, a ≤ p.1) :
    spread a n t = (List.range n).map (fun i => Tbl.get Memory.blank t (a + i)) := by
  induction n generalizing a t with
  | zero => simp [spread]
  | succ n ih =>
    have step : ∀ u : Tbl Byte, u.sorted = true → (∀ p ∈ u, a + 1 ≤ p.1) →
        spread (a + 1) n u = (List.range n).map (fun i => Tbl.get Memory.blank u (a + (i + 1))) := by
      intro u hu hu'
      rw [ih (a + 1) u hu hu']
      exact List.map_congr_left (fun i _ => by rw [show a + 1 + i = a + (i + 1) by omega])
    rw [List.range_succ_eq_map, List.map_cons, List.map_map]
    cases t with
    | nil => simp only [spread]; rw [step [] rfl (by simp)]; rfl
    | cons p t =>
      have hs := (Tbl_sorted_iff _).mp h
      rw [List.pairwise_cons] at hs
      have ht : Tbl.sorted t = true := (Tbl_sorted_iff _).mpr hs.2
      have hp := ha p (by simp)
      simp only [spread]
      by_cases hk : p.1 = a
      · rw [if_pos hk, step t ht (fun q hq => by have := hs.1 q hq; omega)]
        congr 1
        · simp [Tbl_get_cons, hk]
        · refine List.map_congr_left (fun i _ => ?_)
          simp only [Function.comp, Nat.succ_eq_add_one]
          rw [Tbl_get_cons, if_neg (by omega)]
      · rw [if_neg hk, step (p :: t) h (fun q hq => by
          rcases List.mem_cons.mp hq with rfl | hq
          · omega
          · have := hs.1 q hq; omega)]
        congr 1
        rw [Nat.add_zero, Tbl_get_cons, if_neg hk]
        symm
        have := Tbl_get_append_right Memory.blank t [] a (fun q hq => by have := hs.1 q hq; omega)
        simpa using this
/-- Reading a run is reading each of its bytes. -/
theorem readRun_eq (m : Tbl Byte) (a n : Nat) (h : m.sorted = true) :
    readRun m a n = (List.range n).map (fun i => Tbl.get Memory.blank m (a + i)) := by
  unfold readRun
  rw [spread_get n a _ ((Tbl_sorted_iff _).mpr (((Tbl_sorted_iff _).mp h).filter _)) (by
    intro p hp; simpa using (List.mem_filter.mp hp).2)]
  exact List.map_congr_left (fun i _ => Tbl_get_filter _ (fun k => decide (a ≤ k)) m (a + i) (by simp))

/-! Every operation on the machine's memory keeps its canonical form. -/
theorem putBytes_wf (s : State) (a : Nat) (bs : List Byte) (h : Memory.wf s.mem = true) :
    Memory.wf (s.putBytes a bs).mem = true := writeRun_wf s.mem a bs h
theorem wipeStore_wf (s : State) (b : Nat) (h : Memory.wf s.mem = true) : Memory.wf (s.wipeStore b).mem = true :=
  wipeRun_wf s.mem _ _ h
theorem wipeLpddr_wf (s : State) (h : Memory.wf s.mem = true) : Memory.wf s.wipeLpddr.mem = true := Tbl_filter_wf _ _ _ h
theorem warmSram_wf (s : State) (h : Memory.wf s.mem = true) : Memory.wf s.warmSram.mem = true := Tbl_filter_wf _ _ _ h
end Sys2Proof.Laws
end

