-- ==== Sys2Proof/Machine/Pins.lean ====
section
/-! DEFINITION. The level of each kind of ball as the state fixes it (R367, R368, R379, R463). -/
namespace Sys2Proof.Machine
open Sys2Proof
/-- The rows of Table 20.4; MODn_RST_N and MODn_LPMODE are `modControl`, the other module balls `modOther`. -/
inductive Ball
  | bypHold (n : Fin 4)
  | trayAlert
  | trayFault
  | pwrReq
  | smb
  | perstHpd
  | modControl
  | modOther
  | spiCs
  | flashRst
  | spiOther
  | syncOut
  | tdo
  | ddrReset
  | ddrOther
  | serdes
  deriving DecidableEq, Repr
/-- What a ball does: driven low or high, released (pulled high outside), high impedance, an input, pulled up or down inside, electrical
idle, or driven by its block's function. -/
inductive Level
  | low
  | high
  | released
  | highZ
  | input
  | pullUp
  | pullDown
  | idle
  | driven
  deriving DecidableEq, Repr
/-- The column "PORST_N low" of Table 20.4, which the detector of R461 shares. -/
def Ball.inReset : Ball → Level
  | .bypHold _ | .modControl | .flashRst | .syncOut | .ddrReset => .low
  | .trayAlert | .trayFault | .pwrReq => .released
  | .smb | .modOther | .tdo | .ddrOther => .highZ
  | .perstHpd => .input
  | .spiCs => .pullUp
  | .spiOther => .pullDown
  | .serdes => .idle
namespace State
/-- An open-drain output: driven low while `b`. -/
def openDrain (b : Bool) : Level := if b then .low else .released
/-- The level of a ball: its column of Table 20.4 while the device is held in reset; after that as R367, R368, R379 and the boot column
say, and by its block's function once the block drives it. SYNC_OUT is low outside its pulses (R262). [log entry 294 DEDUCED] -/
def ball (s : State) (b : Ball) : Level :=
  if s.gth.held then b.inReset
  else match b with
    | .bypHold n => if s.on ETH_PORT_CFG_BYP n then .high else .low
    | .trayAlert => openDrain (s.gzb.unread.any (fun x => x.2))
    | .trayFault => openDrain s.tray.faultLow
    | .pwrReq => openDrain s.tray.pwrReqLow
    | .flashRst => .high
    | .syncOut => .low
    | .perstHpd => .input
    | .ddrReset => if s.trained then .driven else .low
    | .modControl => if s.gth.phase = 4 then .driven else .low
    | .modOther => if s.gth.phase = 4 then .driven else .highZ
    | .tdo => .highZ
    | .serdes => if s.gth.phase = 4 then .driven else .idle
    | _ => .driven
end State
end Sys2Proof.Machine
end

