-- ==== Sys2Proof/Laws/Pins.lean ====
section
/-! SUPPORT. The levels of the balls by the columns of Table 20.4 (R463). -/
namespace Sys2Proof.Laws
open Sys2Proof Sys2Proof.Machine
variable {s : State}

/-- While the device is held in reset every ball is in its column. -/
theorem ball_held (h : s.gth.held = true) (b : Ball) : s.ball b = b.inReset := by simp [State.ball, h]
/-- TRAY_ALERT_N is low while any unread bit is set, and only then (R367). -/
theorem ball_trayAlert (h : s.gth.held = false) : s.ball .trayAlert = .low ↔ s.gzb.unread.any (fun x => x.2) = true := by
  cases hu : s.gzb.unread.any (fun x => x.2) <;> simp [State.ball, State.openDrain, h, hu]
/-- BYP_HOLD[n] follows its status bit (R379). -/
theorem ball_bypHold (h : s.gth.held = false) (n : Fin 4) : s.ball (.bypHold n) = .high ↔ s.on ETH_PORT_CFG_BYP n = true := by
  cases hb : s.on ETH_PORT_CFG_BYP n <;> simp [State.ball, h, hb]
end Sys2Proof.Laws
end

