-- ==== Sys2Proof/Laws/RegAccess.lean ====
section
/-! SUPPORT. What a register access of core 0, and one that a core is denied, comes to: the routing of `State.regWrite` and
`State.regRead` said once. -/
namespace Sys2Proof.Laws
open Sys2Proof Sys2Proof.Machine
/-- A write of core 0 outside the pages of PCIe and the Gatehouse reaches the register at the offset. -/
theorem core0_regWrite (s : State) (o v : Nat) (wide : Bool) (h1 : o < 0x1100000) (h2 : o / 0x100000 ≠ 13) (h3 : o / 0x100000 ≠ 10) :
    s.regWrite (.core 0) o v wide = match findReg o with | none => s | some q => s.writeReg (.core 0) o v wide q := by
  have a1 : ¬ (17 ≤ o / 0x100000) := by omega
  have a2 : ¬ (0xA08000 ≤ o ∧ o < 0xA0C000) := by omega
  have a3 : ¬ (0xD10000 ≤ o ∧ o < 0xD20000) := by omega
  have a4 : ¬ (0xD01000 ≤ o ∧ o < 0xD02000) := by omega
  have a5 : ¬ (0xD02000 ≤ o ∧ o < 0xD03000) := by omega
  generalize hf : findReg o = f
  unfold State.regWrite
  simp only [State.reqReaches, State.msixAt, State.reqOff, State.taken, State.mayWrite, State.inPush, State.inBuf, State.mboxAt,
    reqKeeper, hf]
  simp [a1, a2, h2, a4, a5]
  first
    | (rw [if_neg a3]; cases f <;> rfl)
    | exact fun b1 b2 => absurd ⟨b1, b2⟩ a3
/-- A read of core 0 outside the pages of PCIe, the Gatehouse and Ethernet reads the register at the offset, or 0. -/
theorem core0_regRead (s : State) (o : Nat) (wide : Bool) (h2 : o / 0x100000 ≠ 13) (h3 : o / 0x100000 ≠ 10) (h4 : o / 0x100000 ≠ 9) :
    s.regRead (.core 0) o wide = match findReg o with | none => s.emit (.read 0) | some q => s.readReg (.core 0) o wide q := by
  have a2 : ¬ (0xA08000 ≤ o ∧ o < 0xA0C000) := by omega
  have a3 : ¬ (0xA0C000 ≤ o ∧ o < 0xA0C080) := by omega
  have a4 : ¬ (0xD01000 ≤ o ∧ o < 0xD02000) := by omega
  have a5 : ¬ (0xD02000 ≤ o ∧ o < 0xD03000) := by omega
  have a7 : ¬ (0x902100 ≤ o ∧ o < 0x902500 ∧ 0x40 ≤ o % 0x100 ∧ o % 0x100 < 0x80) := by omega
  generalize hf : findReg o = f
  unfold State.regRead
  simp only [State.reqReaches, State.msixAt, State.pbaAt, State.reqOff, State.taken, State.inBuf, State.mboxAt, State.sampleAt, hf]
  simp [a2, a3, a4, a5, a7]
  cases f <;> rfl
/-- A write of a core that ORG_ACL keeps from a page is counted and changes nothing else. -/
theorem core_denied (s : State) (n : Fin 16) (o v : Nat) (wide : Bool) (h0 : 2 ≤ n.val) (h1 : o < 0x1100000) (h2 : o / 0x100000 ≠ 13)
    (h3 : o / 0x100000 ≠ 10) (hb : bit (s.fld ORG_ACL_WEN) (o / 0x100000) = false) :
    s.regWrite (.core n) o v wide = s.bump 0x0D0E (o / 0x100000) := by
  have a1 : ¬ (17 ≤ o / 0x100000) := by omega
  have a2 : ¬ (0xA08000 ≤ o ∧ o < 0xA0C000) := by omega
  have a6 : ¬ (n.val < 2) := by omega
  generalize hf : findReg o = f
  unfold State.regWrite
  simp only [State.reqReaches, State.msixAt, State.reqOff, State.taken, State.mayWrite, hf]
  simp [a1, a2, h2, a6, hb, State.denied]
end Sys2Proof.Laws
end

