-- ==== Sys2Proof/Laws/Region.lean ====
section
/-! SUPPORT. Where device addresses lie, and what a read or a write does by the region of its address. -/
namespace Sys2Proof.Laws
open Sys2Proof Sys2Proof.Machine
section
variable (s : State)
theorem usable_le : s.usable ≤ 0x1000000000 := by unfold State.usable State.fitted; split <;> omega
/-- An offset of a stream's window is in that window. -/
theorem regionOf_alias (u o : Nat) (i : Fin 16) (hu : u ≤ 0x1000000000) (h : o < 2 ^ 32) :
    regionOf u (aliasBase + i * 2 ^ 32 + o) = .window i o := by
  have hb : aliasBase = 0x1000000000 := rfl
  have hi := i.isLt
  generalize ha : aliasBase + i * 2 ^ 32 + o = a
  have h1 : ¬ a < u := by omega
  have h2 : ¬ a < 64 * 2 ^ 30 := by omega
  have h3 : aliasBase ≤ a ∧ a < aliasBase + 16 * 2 ^ 32 := by omega
  have h4 : (a - aliasBase) / 2 ^ 32 = i := by omega
  have h5 : (a - aliasBase) % 2 ^ 32 = o := by omega
  simp only [regionOf, h1, h2, h3, h4, h5, if_false, if_true, and_self]
theorem region_alias (i : Fin 16) (o : Nat) (h : o < 2 ^ 32) : s.region (aliasBase + i * 2 ^ 32 + o) = .window i o :=
  regionOf_alias _ _ _ (usable_le s) h
/-- An address below the usable capacity is in LPDDR. -/
theorem region_lpddr (a : Nat) (h : a < s.usable) : s.region a = .lpddr a := by simp only [State.region, regionOf, h, if_true]
theorem devRead_of (who : Asker) (c : Option Nat) (a n : Nat) (r : Region) (h : s.region a = r) :
    s.devRead who c a n = s.devReadAt who c a n r := by unfold State.devRead; rw [h]
theorem devWait_of (who : Asker) (a : Nat) (r : Region) (h : s.region a = r) : s.devWait who a = s.devWaitAt who r := by
  unfold State.devWait; rw [h]
theorem devWrite_of (a : Nat) (bs : List Byte) (r : Region) (h : s.region a = r) : s.devWrite a bs = s.devWriteAt a bs r := by
  unfold State.devWrite; rw [h]
theorem bar4_of (off : Nat) (bs : List Byte) (r : Region) (h : s.region (s.fld PCI_BAR4_OFS_OFS * 2 ^ 28 + off) = r) :
    s.bar4Write off bs = s.bar4At (s.fld PCI_BAR4_OFS_OFS * 2 ^ 28 + off) bs r := by unfold State.bar4Write; rw [h]
end
end Sys2Proof.Laws
end

