-- ==== Sys2Proof/Laws/Switch.lean ====
section
/-! SUPPORT. EN, STATE and PENDING_ON of a function are three places: writing one leaves the other two. -/
namespace Sys2Proof.Laws
open Sys2Proof Sys2Proof.Machine
/-- Two fields at one instance that share no bit. -/
def Apart (f g : Fld) (i : Nat) : Prop :=
  (g.reg = f.reg ∧ f.lo + f.w ≤ 64 ∧ (g.lo + g.w ≤ f.lo ∨ f.lo + f.w ≤ g.lo)) ∨ g.reg.addr i 0 ≠ f.reg.addr i 0
theorem fld_apart (s : State) (f g : Fld) (v i : Nat) (h : Apart f g i) : (s.setFld f v i).fld g i = s.fld g i :=
  h.elim (fun h => fld_setFld_same s f g v i 0 h.1 h.2.1 h.2.2) (fun h => fld_setFld_ne s f g v i 0 i 0 h)
theorem plt_addr (p : Nat) : Reg.addr .PLT_STAT p 0 ≠ Reg.addr .PLT_CTRL p 0 := by
  simp [Reg.addr, Reg.desc]
/-- The three places of every function are apart. -/
theorem fn_apart (f : FnId) :
    Apart (fnFlds f).1 (fnFlds f).2.1 (fnFlds f).2.2.2 ∧ Apart (fnFlds f).2.1 (fnFlds f).1 (fnFlds f).2.2.2 ∧
    Apart (fnFlds f).1 (fnFlds f).2.2.1 (fnFlds f).2.2.2 ∧ Apart (fnFlds f).2.2.1 (fnFlds f).1 (fnFlds f).2.2.2 ∧
    Apart (fnFlds f).2.1 (fnFlds f).2.2.1 (fnFlds f).2.2.2 ∧ Apart (fnFlds f).2.2.1 (fnFlds f).2.1 (fnFlds f).2.2.2 := by
  cases f with
  | plot p => exact ⟨.inr (plt_addr p), .inr (plt_addr p).symm, .inr (plt_addr p), .inr (plt_addr p).symm, .inl ⟨rfl, by simp only [fnFlds]; decide, by simp only [fnFlds]; decide⟩,
      .inl ⟨rfl, by simp only [fnFlds]; decide, by simp only [fnFlds]; decide⟩⟩
  | _ => refine ⟨.inl ⟨rfl, ?_, ?_⟩, .inl ⟨rfl, ?_, ?_⟩, .inl ⟨rfl, ?_, ?_⟩, .inl ⟨rfl, ?_, ?_⟩, .inl ⟨rfl, ?_, ?_⟩, .inl ⟨rfl, ?_, ?_⟩⟩ <;>
      simp only [fnFlds] <;> decide
theorem fn_width (f : FnId) : (fnFlds f).1.w = 1 ∧ (fnFlds f).2.2.1.w = 1 ∧ (fnFlds f).2.1.w = 2 ∧ (fnFlds f).1.lo + 1 ≤ 64 ∧
    (fnFlds f).2.2.1.lo + 1 ≤ 64 ∧ (fnFlds f).2.1.lo + 2 ≤ 64 := by
  cases f <;> simp only [fnFlds] <;> decide
section
variable (s : State) (f : FnId) (b : Bool) (v : Nat)
@[simp] theorem setFnEn_fnState : (s.setFnEn f b).fnState f = s.fnState f := fld_apart s _ _ _ _ (fn_apart f).1
@[simp] theorem setFnState_fnEn : (s.setFnState f v).fnEn f = s.fnEn f := congrArg (· == 1) (fld_apart s _ _ _ _ (fn_apart f).2.1)
@[simp] theorem setFnEn_fnPending : (s.setFnEn f b).fnPending f = s.fnPending f :=
  congrArg (· == 1) (fld_apart s _ _ _ _ (fn_apart f).2.2.1)
@[simp] theorem setFnPending_fnEn : (s.setFnPending f b).fnEn f = s.fnEn f :=
  congrArg (· == 1) (fld_apart s _ _ _ _ (fn_apart f).2.2.2.1)
@[simp] theorem setFnState_fnPending : (s.setFnState f v).fnPending f = s.fnPending f :=
  congrArg (· == 1) (fld_apart s _ _ _ _ (fn_apart f).2.2.2.2.1)
@[simp] theorem setFnPending_fnState : (s.setFnPending f b).fnState f = s.fnState f := fld_apart s _ _ _ _ (fn_apart f).2.2.2.2.2
@[simp] theorem setFnState_fnState : (s.setFnState f v).fnState f = v % 4 := by
  have h := fn_width f
  unfold State.setFnState State.fnState
  rw [fld_setFld_self _ _ _ _ _ (by omega), h.2.2.1, show 2 ^ 2 = 4 from rfl]
@[simp] theorem setFnEn_fnEn : (s.setFnEn f b).fnEn f = b := by
  have h := fn_width f
  unfold State.setFnEn State.fnEn State.on
  rw [fld_setFld_self _ _ _ _ _ (by omega), h.1]
  cases b <;> rfl
@[simp] theorem setFnPending_fnPending : (s.setFnPending f b).fnPending f = b := by
  have h := fn_width f
  unfold State.setFnPending State.fnPending State.on
  rw [fld_setFld_self _ _ _ _ _ (by omega), h.2.1]
  cases b <;> rfl
end
end Sys2Proof.Laws
end

