-- ==== Sys2Proof/WellFormed.lean ====
section
/-! DEFINITION. The forms that the spec gives each command, where the operands' types do not say it already. A command outside its
forms still has a meaning (it is refused or ignored as the spec says of the access or message that it stands for). -/
namespace Sys2Proof
/-- An engine's number: a physical pavilion, Belvedere's eight, the heads, the DMA channels (R317, R323). -/
def isEngine (e : Nat) : Bool := e < 156 || (256 ≤ e && e < 264) || (512 ≤ e && e < 516) || (768 ≤ e && e < 784)
/-- Whether a command has a form that the spec gives it: a 64-bit access lies at a multiple of 8
or at ETH_QOS (R9, R391); a data write carries 1 to
4096 bytes (R360); an engine number is one of LDG_RESET.TARGET, or 1024 + p for the controller of a plot in a hang; a descriptor
has 64 bytes (R356); a mailbox command's arguments have the sizes of Table 17.7; a recovery write carries 1 to 28 bytes (R425). -/
def Instr.wf : Instr → Bool
  | .regWrite _ off wide _ => !wide || off.toNat % 2 == 0 || off.toNat == 0x240001
  | .readClear _ off wide => !wide || off.toNat % 2 == 0 || off.toNat == 0x240001
  | .tbStepWrite _ _ => true
  | .tbLoad _ => true
  | .tbOvr _ => true
  | .tbIncWrite _ _ => true
  | .tbPhaseApply _ => true
  | .holdoverClear _ => true
  | .tbCapture _ => true
  | .pairForce => true
  | .pairPeriodic => true
  | .lcApply _ => true
  | .lcFrameStart _ => true
  | .genlockPulse => true
  | .genlockTimeout _ => true
  | .atPos _ => true
  | .atComplete _ => true
  | .due _ => true
  | .lineStartCheck _ _ => true
  | .duePositionReached _ => true
  | .time _ _ => true
  | .plotEnable _ _ => true
  | .imageLoad _ => true
  | .stoppingDone _ => true
  | .plotMapWrite _ _ => true
  | .membershipChange _ => true
  | .commandFire _ _ => true
  | .commandCommit _ => true
  | .tokenLand _ _ _ => true
  | .creditLand _ _ _ => true
  | .wicketAlloc _ _ _ => true
  | .wsig _ => true
  | .wicketSignal _ => true
  | .wwait _ => true
  | .wwaitRelease _ => true
  | .waitTimeout _ => true
  | .barrier _ => true
  | .barrierRelease _ => true
  | .tdesc _ => true
  | .sdesc _ => true
  | .kdesc _ => true
  | .conv _ _ => true
  | .dwconv _ _ => true
  | .gemm _ _ => true
  | .pool _ _ => true
  | .resamp _ _ => true
  | .elt _ _ => true
  | .act _ _ => true
  | .norm _ _ => true
  | .smax _ _ => true
  | .reduce _ _ => true
  | .quant _ _ => true
  | .rng _ _ => true
  | .stat _ _ => true
  | .digest _ _ => true
  | .flow _ => true
  | .disp _ => true
  | .warp _ => true
  | .belRequestAccept _ => true
  | .belRequestStart _ => true
  | .belRequestComplete _ => true
  | .load _ _ => true
  | .store _ _ => true
  | .send _ _ => true
  | .recv _ _ => true
  | .halo _ _ => true
  | .atom _ _ => true
  | .loop _ => true
  | .endloop _ => true
  | .drainPoint _ => true
  | .br _ => true
  | .commit _ => true
  | .fence _ => true
  | .fenceDone _ => true
  | .halt _ => true
  | .nop _ => true
  | .ctxAlloc _ => true
  | .ctxTear _ => true
  | .teardownDrainDone _ => true
  | .drainTimeout _ => true
  | .slotBind _ _ _ => true
  | .slotUnbind _ _ => true
  | .reimage _ _ => true
  | .reimageSwitch _ => true
  | .resumeArm _ _ => true
  | .seedWrite _ _ _ _ => true
  | .periodStart _ => true
  | .quantumExpiry _ => true
  | .preemptRequest _ => true
  | .preemptGraceExpiry _ => true
  | .switchOut _ => true
  | .switchIn _ => true
  | .batchGroupEnable _ _ => true
  | .join _ _ _ _ => true
  | .leave _ _ => true
  | .laneMapAck _ => true
  | .streamEnable _ _ => true
  | .inputPost _ _ => true
  | .headlessSignal _ => true
  | .bandLatch _ => true
  | .aliasRead _ _ n _ => decide (1 ≤ n.val)
  | .bandDue _ => true
  | .holdPromote _ => true
  | .headEnable _ _ => true
  | .headCommit _ => true
  | .commitTake _ => true
  | .headFrameStart _ => true
  | .hpdLoss _ _ => true
  | .hpdReturn _ => true
  | .dpTrainRetry _ _ => true
  | .underrun _ _ => true
  | .critHoldEnd => true
  | .regionRowDone _ => true
  | .regionSent _ => true
  | .stageSlotReuse _ => true
  | .keepaliveTimer _ => true
  | .pinCheck _ _ _ => true
  | .arrive _ _ => true
  | .release _ _ _ _ => true
  | .syncInEdge => true
  | .gbarRelease _ => true
  | .linkEnable _ _ => true
  | .linkTrainingDone _ _ _ _ _ _ => true
  | .linkTrainRetry _ => true
  | .helloTimer _ => true
  | .hello _ _ => true
  | .ackNak _ _ _ => true
  | .lstate _ _ _ => true
  | .frameCheckFail _ _ => true
  | .linkSilenceTimeout _ => true
  | .laneFail _ _ => true
  | .laneSwap _ => true
  | .haloReq _ _ _ _ _ _ _ _ => true
  | .haloAnswer => true
  | .haloBusyRetry _ _ => true
  | .haloData _ _ _ codes ents _ _ refused => !refused || (codes.isEmpty && ents.isEmpty)
  | .haloAck _ _ _ _ _ => true
  | .wsigFrame _ _ _ => true
  | .waitReq _ _ _ _ => true
  | .waitDone _ _ _ => true
  | .waitCancel _ _ _ => true
  | .fenceFrame _ _ _ => true
  | .fenceAck _ _ _ => true
  | .tsyncTimer => true
  | .tsync _ _ _ => true
  | .groupCfgApply => true
  | .cutOffTimer _ => true
  | .rejoin => true
  | .autoRejoinTimer => true
  | .rejoinReq _ _ _ => true
  | .rejoinGrant _ _ _ _ => true
  | .rejoinLapse => true
  | .rejoinFrame => true
  | .formation => true
  | .hang e => isEngine e.toNat
  | .plotStall _ => true
  | .suspectReplay e => isEngine e.toNat || decide (1024 ≤ e.toNat ∧ e.toNat < 1056)
  | .replayWatchdog e => isEngine e.toNat || decide (1024 ≤ e.toNat ∧ e.toNat < 1056)
  | .engineReset e _ => isEngine e.toNat
  | .headReset _ => true
  | .partitionReset _ _ => true
  | .chipWarmReset _ => true
  | .levelTimeout l => decide (1 ≤ l.val)
  | .pavilionRetire v => decide (v.toNat < 156)
  | .spareMapChange v => decide (v.toNat < 156)
  | .keeperHeartbeatMiss _ => true
  | .schedHeartbeatMiss => true
  | .keepersSilent => true
  | .fwGo _ _ => true
  | .fwHandoverFrame => true
  | .dumpReq => true
  | .dumpReadTimeout _ _ => true
  | .dumpDone _ => true
  | .powerLoss => true
  | .supplyDetector _ => true
  | .porstRelease _ _ _ _ => true
  | .coldReset => true
  | .pushWrite bs => decide (1 ≤ bs.length ∧ bs.length ≤ 4096)
  | .hartRelease h => decide (2 ≤ h.val)
  | .quote _ _ _ _ => true
  | .identity _ _ => true
  | .extend _ _ _ _ => true
  | .modelKey _ _ _ blob => blob.length == 157
  | .decrypt _ _ _ _ _ len _ aad _ => decide (len.toNat ≠ 0 ∧ len.toNat % 64 = 0 ∧ aad.length ≤ 64)
  | .decryptDone => true
  | .unsealCtx _ _ _ => true
  | .lcAdvance _ _ target token => decide (target.val ≤ 4) && (token.length == 48 || token.length == 193)
  | .debugChallenge _ _ => true
  | .debugUnlock _ _ _ sig => sig.length == 193
  | .rollbackAdvance _ _ level => decide (level.toNat ≤ 64)
  | .verify _ _ => true
  | .copy _ _ _ => true
  | .dmaEnable _ _ => true
  | .dmaTailWrite _ _ => true
  | .dmaDescriptor _ desc _ _ => desc.length == 64
  | .dmaDescDone _ => true
  | .hostLinkDown => true
  | .perst _ => true
  | .flr _ => true
  | .spoutAddrWrite _ _ => true
  | .spoutDataWrite _ _ off bs => decide (1 ≤ bs.length ∧ bs.length ≤ 4096 ∧ off.toNat + bs.length ≤ 0x3FF000)
  | .spoutRead _ _ off n => decide (1 ≤ n.val ∧ off.toNat + n.val ≤ 0x400000)
  | .spoutDoorbell _ _ _ _ => true
  | .doorbellDone _ => true
  | .msixUnmask f vec => match f with
    | .pf0 => true
    | .vf _ => decide (vec.toNat < 64)
  | .devid => true
  | .heartbeat => true
  | .status => true
  | .power => true
  | .alarmMap => true
  | .alarmSel _ _ => true
  | .alarmEntry => true
  | .recovery _ bs _ => decide (1 ≤ bs.length ∧ bs.length ≤ 28)
  | .alertResponse => true
  | .portEnable _ _ => true
  | .portLinkLoss _ => true
  | .bypHoldTimer _ => true
  | .frameIngress _ bs _ _ _ => decide (14 ≤ bs.length)
  | .guardTimer => true
  | .guardReturnTimeout => true
  | .ringClosed => true
  | .flush _ _ _ => true
  | .ptpEnable _ _ => true
  | .ptpMessageTimer _ => true
  | .ptpEventRx _ _ _ _ _ _ _ => true
  | .sampleSetLatch _ => true
  | .announceRx _ _ _ => true
  | .announceTimeout _ => true
  | .rxEnable _ _ => true
  | .rxPacket _ _ _ _ _ _ segs => decide (1 ≤ segs.length ∧ segs.length ≤ 3)
  | .txEnable _ _ => true
  | .txFrameStart _ => true
  | .sndLate _ => true
  | .cpuTx _ => true
  | .densityWrite _ => true
  | .trainingDone => true
  | .refreshSlot ce ue => ce.all (fun b => !ue.contains b)
  | .dramTempPoll _ => true
  | .resvWrite _ _ _ => true
  | .stagingEnable _ _ => true
  | .stagingCopyDone _ => true
  | .fillGo _ => true
  | .fillDone _ => true
  | .powerDomainEnable _ _ => true
  | .tempSensorRead _ _ _ => true
  | .emergThrottleStart _ => true
  | .emergThrottleEnd => true
  | .alarmUser src => decide (0xC0 ≤ src.toNat)
  | .stickyClear _ _ => true
  | .logPut _ => true
  | .logRidxWrite _ _ => true
  | .traceLevelWrite _ => true
  | .traceDecimation => true
  | .vlanEgressTimer => true
  | .belDomainEnable _ _ => true
  | .fillBelowCrit _ => true
  | .fetchLine _ => true
  | .pcieLinkTrained _ _ => true
  | .portLinkUp _ => true
  | .learnedEntryAgeOut _ _ => true
  | .ptpGeneralMessage _ _ _ _ _ => true
  | .bar4Write (.host _) (.write bs) => decide (1 ≤ bs.length ∧ bs.length ≤ 4096)
  | .bar4Write (.host _) (.read n) => decide (1 ≤ n.val)
  | .bar4Write (.host _) .fence => false
  | .bar4Write (.core _ _) (.write bs) => decide (1 ≤ bs.length ∧ bs.length ≤ 64)
  | .bar4Write (.core _ _) (.read n) => decide (1 ≤ n.val ∧ n.val ≤ 64)
  | .bar4Write (.core _ _) .fence => true
  | .lowWordRead _ _ => true
end Sys2Proof
end

