-- ==== Sys2Proof/Tests/Slice0.lean ====
section
/-! SUPPORT. The model's own tests. First an ill-formed command for each check of WellFormed; then single steps whose results are read
off the spec's words; then, for every statement with hypotheses, a concrete state and operands that meet them, clause by clause
(`meets_<statement>…`), by the states of `live`, `prg` and `sets`. The option has the
kernel check one test at a time. -/
set_option Elab.async false
namespace Sys2Proof.Tests
open Sys2Proof Sys2Proof.Machine Sys2Proof.Machine.State

/-! An ill-formed command for each check, which the check refuses. -/

theorem test_wf_wide_at_4 : (Instr.regWrite .pf0 1 true 0).wf = false := by decide
theorem test_wf_wide_read_at_4 : (Instr.readClear .pf0 1 true).wf = false := by decide
theorem test_wf_empty_alias_read : (Instr.aliasRead 0 0 0 .core).wf = false := by decide
theorem test_wf_refused_halo_with_data : (Instr.haloData ⟨0, 0, 0, 0, 0, 0⟩ 0 0 [1] [] 0 0 true).wf = false := by decide
theorem test_wf_hang_of_no_engine : (Instr.hang 200).wf = false := by decide
theorem test_wf_suspect_of_no_engine : (Instr.suspectReplay 1056).wf = false := by decide
theorem test_wf_watchdog_of_no_engine : (Instr.replayWatchdog 1056).wf = false := by decide
theorem test_wf_reset_of_no_engine : (Instr.engineReset 300 .start).wf = false := by decide
theorem test_wf_no_level_0 : (Instr.levelTimeout 0).wf = false := by decide
theorem test_wf_no_pavilion_156 : (Instr.pavilionRetire 156).wf = false := by decide
theorem test_wf_no_map_of_156 : (Instr.spareMapChange 156).wf = false := by decide
theorem test_wf_empty_push : (Instr.pushWrite []).wf = false := by decide
theorem test_wf_keeper_is_not_released : (Instr.hartRelease 1).wf = false := by decide
theorem test_wf_short_blob : (Instr.modelKey 0 0 1 []).wf = false := by decide
theorem test_wf_decrypt_of_63_bytes : (Instr.decrypt 0 0 0 0 0 63 0 [] 0).wf = false := by decide
theorem test_wf_no_life_cycle_5 : (Instr.lcAdvance 0 0 5 (List.replicate 48 0)).wf = false := by decide
theorem test_wf_short_signature : (Instr.debugUnlock 0 0 1 []).wf = false := by decide
theorem test_wf_no_rollback_65 : (Instr.rollbackAdvance 0 0 65).wf = false := by decide
theorem test_wf_short_descriptor : (Instr.dmaDescriptor 0 [] [] true).wf = false := by decide
theorem test_wf_spout_past_data : (Instr.spoutDataWrite 0 .pf0 0x3FEFFF [0, 0]).wf = false := by decide
theorem test_wf_spout_read_of_none : (Instr.spoutRead 0 .pf0 0 0).wf = false := by decide
theorem test_wf_no_vector_64 : (Instr.msixUnmask (.vf 0) 64).wf = false := by decide
theorem test_wf_long_recovery : (Instr.recovery 0 (List.replicate 29 0) true).wf = false := by decide
theorem test_wf_runt_frame : (Instr.frameIngress 0 [] true 0 0).wf = false := by decide
theorem test_wf_packet_without_rows : (Instr.rxPacket 0 false 0 0 false false []).wf = false := by decide
theorem test_wf_error_both_ways : (Instr.refreshSlot [1] [1]).wf = false := by decide
theorem test_wf_alarm_below_C0 : (Instr.alarmUser 0xBF).wf = false := by decide
theorem test_wf_empty_bar4_write : (Instr.bar4Write (.host 0) (.write [])).wf = false := by decide

/-! States for tests. -/

/-- A state with fields set: field, value, instance, second instance. -/
def sets (l : List (Fld × Nat × Nat × Nat)) (s : State := State.reset) : State :=
  l.foldl (fun s x => s.setFld x.1 x.2.1 x.2.2.1 x.2.2.2) s
/-- Plot 0 ON, its slot 0 running for context 1, LPDDR served. -/
def live : State :=
  (sets [(PLT_STAT_STATE, 2, 0, 0), (PLT_CTRL_EN, 1, 0, 0), (PLT_RUN_VALID, 1, 0, 0), (PTR_CTX_CTRL_STATE, 1, 1, 0), (ARC_CFG_TRAINED, 1, 0, 0),
    (PLT_SLOT_STAT_STATE, 2, 0, 0)]).setSlot 0 0 { ctx := 1 }
/-- A word of a program: opcode, words less one, fields. -/
def op (o n : Nat) (l : List (Nat × Nat)) : Nat := o * 2 ^ 56 + n * 2 ^ 54 + (l.map (fun x => x.1 * 2 ^ x.2)).foldl (· + ·) 0
/-- Stage 0 of plot 0 at the start of a program. -/
def prg (code : List Nat) (g : Prog := {}) : State := live.setProg 0 { g with running := true, code := code }
/-- The conductor of plot 0 at the start of a program. -/
def cnd (code : List Nat) (g : Prog := {}) : State := live.setProg 255 { g with running := true, code := code }
def K : ProgId := .stage 0 0
def C : ProgId := .cond 0
/-- LPDDR served, nothing else. -/
def served : State := sets [(ARC_CFG_TRAINED, 1, 0, 0)]
/-- A device held in reset. -/
def heldState : State := { State.reset with gth := { State.reset.gth with held := true } }
def nextOf : Outc → State
  | .next t => t
  | _ => State.reset
def isOk {α β : Type} : Except α β → Bool
  | .ok _ => true
  | .error _ => false

/-! Concrete states that meet the statements' hypotheses. -/

theorem meets_StepRunsFront : ({ State.reset with pending := [.pairForce, .syncInEdge] } : State).pending = .pairForce :: [.syncInEdge] := rfl
theorem meets_IdleStepTicks : State.reset.pending = [] ∧ State.reset.gth.held = false := ⟨rfl, rfl⟩
theorem meets_HeldCleanKept : heldClean heldState ∧ heldState.gth.held = true ∧ ∃ t, step heldState = .next t :=
  ⟨fun _ => ⟨fun _ _ _ => rfl, rfl⟩, rfl, _, rfl⟩
theorem meets_EveryRunGoesOn : ({ State.reset with pending := [.pairForce, .syncInEdge] } : State).pending.drop 1 = [.syncInEdge] := rfl
theorem meets_HeldDeviceIgnores : Instr.isReset .pairForce = false ∧ heldState.gth.held = true := by decide
theorem meets_CommandsKeepThePins : Instr.isReset .pairForce = false ∧ ∃ t, exec .pairForce State.reset = .next t := ⟨rfl, _, rfl⟩

/-- TB1 in holdover, with a step armed, with a load armed, and with NS out of range. -/
def inHoldover : State := sets [(SDL_TB_STAT_HOLDOVER, 1, 1, 0)]
def stepArmed : State := { State.reset.setTbase 1 { arm := .step 5, armTick := 0 } with tick := 1 }
def loadArmed : State := State.reset.setTbase 1 { arm := .load (2 ^ 62), armTick := 0 }
theorem meets_TimeBaseWrites_accepted : State.reset.gth.held = false ∧ State.reset.on SDL_TB_STAT_HOLDOVER 1 = false ∧
    (State.reset.tbase 1).arm = .none ∧ State.reset.fld SDL_TB_LOAD_NSS_NS 1 ≤ 999999999 ∧ (1 : Fin 8).val ≠ 0 ∧
    (sets [(SDL_TB_LOAD_NSS_NS, 999999999, 1, 0)]).fld SDL_TB_LOAD_NSS_NS 1 = 999999999 := by decide +kernel
theorem meets_TimeBaseWrites_discarded : inHoldover.on SDL_TB_STAT_HOLDOVER 1 = true ∧ inHoldover.gth.held = false ∧
    (0xFFFFFFFF : BitVec 64).toNat % 2 ^ 40 < 0x100000000 ∧ 0x2FFFFFFFF < (0x300000000 : BitVec 64).toNat % 2 ^ 40 ∧
    999999999 < (sets [(SDL_TB_LOAD_NSS_NS, 1000000000, 1, 0)]).fld SDL_TB_LOAD_NSS_NS 1 ∧
    (loadArmed.tbase 1).arm = .load (2 ^ 62) ∧ loadArmed.on SDL_TB_STAT_HOLDOVER 1 = false := by decide +kernel
theorem meets_PhaseApplied : stepArmed.gth.held = false ∧ (stepArmed.tbase 1).arm ≠ .none ∧ (stepArmed.tbase 1).armTick < stepArmed.tick ∧
    ((1 : Fin 8).val ≠ 0 ∧ stepArmed.on SDL_TB_CTRL_UNSET 1 = true) := by decide +kernel
def farStep : State := { (sets [(SDL_TB_CTRL_UNSET, 0, 1, 0)]).setTbase 1 { arm := .step 16001, armTick := 0 } with tick := 1 }
def edgeStep : State := { (sets [(SDL_TB_CTRL_UNSET, 0, 1, 0)]).setTbase 1 { arm := .step (-16000), armTick := 0 } with tick := 1 }
theorem meets_PhaseApplied_at_the_limit :
    (tbTarget (farStep.tbase 1)).2 = 16001 * 2 ^ 28 ∧ farStep.fld SDL_TB_JLIM_JLIM 1 * 2 ^ 32 = 16000 * 2 ^ 28 ∧
    farStep.on SDL_TB_CTRL_UNSET 1 = false ∧ farStep.on SDL_TB_CTRL_OVR 1 = false ∧
    (tbTarget (edgeStep.tbase 1)).2 = edgeStep.fld SDL_TB_JLIM_JLIM 1 * 2 ^ 32 := by decide +kernel
def pairAgo : State := { State.reset with tick := 500000, sdl := { State.reset.sdl with firstPair := some 0, pairTick := 1 } }
theorem meets_CapturesAndPairs : pairAgo.gth.held = false ∧ pairAgo.sdl.firstPair = some 0 ∧ 0 < pairAgo.tick ∧
    (pairAgo.tick - 0) % 500000 = 0 ∧ pairAgo.sdl.pairTick ≠ pairAgo.tick := by decide
/-- Line clock 0 in FREE mode at its frame's end, and in GENLOCK mode with no pulse for two frames. -/
def lcAtEnd : State := (State.reset.setLclock 0 { mode := 1, base := 1, live := true, next := 0 })
def noPulse : State := ((State.reset.setLclock 0 { mode := 2, base := 1, live := true, next := 0 }).setTbase 1 { val := 2 ^ 70 })
theorem meets_LineClockCommands : lcAtEnd.gth.held = false ∧ lcAtEnd.lcDue 0 = true ∧ (lcAtEnd.lclock 0).live = true ∧
    (noPulse.lclock 0).mode = 2 ∧ noPulse.on SDL_LC_STAT_GENLOCK_LOST 0 = false ∧
    (noPulse.lclock 0).lastPulse + (2 * ((noPulse.lclock 0).div + 1) : Nat) * (noPulse.lclock 0).period
      ≤ noPulse.baseRat (noPulse.lclock 0).base := by decide +kernel

/-! Programs. -/

def nopAt : State := prg [op 0x75 0 [], op 0x74 0 []]
def haltAt : State := prg [op 0x74 0 []]
/-- LOOP 3 ... ENDLOOP, a LOOP inside it with COUNT 65,535, 0 and 65,536, and their ENDLOOPs. -/
def loops (n : Nat) : List Nat :=
  [op 0x70 0 [(3, 0)], op 0x70 0 [(n, 0)], op 0x75 0 [], op 0x70 0 [(1, 53)], op 0x70 0 [(1, 53)], op 0x74 0 []]
def outerAt : State := prg (loops 65535)
def innerAt (n : Nat) : State := prg (loops n) { pc := 1, loops := [⟨1, 4, 3, 0, true⟩] }
def endInner (i : Nat) : State := prg (loops 2) { pc := 3, loops := [⟨2, 3, 2, i, false⟩, ⟨1, 4, 3, 0, true⟩] }
def endOuter : State := prg (loops 2) { pc := 4, loops := [⟨1, 4, 3, 0, true⟩] }
theorem meets_ControlInstructions_loops : nopAt.gth.held = false ∧ nopAt.canIssue (pkey K) 0x75 = true ∧ haltAt.canIssue (pkey K) 0x74 = true ∧
    outerAt.canIssue (pkey K) 0x70 = true ∧ bit (word (outerAt.instrAt 0) 0) 53 = false ∧ (outerAt.prog 0).loops = [] ∧
    (outerAt.prog 0).outerDone = false ∧ (innerAt 65535).canIssue (pkey K) 0x70 = true ∧ (innerAt 65535 |>.prog 0).loops ≠ [] ∧
    bits (word ((innerAt 65535).instrAt 0) 0) 0 32 = 65535 ∧ bits (word ((innerAt 0).instrAt 0) 0) 0 32 = 0 ∧
    (innerAt 0).canIssue (pkey K) 0x70 = true := by decide +kernel
theorem meets_ControlInstructions_ends : endOuter.canIssue (pkey K) 0x70 = true ∧ bit (word (endOuter.instrAt 0) 0) 53 = true ∧
    (endOuter.prog 0).loops = ⟨1, 4, 3, 0, true⟩ :: [] ∧ (endInner 0).canIssue (pkey K) 0x70 = true ∧
    ((endInner 0).prog 0).loops = ⟨2, 3, 2, 0, false⟩ :: [⟨1, 4, 3, 0, true⟩] ∧ 0 + 1 < 2 ∧
    (endInner 1).canIssue (pkey K) 0x70 = true ∧ ((endInner 1).prog 0).loops = ⟨2, 3, 2, 1, false⟩ :: [⟨1, 4, 3, 0, true⟩] ∧ 2 ≤ 1 + 1 := by
  decide +kernel
/-- BR to the next word but one; BR.STEPMOD 0, which is bad; BR out of its loop; COMMIT. -/
def brAt (w : Nat) : State := prg [w, op 0x75 0 [], op 0x74 0 []]
def brOut : State := prg [op 0x70 0 [(3, 0)], op 0x71 0 [(2, 0)], op 0x70 0 [(1, 53)], op 0x74 0 []] { pc := 1, loops := [⟨1, 2, 3, 0, true⟩] }
def commitAt (x : Option Span) : State := cnd [op 0x72 0 [], op 0x74 0 []] { span := x }
def openSpan : Span := ⟨0, 0, 5, 0, 10, 10, none, 0, 0, false, false, none⟩
theorem meets_ControlInstructions_br : (brAt (op 0x71 0 [(2, 0)])).canIssue (pkey K) 0x71 = true ∧
    brBad ((brAt (op 0x71 0 [(2, 0)])).prog 0) (op 0x71 0 [(2, 0)]) = false ∧
    brInside ((brAt (op 0x71 0 [(2, 0)])).prog 0) 2 = true ∧
    (commitAt none).canIssue (pkey C) 0x72 = true ∧ (commitAt none).span 0 = none ∧
    (commitAt (some openSpan)).canIssue (pkey C) 0x72 = true ∧ (commitAt (some openSpan)).span 0 = some openSpan ∧
    (commitAt (some openSpan)).spanLate openSpan = false ∧ openSpan.band = none := by decide +kernel
def pendingCmd : Cmd := { pc := 0, words := [op 0x62 0 []], step := 0, seq := 0 }
def fenceAt (cs : List Cmd) : State := prg [op 0x73 0 [], op 0x74 0 []] { cmds := cs }
def fenceWaits : State := prg [op 0x73 0 [], op 0x74 0 []] { wait := .fence false }
def drained : State := prg (loops 2) { pc := 4, loops := [⟨1, 4, 3, 0, true⟩], wait := .drain }
theorem meets_FencesAndDrains : (fenceAt []).canIssue (pkey K) 0x73 = true ∧ (fenceAt []).fenceOk 0 false = true ∧
    (fenceAt [pendingCmd]).canIssue (pkey K) 0x73 = true ∧ (fenceAt [pendingCmd]).fenceOk 0 false = false ∧
    fenceWaits.plotLive 0 = true ∧ (fenceWaits.prog 0).wait = .fence false ∧ fenceWaits.fenceOk 0 false = true ∧
    drained.drainReady 0 = true := by decide +kernel
/-- TDESC of an LPDDR tensor of 4 BITS32 words; SDESC with RING 1; KDESC of a 1 × 1 kernel. -/
def tdW : List Nat := [op 0x10 3 [(11, 42), (1, 16)], 0, 4, 0]
def tdAt : State := prg (tdW ++ [op 0x74 0 []])
def sdAt (ring : Nat) : State := prg [op 0x11 3 [(ring, 16)], 0, 0, 0, op 0x74 0 []]
def kdAt : State := prg [op 0x12 1 [(1, 42), (1, 36), (1, 22), (1, 16)], 0, op 0x74 0 []]
theorem meets_DescriptorsFill : tdAt.canIssue (pkey K) 0x10 = true ∧ tdescOk (tdAt.prog 0).mask (tdAt.instrAt 0) = true ∧
    bits (word (tdAt.instrAt 0) 0) 46 2 = 0 ∧
    (sdAt 1).canIssue (pkey K) 0x11 = true ∧ bits (word ((sdAt 1).instrAt 0) 0) 16 16 ≠ 0 ∧
    kdAt.canIssue (pkey K) 0x12 = true ∧ bits (word (kdAt.instrAt 0) 0) 42 6 = 1 ∧ bits (word (kdAt.instrAt 0) 0) 8 8 = 0 := by decide +kernel
def wsigAt (n : Nat) : State := prg [op 0x51 0 [(7, 36), (n, 20)], op 0x74 0 []]
def atOffClock : State := prg [op 0x60 1 [], 5 * 2 ^ 16, op 0x74 0 []]
theorem meets_FrontEndFaults : (innerAt 65536).canIssue (pkey K) 0x70 = true ∧ 65535 < bits (word ((innerAt 65536).instrAt 0) 0) 0 32 ∧
    ((innerAt 65536).prog 0).loops ≠ [] ∧
    (brAt (op 0x71 0 [(4, 51)])).canIssue (pkey K) 0x71 = true ∧ brBad ((brAt (op 0x71 0 [(4, 51)])).prog 0) (op 0x71 0 [(4, 51)]) = true ∧
    brOut.canIssue (pkey K) 0x71 = true ∧ brBad (brOut.prog 0) (word (brOut.instrAt 0) 0) = false ∧ brInside (brOut.prog 0) 3 = false ∧
    (sdAt 0).canIssue (pkey K) 0x11 = true ∧ bits (word ((sdAt 0).instrAt 0) 0) 16 16 = 0 ∧
    (wsigAt 0).canIssue (pkey K) 0x51 = true ∧ bits (word ((wsigAt 0).instrAt 0) 0) 20 16 = 0 ∧
    atOffClock.canIssue (pkey K) 0x60 = true ∧ bits (word (atOffClock.instrAt 0) 0) 53 1 = 0 ∧
    bits (word (atOffClock.instrAt 0) 1) 16 16 ≠ 65535 ∧ (atOffClock.lclock 0).mode = 0 := by decide +kernel
def mineWkt (s : State) (n : Nat) : State :=
  (sets [(PTR_WKT_V, 1, 7, 0), (PTR_WKT_OWNER, 1, 7, 0)] s).setWkt 7 { count := n }
def waitAt (n : Nat) : State := prg [op 0x50 0 [(7, 36), (n, 20)], op 0x74 0 []]
def waiting (d : Option Nat) : State := prg [op 0x50 0 [(7, 36), (2, 20)], op 0x74 0 []] { wait := .wwait 7 2 d }
theorem meets_WicketInstructions_issue : (mineWkt (wsigAt 3) 0).canIssue (pkey K) 0x51 = true ∧
    (mineWkt (wsigAt 3) 0).wktOwned 7 ((mineWkt (wsigAt 3) 0).plotCtx 0) = true ∧ (mineWkt (wsigAt 3) 0).on PTR_WKT_BMODE 7 = false ∧
    (mineWkt (wsigAt 3) 0).ctxActive ((mineWkt (wsigAt 3) 0).plotCtx 0) = true ∧
    (mineWkt (waitAt 2) 2).canIssue (pkey K) 0x50 = true ∧ (mineWkt (waitAt 2) 2).canBind 7 0 = true ∧
    (mineWkt (waitAt 2) 2).wktOwned 7 1 = true ∧ (mineWkt (waitAt 2) 2).plotCtx 0 = 1 ∧
    (((mineWkt (waitAt 2) 2).bindWaiter 7 0).wkt 7).count = 2 ∧ ((mineWkt (waitAt 2) 2).bindWaiter 7 0).frozen 7 = false ∧
    ((mineWkt (waitAt 2) 2).bindWaiter 7 0).proxyOf 7 = none := by decide +kernel
theorem meets_WicketInstructions_waits : (mineWkt (waitAt 2) 1).canIssue (pkey K) 0x50 = true ∧
    (((mineWkt (waitAt 2) 1).bindWaiter 7 0).wkt 7).count < 2 ∧ ((mineWkt (waitAt 2) 1).bindWaiter 7 0).proxyOf 7 = none ∧
    (mineWkt (waiting none) 2).plotLive 0 = true ∧ ((mineWkt (waiting none) 2).prog 0).wait = .wwait 7 2 none ∧
    2 ≤ ((mineWkt (waiting none) 2).wkt 7).count ∧ (mineWkt (waiting none) 2).frozen 7 = false ∧
    ((mineWkt (waiting (some 0)) 1).prog 0).wait = .wwait 7 2 (some 0) ∧ 0 ≤ (mineWkt (waiting (some 0)) 1).fc ∧
    ((mineWkt (waiting (some 0)) 1).wkt 7).count < 2 := by decide +kernel
def barAt : State := mineWkt (prg [op 0x52 0 [(7, 36), (1, 28)], op 0x74 0 []]) 0
def barFull : State := State.reset.setWkt 7 { k := 1, arrived := [0], count := 1 }
/-- Two have arrived at a barrier of two, and none has been released: this program's arrival is the first of the next release. -/
def barNext : State := barAt.setWkt 7 { k := 2, arrived := [1, 2], count := 2 }
theorem meets_Barriers_next : barNext.canIssue (pkey K) 0x52 = true ∧ barNext.wktOwned 7 (barNext.plotCtx 0) = true ∧
    barNext.fld PTR_WKT_WKIND 7 = 0 ∧ (barNext.wkt 7).arrived.contains 0 = false ∧ (barNext.wkt 7).k ≤ (barNext.wkt 7).arrived.length ∧
    (barNext.wkt 7).arrived.length = (barNext.wkt 7).k ∧ bits (word (barNext.instrAt 0) 0) 28 8 + 1 = 2 := by decide +kernel
theorem meets_Barriers : barAt.gth.held = false ∧ barAt.canIssue (pkey K) 0x52 = true ∧ barAt.wktOwned 7 (barAt.plotCtx 0) = true ∧
    barAt.fld PTR_WKT_WKIND 7 = 0 ∧ (barAt.wkt 7).arrived = [] ∧
    (barFull.wkt 7).arrived ≠ [] ∧ (barFull.wkt 7).k ≤ (barFull.wkt 7).arrived.length ∧ (barFull.wkt 7).group = false ∧
    barFull.gstate = 0 := by decide +kernel
def onClock (s : State) : State := s.setLclock 0 { mode := 1, base := 1, live := true, next := 2 ^ 60 }
def atOn : State := onClock (prg [op 0x60 1 [], 5 * 2 ^ 16, op 0x74 0 []])
def atPast : State := onClock (prg [op 0x60 1 [], 0, op 0x74 0 []])
def atWaits : State := onClock (prg [op 0x60 1 [], 0, op 0x74 0 []] { wait := .at 0 0 0 0 0 })
def dueAt : State := onClock (cnd [op 0x61 2 [], 0, 5 * 2 ^ 16, op 0x74 0 []])
def dueRel : State := onClock (cnd [op 0x61 2 [(1, 51)], 0, 5 * 2 ^ 16, op 0x74 0 []])
theorem meets_LineTimeInstructions_rel : dueRel.canIssue (pkey C) 0x61 = true ∧ bit (word (dueRel.instrAt 255) 0) 51 = true ∧
    dueRel.headlessPlot 0 = false ∧ dueRel.span 0 = none := by decide +kernel
def spanOpen (x : Span) : State := onClock (cnd [op 0x74 0 []] { span := some x })
theorem meets_LineTimeInstructions : atOn.canIssue (pkey K) 0x60 = true ∧ atOn.atOff 0 0 = false ∧ atOn.atReached 0 0 0 5 0 = false ∧
    atPast.canIssue (pkey K) 0x60 = true ∧ atPast.atReached 0 0 0 0 0 = true ∧
    atWaits.plotLive 0 = true ∧ (atWaits.prog 0).wait = .at 0 0 0 0 0 ∧ atWaits.atOff 0 0 = false ∧ atWaits.atReached 0 0 0 0 0 = true ∧
    dueAt.canIssue (pkey C) 0x61 = true ∧ dueAt.span 0 = none ∧ dueAt.on PLT_POST_SV 0 = false ∧ (dueAt.lclock 0).mode ≠ 0 ∧
    (spanOpen openSpan).span 0 = some openSpan ∧ (spanOpen openSpan).lineStarted 0 = true ∧
    (spanOpen { openSpan with l := 0, warned := true }).spanLate { openSpan with l := 0, warned := true } = true := by decide +kernel

/-! Slot commands. -/

/-- A conductor's TIME command: at its issue, dispatched, fired, finished. -/
def timeW : Nat := op 0x62 0 []
def timeCmd (ph : CmdPhase) : Cmd := { pc := 0, words := [timeW], step := 0, seq := 0, phase := ph, res := { writes := [(0, [])] } }
def timeAt : State := cnd [timeW, op 0x74 0 []]
def timeIn (ph : CmdPhase) : State := cnd [timeW, op 0x74 0 []] { cmds := [timeCmd ph], pc := 1 }
/-- An arming DIGEST of a PAIR tensor in slot 1 to an LPDDR tensor in slot 0. -/
def pairW : List Nat := [op 0x10 3 [(3, 46), (11, 42), (1, 16)], 0, 4, 0]
def digestAt : State := prg [op 0x78 1 [(1, 47)], 7, op 0x74 0 []] { tds := [(0, tdW ++ [0]), (1, pairW ++ [4])] }
theorem meets_SlotInstructionsDispatch : timeAt.gth.held = false ∧ timeAt.canIssue (pkey C) 0x62 = true ∧
    slotWaits (timeAt.prog 255) 0x62 = false ∧ isCond 255 = true ∧ timeAt.issueCheck 255 (timeAt.instrAt 255) = none ∧
    digestAt.canIssue (pkey K) 0x78 = true ∧ bit (word (digestAt.instrAt 0) 0) 53 = false ∧
    digestAt.issueCheck 0 (digestAt.instrAt 0) = none := by decide +kernel
/-- TDESC of a tensor of 4 codes C8S, of kind `k`. -/
def codedW (k : Nat) : List Nat := [op 0x10 3 [(k, 46), (1, 42), (1, 16)], 0, 4, 0]
/-- A fired RNG of 2 uniform words to a PAIR. -/
def rngW : List Nat := [op 0x79 1 [], 3]
def rngOut : List Nat := [op 0x10 3 [(3, 46), (11, 42), (1, 16)], 0, 2, 0]
def rngIn : State := prg (rngW ++ [op 0x74 0 []])
  { tds := [(0, rngOut ++ [0])], cmds := [{ pc := 0, words := rngW, step := 0, seq := 0, phase := .fired }], pc := 2 }
theorem meets_ComputeCommandsRun : rngIn.gth.held = false ∧ rngIn.ctxActive (rngIn.plotCtx 0) = true ∧
    rngIn.firedOf 0 0x79 = some { pc := 0, words := rngW, step := 0, seq := 0, phase := .fired } ∧ opc (word rngW 0) = 0x79 ∧
    isRng 0x79 = true ∧ isOk (rngIn.runRng 0 rngW 0) = true := by decide +kernel
/-- A fired ACT whose 8-bit coded input has a scale entry with another block's tag. -/
def actW : List Nat := [op 0x26 1 [(2, 48), (0, 36)], 0]
def actSkewed : State :=
  let s := prg (actW ++ [op 0x74 0 []])
    { tds := [(0, codedW 3 ++ [0]), (2, pairW ++ [8])], cmds := [{ pc := 0, words := actW, step := 0, seq := 0, phase := .fired }], pc := 2 }
  { s with mem := [(pavBase + 64, 0xFF), (pavBase + 65, 0xFF)], par := { s.par with hdr := [(0, some ⟨1, 0, 0, [4, 1, 1, 1], 0, 63, 0⟩)] } }
theorem meets_ComputeCommandsRun_fault : actSkewed.firedOf 0 0x26 = some { pc := 0, words := actW, step := 0, seq := 0, phase := .fired } ∧
    opc (word actW 0) = 0x26 ∧ isRng 0x26 = false ∧ macPath 0x26 = false ∧ actSkewed.ctxActive (actSkewed.plotCtx 0) = true ∧
    isOk (actSkewed.runVec 0 actW 0 (0, 0)) = false ∧ (actSkewed.skewOf 0 actW).isSome = true := by decide +kernel
theorem meets_MovementCommandsRun : (timeIn .fired).firedOf 255 0x62 = some (timeCmd .fired) ∧
    (timeIn .fired).ctxActive ((timeIn .fired).plotCtx 0) = true ∧ (timeIn .fired).moveMay 255 (timeCmd .fired) = true ∧
    (timeIn .fired).movePoison 255 (timeCmd .fired) = false ∧ (timeIn .fired).loadSkew 255 (timeCmd .fired) = none := by decide +kernel
/-- A fired LOAD of 4 BITS32 words from poisoned LPDDR; one of an 8-bit coded tensor whose scale entry carries another tag. -/
def loadW : List Nat := [op 0x40 0 [(1, 48), (0, 42)]]
def loadCmd (ws : List Nat) : Cmd := { pc := 0, words := ws, step := 0, seq := 0, phase := .fired }
def loadIn : State := prg (loadW ++ [op 0x74 0 []]) { tds := [(0, tdW ++ [0]), (1, pairW ++ [4])], cmds := [loadCmd loadW], pc := 1 }
def loadPoisoned : State := { loadIn with poison := [(0, true)] }
def skewW : List Nat := [op 0x40 0 [(1, 48), (0, 42), (1, 36)]]
def loadSkewed : State :=
  { prg (skewW ++ [op 0x74 0 []]) { tds := [(0, codedW 0 ++ [0]), (1, codedW 3 ++ [4])], sds := [(0, [op 0x11 3 [(1, 16)], 16, 0, 0])],
                                    cmds := [loadCmd skewW], pc := 1 } with mem := [(1024, 0xFF), (1025, 0xFF)] }
theorem meets_MovementCommandsRun_poison : loadPoisoned.firedOf 0 0x40 = some (loadCmd loadW) ∧ loadPoisoned.moveMay 0 (loadCmd loadW) = true ∧
    loadPoisoned.movePoison 0 (loadCmd loadW) = true := by decide +kernel
theorem meets_MovementCommandsRun_skew : loadSkewed.firedOf 0 0x40 = some (loadCmd skewW) ∧ loadSkewed.moveMay 0 (loadCmd skewW) = true ∧
    loadSkewed.movePoison 0 (loadCmd skewW) = false ∧ (loadSkewed.loadSkew 0 (loadCmd skewW)).isSome = true := by decide +kernel
/-- A fired ATOM of two I32 elements from a PAIR to LPDDR, its first add to come, and its last. -/
def atomW : List Nat := [op 0x45 0 [(1, 48), (0, 42)]]
def atomCmd (n : Nat) : Cmd := { pc := 0, words := atomW, step := 0, seq := 0, phase := .fired, res := { stats := [n] } }
def atomIn (n : Nat) : State := prg (atomW ++ [op 0x74 0 []])
  { tds := [(0, [op 0x10 3 [(0, 46), (10, 42), (1, 16)], 0, 2, 0, 0]), (1, [op 0x10 3 [(3, 46), (10, 42), (1, 16)], 0, 2, 0, 4])],
    cmds := [atomCmd n], pc := 1 }
theorem meets_MovementCommandsRun_atom : (atomIn 0).firedOf 0 0x45 = some (atomCmd 0) ∧ (atomIn 0).moveMay 0 (atomCmd 0) = true ∧
    (atomIn 0).movePoison 0 (atomCmd 0) = false ∧ (atomIn 0).loadSkew 0 (atomCmd 0) = none ∧ opc (word atomW 0) = 0x45 ∧
    1 < nElems (tdDims ((atomIn 0).td 0 (mTD (word atomW 0)))) ∧ (atomIn 1).firedOf 0 0x45 = some (atomCmd 1) ∧
    ¬ 1 + 1 < nElems (tdDims ((atomIn 1).td 0 (mTD (word atomW 0)))) := by decide +kernel
def haloW : List Nat := [op 0x44 1 [], 2 ^ 16]
def haloIn : State := prg (haloW ++ [op 0x74 0 []])
  { tds := [(0, pairW ++ [0])], cmds := [{ pc := 0, words := haloW, step := 0, seq := 0, phase := .fired }], pc := 2 }
def haloIsland : State := sets [(ZHL_GRP_STAT_GSTATE, 2, 0, 0)] haloIn
theorem meets_MovementCommandsRun_halo : haloIn.haloCmd 0 = some { pc := 0, words := haloW, step := 0, seq := 0, phase := .fired } ∧
    haloIn.ctxActive (haloIn.plotCtx 0) = true ∧ haloIn.islanded = false ∧ haloIsland.islanded = true ∧
    haloIsland.haloCmd 0 = haloIn.haloCmd 0 := by decide +kernel
def flight : Flight := ⟨3, 0, 5, 1, 0, 0⟩
def inFlightState : State := { live with par := { live.par with tokens := [flight], credits := [flight] } }
theorem meets_CommandsFireAndCommit : (timeIn .dispatched).plotLive 0 = true ∧
    (timeIn .dispatched).nextToFire 255 1 = some (timeCmd .dispatched) ∧ (timeIn .dispatched).cmdReady 255 (timeCmd .dispatched) = true ∧
    (timeIn .dispatched).belHolds 255 (timeCmd .dispatched) = false ∧ (timeIn .dispatched).fireCheck 255 [timeW] = none ∧
    ((timeIn .finished).prog 255).cmds = timeCmd .finished :: [] ∧ (timeCmd .finished).due ≤ (timeIn .finished).fc ∧
    (timeCmd .fired).phase ≠ .finished ∧
    inFlightState.flightDue inFlightState.par.tokens (256 * 0 + 3) 0 = some flight ∧
    inFlightState.flightDue inFlightState.par.credits (256 * 0 + 3) 0 = some flight ∧
    inFlightState.tagOf flight.bank = flight.tag := by decide +kernel

/-! Belvedere. -/

def belReq (pacer : Option (Nat × Nat × Nat)) : BelReq := ⟨0, 0, {}, {}, {}, 0, 0, 0, 0, 1, 0, 0, 0, [], 0, 0, 0, [], [], pacer⟩
def belWait (pacer : Option (Nat × Nat × Nat)) : State := { live with bel := { live.bel with wait := [⟨0, 0, belReq pacer⟩] } }
def belQueued (gen : Nat) : State :=
  (sets [(BEL_PWR_CTRL_STATE, 2, 0, 0)] live).setEng 0 { queue := [{ belReq none with gen := gen }] }
def belBusy : State := live.setEng 0 { cur := some (belReq none) }
theorem meets_BelvedereCommands : (belWait (some (0, 0, 0))).belTurn 0 = some ⟨0, 0, belReq (some (0, 0, 0))⟩ ∧
    ((belWait none).eng 0).queue.length < 8 ∧ (belWait none).belTurn 0 = some ⟨0, 0, belReq none⟩ ∧
    ((belQueued 0).eng 0).queue = [belReq none] ∧ (belQueued 0).belStale (belReq none) = false ∧
    (belQueued 0).belCanStart 0 = some (belReq none) ∧ (belQueued 0).belClash 0 ((belQueued 0).belSampled (belReq none)) = false ∧
    (belQueued 0).belTrained 0 = true ∧ ((belQueued 1).eng 0).cur = none ∧
    (belQueued 1).fld BEL_PWR_CTRL_STATE (engDomain 0) = 2 ∧ (belQueued 1).belStale { belReq none with gen := 1 } = true ∧
    (belBusy.eng 0).cur = some (belReq none) ∧ (belBusy.eng 0).due ≤ belBusy.fc ∧ belBusy.trained = true ∧
    State.reset.fnState (.bel 0) = 0 ∧ (sets [(BEL_PWR_CTRL_STATE, 1, 0, 0), (BEL_PWR_CTRL_EN, 1, 0, 0)]).fnState (.bel 0) = 1 ∧
    (sets [(BEL_PWR_CTRL_STATE, 1, 0, 0), (BEL_PWR_CTRL_EN, 1, 0, 0)]).fnEn (.bel 0) = true := by decide +kernel

/-! Switchable functions, plots, slots, contexts. -/

def fn (st en pend : Nat) : State :=
  sets [(PLT_STAT_STATE, st, 0, 0), (PLT_CTRL_EN, en, 0, 0), (PLT_STAT_PENDING_ON, pend, 0, 0), (ARC_CFG_TRAINED, 1, 0, 0)]
theorem meets_SwitchableFunctions : (fn 0 0 0).fnState (.plot 0) = 0 ∧ (fn 1 1 0).fnState (.plot 0) = 1 ∧ (fn 1 1 0).fnEn (.plot 0) = true ∧
    (fn 1 0 0).fnEn (.plot 0) = false ∧ (fn 1 0 0).fnState (.plot 0) = 1 ∧ (fn 2 1 0).fnState (.plot 0) = 2 ∧
    (fn 3 0 0).fnState (.plot 0) = 3 ∧ (fn 3 0 0).fnPending (.plot 0) = false ∧ (fn 3 0 1).fnPending (.plot 0) = true ∧
    (fn 3 0 1).fnState (.plot 0) = 3 := by decide +kernel
/-- An OFF that an enable latched in STOPPING is to end; an ON that a stop latched in STARTING is to end. -/
def restarting (f : FnId) : State := { State.reset.setFnPending f true with restart := [(f, 0)] }
theorem meets_SwitchableFunctions_again : (restarting (.plot 0)).fnState (.plot 0) = 0 ∧ (restarting (.plot 0)).fnPending (.plot 0) = true ∧
    (restarting (.plot 0)).restart.any (fun x => x.1 == .plot 0) = true ∧ State.reset.restart = [] ∧
    (fn 1 0 0).startDone (.plot 0) true = { (fn 1 0 0).setFnState (.plot 0) 2 with brief := [.plot 0] } := by decide +kernel
def txStop : State := sets [(ETH_TX_CFG_STATE, 3, 0, 0), (PCI_DMA_CTRL_STATE, 3, 0, 0)]
theorem meets_StoppingEnds : (fn 3 0 0).stopReady (.plot 0) = true ∧ txStop.fnState (.tx 0) = 3 ∧ txStop.fnPending (.tx 0) = false ∧
    txStop.fnState (.dma 0) = 3 ∧ (txStop.dma 0).cur = none ∧ txStop.fnPending (.dma 0) = false ∧
    (fn 3 0 0).running 0 = none ∧ ((fn 3 0 0).plot 0).act = .idle ∧ (fn 3 0 0).fnPending (.plot 0) = false := by decide +kernel
def mapHeld (s : State) : State := (s.setPlot 0 { memberHeld := true, memberDue := true, reimgDue := true }).wr .PTR_PLOT_MAP 0x80 0
theorem meets_PlotCommands : (fn 0 0 0).fnState (.plot 0) = 0 ∧ live.fnState (.plot 0) = 2 ∧ (live.running 0).isSome = true ∧
    (fn 2 1 0).fnState (.plot 0) = 2 ∧ (fn 2 1 0).running 0 = none ∧ live.trained = true ∧ live.membersOn 0 = true ∧
    (mapHeld (fn 0 0 0)).memberBoundary 0 = true ∧ (mapHeld (fn 0 0 0)).running 0 = none ∧ (mapHeld live).memberBoundary 0 = true ∧
    (mapHeld live).running 0 = some 0 ∧ (fn 0 0 0).plotState 0 = 0 ∧ live.plotState 0 ≠ 0 ∧
    ((mapHeld live).plot 0).reimgDue = true ∧ (sets [(PLT_SLOT_CFG_REIMAGE, 1, 0, 0)] (mapHeld live)).on PLT_SLOT_CFG_REIMAGE 0 0 = true ∧
    ((sets [(PLT_SLOT_CFG_REIMAGE, 1, 0, 0)] (mapHeld live)).plot 0).reimgDue = true := by decide +kernel
/-- A BE slot of context 1, ACTIVE; and context 0. -/
def bindable : State := sets [(PTR_CTX_CTRL_STATE, 1, 1, 0), (ARC_CFG_TRAINED, 1, 0, 0)]
def boundSlot (s : State) : State := sets [(PLT_SLOT_STAT_STATE, 1, 0, 1)] s
theorem meets_SlotBinding : bindable.slotState 0 1 = 0 ∧ bindable.trained = true ∧ bits (0x1001 : BitVec 32).toNat 0 10 = 1 ∧
    (bindable.wr .PLT_SLOT_CFG (setBits (setBits 0x1001 28 1 1) 29 3 0) 0 1).ctxActive 1 = true ∧ bit 0x1001 10 = false ∧
    ((bindable.wr .PLT_SLOT_CFG (setBits (setBits 0x1001 28 1 1) 29 3 0) 0 1).bound 0) = [] ∧
    (bindable.wr .PLT_SLOT_CFG (setBits (setBits 0x1002 28 1 1) 29 3 0) 0 1).ctxActive 2 = false ∧
    (boundSlot bindable).slotState 0 1 ≠ 0 ∧ ((boundSlot bindable).setFld PLT_SLOT_CFG_BIND 0 0 1).running 0 ≠ some 1 ∧
    live.slotState 0 0 ≠ 0 ∧ (live.setFld PLT_SLOT_CFG_BIND 0 0 0).running 0 = some 0 ∧ (live.plot 0).act = .idle := by decide +kernel
/-- An RT bind reads the image, which waits while LPDDR is not trained; slot 0 is being switched in. -/
theorem meets_SlotBinding_waits : State.reset.slotState 0 1 = 0 ∧ (State.reset.slot 0 1).waits = none ∧
    (let u := State.reset.wr .PLT_SLOT_CFG (setBits (setBits 0x1401 28 1 1) 29 3 0) 0 1; u.trained || !u.bindReads 0 1 0x1401) = false ∧
    ((live.setPlot 0 { act := .load 9 }).plot 0).act = .load 9 ∧ (bindable.slot 0 1).waits = none := by decide +kernel
/-- The one RT slot open at the bind is none, for slot 1 is BE. -/
theorem meets_SlotBinding_no_rt :
    (let u := bindable.wr .PLT_SLOT_CFG (setBits (setBits 0x1001 28 1 1) 29 3 0) 0 1
     let t := u.setSlot 0 1 { ctx := 1, rt := false, weight := 1, rtsteps := 1, resume := false }
     ((List.range 16).filter (fun i => (i == 1 || u.slotState 0 i != 0) && (t.slot 0 i).rt)).isEmpty) = true := by decide +kernel
def later (s : State) : State := { s with tick := 10000000 }
def doneSlot : State := (sets [(PLT_SLOT_STAT_STATE, 3, 0, 0)] live).setProg 255 { halted := true }
def pausing (d : Nat) : State := live.setPlot 0 { act := .pause d .select }
def readySlot : State := boundSlot (fn 2 1 0)
theorem meets_SharingCommands : ((live.setPlot 0 { periodDue := true }).plot 0).periodDue = true ∧ (later live).quantumDue 0 = true ∧
    doneSlot.preemptDue 0 = true ∧ (doneSlot.plot 0).act = .idle ∧ (doneSlot.running 0).isSome = true ∧
    ((pausing 0).plot 0).act = .pause 0 .select ∧ 0 ≤ (pausing 0).tick ∧ (pausing 5).pauseQuiet 0 = true ∧ (pausing 5).trained = true ∧
    (pausing 5).running 0 = some 0 ∧ readySlot.plotState 0 = 2 ∧ readySlot.running 0 = none ∧ (readySlot.plot 0).act = .idle ∧
    (readySlot.plot 0).suspended = false ∧ readySlot.fnBrief (.plot 0) = false ∧ readySlot.chooseSlot 0 = some 1 := by decide +kernel
def draining : State := later (State.reset.setCtx 5 { tearStep := 2 })
theorem meets_ContextCommands : State.reset.ctxState 5 = 0 ∧ (5 : BitVec 10).toNat ≠ 0 ∧ live.ctxState 1 = 1 ∧ State.reset.ctxState 5 ≠ 1 ∧
    (draining.ctx 5).tearStep = 2 ∧ (draining.ctx 5).drainAt + 4 * usTicks ≤ draining.tick := by
  decide +kernel
def group (b : Batch) : State := (sets [(PLT_BAT_CFG_STATE, 2, 0, 0), (ARC_CFG_TRAINED, 1, 0, 0)]).setBatch 0 b
def waits (n : Nat) : Batch := { queue := (List.range n).map (fun i => ⟨i + 1, 0, 0, 0, 0⟩) }
theorem meets_BatchCommands : (group {}).trained = true ∧ (group {}).fld PLT_BAT_CFG_STATE 0 = 2 ∧ sidKnown ((group {}).batch 0) 9 = false ∧
    ((group {}).batch 0).queue.length < 64 ∧ sidKnown ((group (waits 64)).batch 0) 900 = false ∧ 64 ≤ ((group (waits 64)).batch 0).queue.length ∧
    sidKnown ((group (waits 1)).batch 0) 1 = true ∧ ((group (waits 1)).batch 0).queue.any (fun j => j.sid == 1) = true ∧
    sidKnown ((group { lanes := [(0, some ⟨4, 0, 0, 1, 0, false, 0⟩)] }).batch 0) 4 = true ∧
    ((group { lanes := [(0, some ⟨4, 0, 0, 1, 0, false, 0⟩)] }).batch 0).queue.any (fun j => j.sid == 4) = false ∧
    (({ maps := [(7, 1)] } : Batch)).maps = (7, 1) :: [] := by decide +kernel

/-! Streams and heads. -/

/-- Line clock 0 live on base 1: at its frame's start; late in its frame; three frames on. -/
def clockAt (units : Nat) (s : State) : State :=
  (s.setLclock 0 { mode := 1, base := 1, live := true, next := 2 ^ 60 }).setTbase 1 { val := units * 2 ^ 28 }
def lateClock (s : State) : State := clockAt 266000000 s
def strmOn0 (x : Strm) (units : Nat := 0) : State :=
  { (clockAt units (sets [(PLT_STRM_CFG_STATE, 2, 0, 0), (ARC_CFG_TRAINED, 1, 0, 0)])).setStrm 0 { x with lc := 0 } with tick := 1 }
def input0 : Input := ⟨0, 5, 0, 0, false, false, true⟩
theorem meets_StreamCommands_switch : State.reset.fnState (.stream 0) = 0 ∧
    (((State.reset.setFnEn (.stream 0) true).setFnState (.stream 0) 1).strmCheck 0) = some 0x058C ∧
    (strmOn0 {}).fnState (.stream 0) = 2 ∧ (strmOn0 {}).strmState 0 = 2 := by decide +kernel
def latching (ins : List Input) : State := strmOn0 { heads := 1, inputs := ins }
theorem meets_StreamCommands_latch :
    (latching []).reached 0 ((latching []).linePos 0 0 ((latching []).latchLine ((latching []).strm 0) 0)) = true ∧
    ((latching []).strm 0).heads ≠ 0 ∧ ((latching []).strm 0).stopFrame = none ∧
    (latching []).select 0 ((latching []).takeShadows 0) 0 0 [] ((latching []).bandTime ((latching []).takeShadows 0) 0 0) = none ∧
    ((latching [input0]).select 0 ((latching [input0]).takeShadows 0) 0 0 [input0]
      ((latching [input0]).bandTime ((latching [input0]).takeShadows 0) 0 0)).any (fun y => !bit y.1.flags 2 && !bit y.1.flags 3) = true ∧
    ((latching [input0]).takeShadows 0).inputs.filter (fun x => decide (x.accepted < 1)) = [input0] := by decide +kernel
def headless : State := strmOn0 { inputs := [input0] }
theorem meets_StreamCommands_headless : (headless.strm 0).heads = 0 ∧
    (headless.strm 0).inputs.reverse.find? (fun x => !x.used0) = some input0 ∧
    (headless.select 0 { headless.takeShadows 0 with mode := 2 } 5 0 ((headless.takeShadows 0).inputs.dropWhile (fun y => y != input0))
      (headless.tb16 1)).isSome = true := by decide +kernel
/-- The pacer of a STOPPING stream whose signals of the frame have ended; an OFF that is to end. -/
theorem meets_StreamCommands_states : (sets [(PLT_STRM_CFG_STATE, 3, 0, 0)]).strmState 0 = 3 ∧
    (restarting (.stream 0)).fnState (.stream 0) = 0 ∧ (restarting (.stream 0)).restart.any (fun x => x.1 == .stream 0) = true ∧
    (latching [input0]).fnBrief (.stream 0) = false ∧
    (((latching []).setStrm 0 { (latching []).strm 0 with mute := some 0 }).strm 0).mute = some ((latching []).strm 0).nextF := by decide +kernel
def shownHead : Head :=
  { running := true, cfg := { layers := [{ en := true }, {}, {}, {}] }, scan := { layers := [{ en := true }, {}, {}, {}] },
    taken := (List.range 34).map (fun b => (0, 0, b, 4096)) }
def shownPost : Post := ⟨0, 0, 0, 4096, 0, 64, 0⟩
def shownSel : Sel := ⟨0, 0, 0, 0, 0xFFFF, 5, 0, 0, 0, 0, 7, 0, 0, false, 0⟩
def promoting (h : Head) : State :=
  (sets [(BST_HCTRL_STATE, 2, 0, 0)] (strmOn0 { heads := 1, posts := [shownPost], sels := [shownSel] } 266000000)).setHead 0 h
theorem meets_StreamCommands_promote : ((promoting shownHead).strm 0).promF ≠ some ((promoting shownHead).lclock 0).frame ∧
    (promoting shownHead).reached 0 (((promoting shownHead).lclock 0).frame, ((promoting shownHead).head 0).scan.vactive, 0) = true ∧
    (promoting shownHead).shownWhole ((promoting shownHead).strm 0) 0 = true ∧
    ((promoting shownHead).strm 0).posts.find? (fun q => q.layer == 0 && q.frame == 0) = some shownPost ∧
    ((promoting shownHead).strm 0).sels.find? (fun x => x.frame == 0 && x.band == 0) = some shownSel ∧
    (promoting {}).shownWhole ((promoting {}).strm 0) 0 = false := by decide +kernel
def posting (m : List Host.Cell) (x : Strm := {}) : State := { strmOn0 { x with nslots := 2, istride := 64, ibase := 4096 } with mem := m }
theorem meets_InputPosts : (posting []).gth.held = false ∧ (posting []).strmState 0 = 2 ∧ (posting []).trained = true ∧
    ((posting []).strm 0).nslots ≤ (2 : BitVec 16).toNat ∧ (1 : BitVec 16).toNat < ((posting []).strm 0).nslots ∧
    ((posting []).strm 0).busy.get false 1 = false ∧ ((posting [] { busy := [(1, true)] }).strm 0).busy.get false 1 = true ∧
    ((posting []).strm 0).lastStamp = none ∧ ((posting []).strm 0).lastSeq = none ∧
    ((posting [] { lastStamp := some 0 }).strm 0).lastStamp = some 0 ∧
    ((posting []).convert 1 1 0).1 = 0 ∧ (0 : Int) ≤ (posting []).tb16 1 + 0 ∧
    (posting [(4096 + 128 + 64 + 8, 1)]).lpNat (4096 + 128 + 64 + 8) 8 = 1 ∧
    ((posting []).tb16 1 : Int) + ((posting []).strm 0).xlimit * 16 < ((posting []).convert 1 1 16000000000).1 := by decide +kernel
/-- Slot 1 was posted in this tick already, and slot 0 is posted now. -/
def postedOne : State := nextOf (exec (.inputPost 0 1) (posting [(4096 + 128 + 64 + 8, 1)]))
theorem meets_InputPosts_one_tick : (posting []).postsNow 0 = (⟨1, (posting []).ring 0, (posting []).ring 0, 0, 0, (posting []).rd .PLT_STRM_STAT 0, []⟩ : PostTick) ∧
    (postedOne.postsNow 0).posts.all (fun q => q.1 ≤ 0) = false ∧ postedOne.strmState 0 = 2 ∧ postedOne.trained = true := by decide +kernel
def aliased (x : Strm) : State := strmOn0 x
theorem meets_AliasReads : (aliased {}).aliasResolve 0 (readerAs .core) = .zero ∧
    (aliased {}).aliasResolve 0 (readerAs (.prog 0 0 0)) = .wait ∧
    (aliased { sels := [shownSel] }).aliasResolve 0 (readerAs .core) = .sel shownSel ∧
    (aliased { plotA := 3 }).aliasResolve 0 (readerAs (.prog 0 0 0)) = .miss ∧ (∃ t, exec (.aliasRead 0 0xFFFFFFC0 64 .core) State.reset = .next t) :=
  ⟨by decide +kernel, by decide +kernel, by decide +kernel, by decide +kernel, _, rfl⟩
def headIs (st : Nat) (h : Head) (units : Nat := 0) : State :=
  (clockAt units (sets [(BST_HCTRL_STATE, st, 0, 0), (ARC_CFG_TRAINED, 1, 0, 0)])).setHead 0 h
def commitSet : State := sets [(BST_COMMIT_COMMIT, 1, 0, 0)] (headIs 2 {} 266000000)
def badShadow (s : State) : State := sets [(BST_HTIM_HACTIVE, 0, 0, 0)] s
theorem meets_HeadSwitchingAndCommits : State.reset.fnState (.head 0) = 0 ∧
    (let u := ((badShadow State.reset).setFnEn (.head 0) true).setFnState (.head 0) 1; u.headCheck 0 (u.headShadows 0)) ≠ 0 ∧
    (headIs 1 {}).headState 0 = 1 ∧ (headIs 2 {}).fnState (.head 0) = 2 ∧ (headIs 2 {}).headState 0 ≠ 0 ∧
    bit ((headIs 2 {}).fld BST_COMMIT_COMMIT) 0 = false ∧ commitSet.commitDue 0 = true ∧
    ((badShadow commitSet).setFld BST_COMMIT_COMMIT 0).headCheck 0 ((badShadow commitSet).headShadows 0) ≠ 0 ∧
    (badShadow commitSet).commitDue 0 = true ∧
    (headIs 2 {}).headPaced 0 = false ∧ (headIs 2 {}).frameWaits 0 = true ∧ (headIs 2 {}).bandDueNow 0 = true := by decide +kernel
def vrrHead : State := headIs 2 { cfg := { vrr := true }, scan := { vrr := true }, running := true } 800000000
theorem meets_HeadSwitchingAndCommits_vrr : vrrHead.headPaced 0 = true ∧ vrrHead.headState 0 = 2 ∧ (vrrHead.lclock 0).live = true ∧
    (vrrHead.head 0).running = true ∧ vrrHead.vrrDue 0 = true := by decide +kernel
def upHead (h : Head) : State := sets [(BST_HSTAT_LINKUP, 1, 0, 0)] (headIs 2 h)
def trainHead (o p : Bool) : State := headIs 2 { training := true, hpd := p, outage := o }
theorem meets_HeadLinks : (upHead {}).on BST_HSTAT_LINKUP 0 = true ∧ (headIs 2 {}).headState 0 = 2 ∧ ((headIs 2 {}).head 0).cfg.dp = true ∧
    (headIs 2 {}).on BST_HSTAT_LINKUP 0 = false ∧ (trainHead false true).trainDue 0 = true ∧ (trainHead false true).headState 0 = 2 ∧
    ((trainHead false true).head 0).hpd = true ∧ ((trainHead true false).head 0).outage = true ∧ (trainHead true false).trainDue 0 = true ∧
    ((trainHead false true).head 0).outage = false ∧
    ((headIs 2 { pushDone := some (4, 7) }).head 0).pushDone = some (4, 7) ∧
    (sets [(BST_PC_CFG_PC_EN, 1, 0, 0)] (headIs 2 { pushDone := some (4, 7) })).on BST_PC_CFG_PC_EN 0 = true := by decide +kernel
theorem meets_HeadLinks_short : (({ pushDone := some (4, 7), shorts := [4] } : Head)).shorts.contains 4 = true ∧
    (headIs 1 { cfg := { output := 0 } }).headState 0 = 1 ∧
    ¬ (((headIs 2 { pushDone := some (4, 7) }).head 0).shorts.contains 4 = true) ∧ ((headIs 2 { pushDone := some (4, 7) }).head 0).running = false := by
  decide +kernel
def overlay : HeadSet := { layers := [{}, {}, {}, { en := true, stat := true, addr := 4096 }] }
def scanning : State := headIs 2 { running := true, cfg := overlay, scan := overlay }
def pushHead (h : Head) (units : Nat := 0) : State := headIs 2 { h with running := true, cfg := { output := 1 }, scan := { output := 1 } } units
def region : RegionQ := ⟨0, 0, 0, 0, 0, {}, 0, 0, []⟩
def aSecond (s : State) : State := s.setTbase 0 { val := 2 ^ 63 }
theorem meets_HeadFetchAndPush : (headIs 2 { dueB := 1 }).fetchDue 0 = true ∧ scanning.underrunNow 0 3 = true ∧ scanning.belowCrit 0 = true ∧
    (∀ m < 4, State.reset.belowCrit m = false) ∧ (pushHead {} 266000000).rowComposed 0 = true ∧
    ((pushHead { queue := [region] }).head 0).queue ≠ [] ∧ (pushHead {}).trained = true ∧
    (sets [(ETH_PORT_CFG_STATE, 2, 0, 0), (ETH_PORT_CFG_LINK, 1, 0, 0)] (pushHead { queue := [region] })).regionCanLeave 0 = true ∧
    (pushHead { queue := [region], rowsAll := 3 }).overdueRegions 0 ≠ [] ∧
    (aSecond (pushHead {})).keepaliveDue 0 = true ∧ (aSecond (pushHead {})).on BST_HSTAT_DUSK 0 = false ∧
    ((aSecond (pushHead {})).pushPacket 0 (setFor ((aSecond (pushHead {})).head 0) 0) ((aSecond (pushHead {})).frameStamp 0)
      ((aSecond (pushHead {})).lclock 0).base 3 0 0xFFFF 0xFFFF 0 0 1 1 []).on BST_HSTAT_DUSK 0 = false := by decide +kernel

/-! Zhevlink and the group. -/

/-- Link 0 up to chip 1; a group of chips 0 and 1, this one chip 0. -/
def linked (g : Zhevlink := {}) : State :=
  { sets [(ZHL_LNK_CTRL_STATE, 2, 0, 0), (ZHL_LNK_CTRL_LSTATE, 2, 0, 0), (ZHL_LNK_CTRL_NBR_CHIP, 1, 0, 0), (ZHL_ROUTE_PV, 1, 1, 0),
      (ARC_CFG_TRAINED, 1, 0, 0)]
    with zhl := { g with gid := 5, members := 3 } }
def hdr : ZHdr := ⟨0, 1, 0, 4, 0, 9⟩
def training : State := sets [(ZHL_LNK_CTRL_STATE, 1, 0, 0), (ZHL_LNK_CTRL_LSTATE, 1, 0, 0)]
theorem meets_LinkTraining : State.reset.fnState (.link 0) = 0 ∧ (linked).fnState (.link 0) = 2 ∧
    training.fld ZHL_LNK_CTRL_LSTATE 0 = 1 ∧ training.quadOn 0 = true ∧
    training.trainReason 0 [0, 1, 2, 3] 1 0 1 0 false = 0 ∧
    training.trainReason 0 [0, 1, 2] 1 0 1 0 false = 1 ∧
    ((State.reset.setZlink 0 { failed := true, failAt := some 0 }).zlink 0).failed = true ∧ (State.reset.zlink 0).failed = false ∧
    ((State.reset.setZlink 0 { failed := true, failAt := some 0 }).zlink 0).failAt = some 0 ∧ linked.linkUp 0 = true ∧
    ((later linked).zlink 0).helloAt + 5000 ≤ (later linked).tick := by decide +kernel
theorem meets_LinkErrors : linked.fld ZHL_LNK_CTRL_LSTATE 0 = 2 ∧ ((later linked).zlink 0).lastRx + 25000 ≤ (later linked).tick ∧
    linked.linkUp 0 = true ∧ (2 : Fin 5).val ≠ linked.fld ZHL_LNK_CTRL_SPARE 0 ∧ (linked.zlink 0).swap = none ∧
    (sets [(ZHL_LNK_CTRL_SPARE_USED, 1, 0, 0)] linked).on ZHL_LNK_CTRL_SPARE_USED 0 = true ∧ linked.on ZHL_LNK_CTRL_SPARE_USED 0 = false ∧
    ((linked.setZlink 0 { swap := some 2 }).zlink 0).swap = some 2 ∧
    ((linked.setZlink 0 { nakRun := 15, nakAt := 7 }).zlink 0).nakRun + 1 = 16 ∧ (0 : Fin 3) ≠ 2 := by decide +kernel
def zh : ZHalo := ⟨1, 0, 0, 0, 0, 0, 1, 0⟩
theorem meets_HaloCommands : linked.zHere hdr .haloReq = true ∧ (linked.zTaken hdr .haloReq).zhl.halos.length < 512 ∧
    512 ≤ (({ linked with zhl := { linked.zhl with halos := List.replicate 512 zh } }).zTaken hdr .haloReq).zhl.halos.length ∧
    linked.zHere hdr .haloBusy = true ∧ linked.zHere hdr .haloData = true ∧ linked.zHere hdr .haloRefused = true ∧
    linked.zHere hdr .haloAck = true ∧
    (({ linked with zhl := { linked.zhl with haloRetry := [(3, 1)] } } : State).zhl.haloRetry.get 0 3) = 1 := by decide +kernel
def haloSent : State :=
  { (linked.setSlot 0 0 { ctx := 1 }).setProg 0 { cmds := [{ pc := 0, words := haloW, step := 0, seq := 0, phase := .fired, remote := true }] } with tick := 600 }
theorem meets_HaloCommands_data : haloSent.zHere hdr .haloData = true ∧
    (haloSent.zTaken hdr .haloData).haloCmd 0 = some { pc := 0, words := haloW, step := 0, seq := 0, phase := .fired, remote := true } ∧
    (haloSent.zTaken hdr .haloRefused).haloCmd 0 = some { pc := 0, words := haloW, step := 0, seq := 0, phase := .fired, remote := true } ∧
    1 + 499 ≤ haloSent.tick := by decide +kernel
/-- A HALO_REQ with two tags and a HALO_DATA of 600 bytes; a HALO whose bank has been wiped since its request, and one whose has not. -/
def haloTagged (t : Nat) : Cmd := { pc := 0, words := haloW, step := 0, seq := 0, phase := .fired, remote := true, tags := [(5, t)] }
theorem meets_HaloCommands_frames : zcount (List.replicate (6 + 2) 0) [] = 1 ∧ zcount [0, 0, 0, 0] (List.replicate 600 0) = 2 ∧
    haloSent.zHere hdr .haloData 2 = true ∧ (haloSent.zTaken hdr .haloData 2).haloCmd 0 = (haloSent.zTaken hdr .haloData).haloCmd 0 ∧
    haloSent.haloTagOk (haloTagged 0) 0 = true ∧ haloSent.haloTagOk (haloTagged 0) 1 = false := by decide +kernel
/-- Slot 0 of a channel of plot 0 stands FULL with step 0. -/
def producer : State :=
  let s := (linked.setPlot 0 { stages := 1 }).setProg 0 { tds := [(0, [op 0x10 3 [(2, 46), (11, 42), (1, 16)], 0, 4, 0, 0])] }
  { s.setFull 0 true with zhl := { s.zhl with halos := [zh] } }
theorem meets_HaloCommands_answer : producer.zhl.halos.find? producer.haloReady = some zh := by decide +kernel
def cross (st : Nat) (s : State) : State := sets [(ZHL_XCUT_XCUT, 128, 0, 0), (ZHL_GRP_STAT_GSTATE, st, 0, 0)] s
def proxyWaits : State := linked.setProg 0 { wait := .remote 7 2 none }
theorem meets_RemoteWickets : (cross 2 linked).zHere hdr .wsig = true ∧ ((cross 2 linked).zTaken hdr .wsig).frozen 7 = true ∧
    ((cross 1 linked).zTaken hdr .wsig).frozen 7 = false ∧ ((cross 1 linked).zTaken hdr .wsig).xcut 7 = true ∧
    (linked.zTaken hdr .wsig).xcut 7 = false ∧ (linked.zTaken hdr .wsig).frozen 7 = false ∧ (cross 1 linked).zHere hdr .wsig = true ∧
    linked.zHere hdr .waitReq = true ∧ (linked.zTaken hdr .waitReq).xcut 7 = false ∧
    ((cross 1 linked).zTaken hdr .waitReq).xcut 7 = true ∧ (((cross 1 linked).zTaken hdr .waitReq).wkt 7).rwait = none ∧
    ((cross 1 linked).zTaken hdr .waitReq).fld PTR_WKT_WKIND 7 = 0 ∧ linked.zHere hdr .waitCancel = true ∧
    (((linked.setWkt 7 { rwait := some (1, 3, 2) }).zTaken hdr .waitCancel).wkt 7).rwait = some (1, 3, 2) ∧
    proxyWaits.zHere hdr .waitDone = true ∧ (proxyWaits.zTaken hdr .waitDone).frozen 7 = false ∧
    (proxyWaits.zTaken hdr .waitDone).waiterOn 7 = some (0, proxyWaits.prog 0) := by decide +kernel
def fence0 : ZFence := { origin := 1, id := 4, up := 1, waiting := [0] }
theorem meets_RemoteWickets_fence : linked.linkUp 0 = true ∧
    (({ linked with zhl := { linked.zhl with fences := [fence0] } }).zarrive 0).zhl.fences.find?
      (fun f => f.origin == 1 && f.id == 4 && f.waiting.contains 0) = some fence0 := by decide +kernel
/-- Three members, of which this chip is the acting anchor; and one in which chip 1 is. -/
def three (s : State) : State := { s with zhl := { s.zhl with members := 7 } }
def mate : State :=
  { sets [(ZHL_GRP_STAT_REACH, 3, 0, 0)] linked with zhl := { linked.zhl with chip := 1, aauto := true, members := 3 }, tick := 10000000 }
def hdr1 : ZHdr := { hdr with src := 0, dst := 1 }
theorem meets_GroupBarrierAndTime : (three linked).zHere hdr .arrive = true ∧
    ((three linked).zTaken hdr .arrive).actingAnchor = ((three linked).zTaken hdr .arrive).zhl.chip ∧
    2 ∈ maskBits ((three linked).zTaken hdr .arrive).zhl.members ∧ (2 : Nat) ≠ hdr.src.val ∧
    (((three linked).zTaken hdr .arrive).zhl.arrivals.get [] 7) = [] ∧
    linked.zHere hdr .release = true ∧ (((linked.setWkt 7 { released := true }).zTaken hdr .release).wkt 7).released = true ∧
    (linked.zTaken hdr .release).gbarTime 0 ≤ (5 : Int) ∧
    (0 : Int) < (((linked.setWkt 7 { released := true }).setTbase 6 { val := 2 ^ 40 }).zTaken hdr .release).gbarTime 0 ∧
    mate.servoOn = true ∧ mate.zhl.tsAt + 500000 ≤ mate.tick ∧ linked.zHere hdr .tsync = true ∧
    (linked.zTaken hdr .tsync).actingAnchor = (linked.zTaken hdr .tsync).zhl.chip ∧ mate.zHere hdr1 .tsync = true ∧
    (mate.zTaken hdr1 .tsync).servoOn = true := by decide +kernel
def kept : State := { linked with zhl := { linked.zhl with rels := [(7, some (0, 0))] } }
theorem meets_GroupBarrierAndTime_kept : kept.zhl.rels.get none (7 : BitVec 17).toNat = some (0, 0) ∧ (0 : Int) ≤ kept.gbarTime 0 := by
  decide +kernel
theorem meets_GroupBarrierAndTime_island : ((sets [(ZHL_GRP_STAT_GSTATE, 2, 0, 0)] linked).setWkt 7 { released := true }).islanded = true ∧
    (sets [(ZHL_GRP_STAT_GSTATE, 2, 0, 0)] linked).zHere hdr .release = true ∧ kept.islanded = false ∧
    (sets [(ZHL_GRP_STAT_GSTATE, 2, 0, 0)] kept).islanded = true := by decide +kernel
def gst (n : Nat) (s : State) : State := sets [(ZHL_GRP_STAT_GSTATE, n, 0, 0)] s
def cutAway : State := later (gst 1 { linked with zhl := { linked.zhl with unreachAt := [(1, 1)] } })
def cutMinor : State := { cutAway with zhl := { cutAway.zhl with members := 7, unreachAt := [(1, 1), (2, 1)] } }
def nearGroup : State := gst 2 { mate with zhl := { mate.zhl with group := 1 } }
def stable : State := { gst 2 linked with zhl := { linked.zhl with stableAt := some 0, autoRj := true }, tick := 500000000 }
theorem meets_GroupMembership : ({ linked with zhl := { linked.zhl with cfgDue := true } } : State).zhl.cfgDue = true ∧
    cutAway.gstate = 1 ∧ cutAway.cutOffs ≠ [] ∧ cutAway.keepsCanvas = true ∧ cutMinor.gstate = 1 ∧ cutMinor.cutOffs ≠ [] ∧
    cutMinor.keepsCanvas = false ∧ nearGroup.gstate = 2 ∧ nearGroup.groupAnchor.isSome = true ∧ stable.zhl.stableAt = some 0 ∧
    0 + 500000000 ≤ stable.tick ∧ stable.gstate = 2 ∧ stable.zhl.autoRj = true ∧ stable.zhl.rjAt = none := by decide +kernel
def anchorIs (mode : Nat) : State := (gst 1 linked).setLclock 0 { mode := mode }
def asked (c : Nat) : State := { linked with zhl := { linked.zhl with rjAt := some 0, chip := c } }
def rejoining : State := let s := clockAt 0 (gst 3 linked); { s with zhl := { s.zhl with rjMask := 1, grants := [(0, 1)] } }
def forming : State := gst 2 { linked with zhl := { linked.zhl with formDue := true } }
theorem meets_GroupMembership_rejoin : (anchorIs 3).zHere hdr .rejoinReq = true ∧ ((anchorIs 3).zTaken hdr .rejoinReq).gstate = 1 ∧
    ((anchorIs 3).zTaken hdr .rejoinReq).actingAnchor = ((anchorIs 3).zTaken hdr .rejoinReq).zhl.chip ∧
    (((anchorIs 3).zTaken hdr .rejoinReq).lclock ((anchorIs 3).zTaken hdr .rejoinReq).zhl.lc).mode = 3 ∧
    (asked 0).zHere hdr .rejoinGrant = true ∧ (0 : Fin 32).val = ((asked 0).zTaken hdr .rejoinGrant).zhl.chip ∧
    ((asked 0).zTaken hdr .rejoinGrant).zhl.rjAt.isSome = true ∧ (1 : BitVec 8) ≠ 0 ∧
    (2 : Fin 32).val ≠ ((asked 0).zTaken hdr .rejoinGrant).zhl.chip ∧ (later (asked 0)).zhl.rjAt = some 0 ∧
    0 + 5000000 ≤ (later (asked 0)).tick ∧ rejoining.rejoinDue = true ∧ forming.formationDue = true := by decide +kernel

/-! The Lodge. -/

def busyDma (k : Option Nat) : State :=
  { (sets [(LDG_HANG_CFG_HANG_WIN, 1, 0, 0)]).setDma 0 { cur := some [] } with
    tick := 10000, ldg := { State.reset.ldg with k0At := k } }
def stallState : State := { sets [(LDG_HANG_CFG_PLOT_WIN, 1, 0, 0)] live with tick := 10000 }
def rec0 : Recov := ⟨0, 32, [], none, [], false⟩
def replaying (l : Lodge) : State := { State.reset with ldg := l, tick := 10 }
def lastOut : State :=
  (State.reset.setEng 0 { cur := some { belReq none with ctx := 3 } })
def rec256 : Recov := ⟨256, 32, [], some 3, [], false⟩
theorem meets_HangsAndReplays : (busyDma (some 0)).hungNow 768 = true ∧ (busyDma (some 0)).recovering 768 = false ∧
    (((busyDma (some 0)).alarm 0x58 0x0901).setFld LDG_STAT_ENGINE 768).keeperRuns = true ∧
    (((busyDma none).alarm 0x58 0x0901).setFld LDG_STAT_ENGINE 768).keeperRuns = false ∧ (busyDma none).hungNow 768 = true ∧
    stallState.stalled 0 = true ∧ stallState.recovering (1024 + 0) = false ∧
    (replaying { recs := [rec0] }).ldg.recs.find? (fun (r : Recov) => r.engine == 0) = some rec0 ∧
    (replaying { recs := [rec0] }).replayReady rec0 = true ∧ ((replaying { recs := [rec0] }).replayNext rec0).2 = false ∧
    (replaying { recs := [rec0], innocent := [(0, 5)] }).replayReady rec0 = true ∧
    ((replaying { recs := [rec0], innocent := [(0, 5)] }).replayNext rec0).2 = true ∧
    ({ lastOut with ldg := { lastOut.ldg with recs := [rec256] } } : State).watchdogOut rec256 = true := by decide +kernel
def wanting (w : List (Nat × Nat)) (l : List (Nat × Nat × Nat)) : State :=
  { State.reset with ldg := { State.reset.ldg with want := w, lvl := l }, tick := 2000000 }
theorem meets_ResetLevels : (wanting [(2, 5)] []).mayBegin 2 5 = true ∧ (wanting [] [(2, 5, 0)]).running2 2 5 = true ∧
    (headIs 2 { faulted := true } 266000000).headResetDue 0 = true ∧ (wanting [(3, 4)] []).mayBegin 3 4 = true ∧
    (wanting [(3, 4)] []).ldg.l3At.get 0 4 = 0 ∧ (wanting [] [(3, 4, 0)]).running2 3 4 = true ∧ (wanting [(4, 0)] []).mayBegin 4 0 = true ∧
    (wanting [(4, 0)] []).ldg.l4At = 0 ∧ (wanting [] [(4, 0, 0)]).running2 4 0 = true ∧
    (wanting [] [(2, 5, 0)]).ldg.lvl.find? (fun x => x.1 == 2 && decide (x.2.2 + lvlBound 2 * 500 ≤ 2000000)) = some (2, 5, 0) ∧
    (List.range 1024).find? (fun c => (draining.ctx c).tearStep == 2 && decide ((draining.ctx c).drainAt + 4000 ≤ draining.tick)) = some 5 := by
  decide +kernel
def keepers (a b : Option Nat) (t : Nat) : State := { State.reset with ldg := { State.reset.ldg with k0At := a, k1At := b }, tick := t }
def handing (d : Bool) : State := { sets [(LDG_FW_CTRL_STATE, 2, 0, 0)] with ldg := { State.reset.ldg with fwDue := d } }
def dump0 : Dump := ⟨5, 0xFFFFFFFF, 0, false, [], [0]⟩
theorem meets_SparingKeepersDumps : (155 : BitVec 8).toNat < 156 ∧ State.reset.retired 155 = false ∧
    State.reset.ldg.retiring.contains 155 = false ∧
    ({ State.reset with ldg := { State.reset.ldg with retiring := [3] } } : State).mapReady 3 = true ∧
    (keepers (some 0) (some 400000) 500000).keeperMissed 0 = true ∧
    (sets [(LDG_KEEP_SCHED_WIN, 1, 0, 0)] (keepers (some 0) none 500000)).fld LDG_KEEP_SCHED_WIN ≠ 0 ∧
    (sets [(LDG_KEEP_SCHED_WIN, 1, 0, 0)] (keepers (some 0) none 500000)).keeperRuns = true ∧
    0 + 1 * 1000 * 500 ≤ (keepers (some 0) none 500000).tick ∧ (keepers (some 0) (some 0) 5000000).ldg.k1At = some 0 ∧
    0 + 5000000 ≤ (keepers (some 0) (some 0) 5000000).tick ∧ State.reset.fld LDG_FW_CTRL_STATE = 0 ∧
    (sets [(LDG_FW_CTRL_STATE, 2, 0, 0)]).fld LDG_FW_CTRL_STATE = 2 ∧
    (handing true).ldg.fwDue = true ∧ 2 ≤ (handing true).fld LDG_FW_CTRL_STATE ∧
    bit ((sets [(LDG_DUMP_CFG_TRIG, 16, 0, 0)]).fld LDG_DUMP_CFG_TRIG) 4 = true ∧ State.reset.ldg.dump = none ∧
    ({ State.reset with ldg := { State.reset.ldg with dump := some dump0, fwDue := true } } : State).ldg.dump = some dump0 := by decide +kernel

/-! Resets and the Gatehouse. -/

theorem meets_ResetsAndBootStart : heldState.gth.held = true ∧ heldState.gth.lowRail = false ∧
    (nextOf (exec .powerLoss State.reset)).gth.held = true ∧ (nextOf (exec .powerLoss State.reset)).gth.lowRail = true ∧
    (nextOf (exec (.supplyDetector none) State.reset)).gth.lowRail = true ∧
    (nextOf (exec (.supplyDetector none) State.reset)).gth.porst = true ∧ (nextOf (exec .powerLoss State.reset)).gth.porst = false := by
  decide +kernel
def opening : State :=
  { sets [(GTH_MBOX_STAT_PHASE, 1, 0, 0), (GTH_STAT_RECOVERY, 1, 0, 0)] with
    gth := { State.reset.gth with phase := 1 }, pci := { State.reset.pci with up := true, perst := false } }
def sealed0 : Sealed := ⟨4096, 64, 1, 0, false⟩
def decrypting (p : Option (List Byte)) : State :=
  { State.reset with gth := { State.reset.gth with decr := some ⟨1, 0, 4096, p, 64⟩, sealed := [(0, some sealed0)] } }
theorem meets_BootDelivery : opening.pci.up = true ∧ opening.pci.perst = false ∧ opening.fld GTH_MBOX_STAT_PHASE 0 ≠ 0 ∧
    opening.passOpen 1 = true ∧ opening.on GTH_STAT_RECOVERY = true ∧ opening.passOpen 2 = true ∧ opening.gth.bufS.length = 0 ∧
    State.reset.on GTH_STAT_RECOVERY = false ∧ 2 ≤ (2 : Fin 16).val ∧
    (decrypting (some [])).gth.sealed.get none 0 = some sealed0 ∧ (decrypting none).gth.sealed.get none 0 = some sealed0 := by decide +kernel
def known : State := { State.reset with gth := { State.reset.gth with phase := 2, identKey := 7, agreeKey := 9 } }
theorem meets_MailboxCommands : known.gth.held = false ∧ known.gthTakes 1 = true ∧ known.gthTakes 0 = true ∧
    (known.gthGiven 1 (.quote [] 0)).gthAllowed 1 0 (.quote [] 0) = true ∧ (known.gthGiven 1 (.quote [] 0)).hasIdent = true ∧
    known.gth.identKey ≠ 0 ∧ (known.gthGiven 1 .identity).gthAllowed 1 0 .identity = true ∧
    (known.gthGiven 1 (.extend 4 [])).gthAllowed 1 1 (.extend 4 []) = true ∧
    (known.gthGiven 1 (.modelKey 1 [])).gthAllowed 1 9 (.modelKey 1 []) = true ∧
    (known.gthGiven 1 (.decrypt 0 0 0 64 [] [] [])).gthAllowed 1 9 (.decrypt 0 0 0 64 [] [] []) = true ∧
    (known.gthGiven 1 (.unseal 1)).gthAllowed 1 9 (.unseal 1) = true ∧ (known.gthGiven 0 (.lcAdvance 1 [])).gthAllowed 0 0 (.lcAdvance 1 []) = true ∧
    (known.gthGiven 0 .challenge).gthAllowed 0 0 .challenge = true ∧ (known.gthGiven 0 (.unlock 1 [])).gthAllowed 0 0 (.unlock 1 []) = true ∧
    (known.gthGiven 1 (.rollback 3)).gthAllowed 1 1 (.rollback 3) = true ∧ (known.gthGiven 1 .verify).gthAllowed 1 1 .verify = true ∧
    ((sets [(ARC_CFG_TRAINED, 1, 0, 0)] known).gthGiven 1 (.copy [])).gthAllowed 1 0 (.copy []) = true ∧
    (sets [(GTH_MBOX_STAT_BUSY, 1, 0, 0)] known).on GTH_MBOX_STAT_BUSY 0 = true ∧ known.gth.waiting = [] := by decide +kernel

/-! The host. -/

def hostOn (s : State) : State := { s with pci := { s.pci with up := true, released := true } }
/-- DMA channel 0 ON with a ring of 16 in LPDDR at 0, TAIL 1, its window and context; the descriptor in the ring. -/
def dmaOn (bs : List Byte) : State :=
  hostOn { (sets [(PCI_DMA_CTRL_STATE, 2, 0, 0), (PCI_DMA_PTR_TAIL, 1, 0, 0), (ARC_CFG_TRAINED, 1, 0, 0), (PTR_CTX_CTRL_STATE, 1, 1, 0)]).setDma 0
    { rloc := 1, ctx := 1, wlo := 0, whi := 2 ^ 30 } with mem := writeRun [] 0 bs }
/-- A descriptor of 4 bytes from SRC 4096 to DST 8192. -/
def descOf (dir : Byte) : List Byte :=
  [dir, 0, 0, 0, 4, 0, 0, 0] ++ List.replicate 8 0 ++ [0, 16, 0, 0, 0, 0, 0, 0] ++ [0, 32, 0, 0, 0, 0, 0, 0] ++ List.replicate 32 0
def ringDesc (s : State) : Desc := parseDesc (s.lpRead ((s.dma 0).ring + s.fld PCI_DMA_PTR_HEAD 0 * 64) 64).1
theorem meets_DmaChannels : State.reset.fnState (.dma 0) = 0 ∧ (sets [(PCI_DMA_CTRL_STATE, 1, 0, 0)]).fld PCI_DMA_CTRL_STATE 0 = 1 ∧
    (dmaOn []).dmaWaits 0 = true ∧ (dmaOn []).dmaCheck 0 (ringDesc (dmaOn [])) ≠ 0 ∧
    (dmaOn (descOf 0)).dmaWaits 0 = true ∧ (dmaOn (descOf 0)).dmaCheck 0 (ringDesc (dmaOn (descOf 0))) = 0 ∧
    (ringDesc (dmaOn (descOf 0))).dir = 0 ∧ (ringDesc (dmaOn (descOf 0))).len * (ringDesc (dmaOn (descOf 0))).lines ≤ [1, 2, 3, 4].length ∧
    (dmaOn (descOf 1)).dmaWaits 0 = true ∧ (dmaOn (descOf 1)).dmaCheck 0 (ringDesc (dmaOn (descOf 1))) = 0 ∧
    (ringDesc (dmaOn (descOf 1))).dir ≠ 0 ∧ ((State.reset.setDma 0 { cur := some [] }).dma 0).cur.isSome = true ∧
    (hostOn State.reset).pci.up = true := by decide +kernel
def vf0 (s : State) : State := { s with pci := { s.pci with vfOn := [(0, true)] } }
def belled (a : Nat) : State := (sets [(SPT_CFG_DBACT, a, 0, 0)]).setSpt 0 { bells := [7] }
theorem meets_SpoutPorts : (hostOn served).hostUp = true ∧ (hostOn served).owns .pf0 0 = true ∧ (hostOn served).trained = true ∧
    ([1] : List Byte) ≠ [] ∧ (0x3FEFFF : BitVec 22).toNat + [1].length ≤ 0x3FF000 ∧ (0x3FEFFF : BitVec 22).toNat < 0x3FF000 ∧
    (vf0 (hostOn served)).owns (.vf 0) 0 = true ∧ (vf0 (hostOn served)).owns .pf0 0 = false ∧ (vf0 (hostOn served)).hostUp = true ∧
    ((belled 1).spt 0).bells = 7 :: [] ∧ (belled 1).arc.waits = [] ∧ (belled 0).arc.waits = [] ∧ ((belled 1).setSpt 0 { (belled 1).spt 0 with bells := [] }).fld SPT_CFG_DBACT 0 = 1 ∧
    ((belled 0).setSpt 0 { (belled 0).spt 0 with bells := [] }).fld SPT_CFG_DBACT 0 = 0 := by decide +kernel
def opening0 : State := { State.reset with pci := { State.reset.pci with perst := false } }
def pendingVec : State := { State.reset with pci := { State.reset.pci with pba := State.reset.pci.pba.set false (1024 + 63) true } }
/-- What BAR4 and a core reach: LPDDR, Gatehouse space, registers, no target; LPDDR that is poisoned. -/
def bar4To (ofs : Nat) : State := sets [(PCI_BAR4_OFS_OFS, ofs, 0, 0)] (hostOn served)
theorem meets_EndpointAndTray_memory : (bar4To 0).region (0 * 2 ^ 28 + (5 : BitVec 36).toNat) = .lpddr 5 ∧ (bar4To 0).trained = true ∧
    (bar4To (gthBase / 2 ^ 28)).region (gthBase / 2 ^ 28 * 2 ^ 28) = .gth ∧ (bar4To (regBase / 2 ^ 28)).region (regBase / 2 ^ 28 * 2 ^ 28 + 5) = .regs 5 ∧
    (bar4To 0).region (2 ^ 47) = .unmapped ∧ (bar4To 0).poisoned 5 1 = false ∧
    ({ bar4To 0 with poison := [(0, true)] } : State).poisoned 5 1 = true ∧ served.coreUp 0 = true ∧ served.region (5 : BitVec 48).toNat = .lpddr 5 := by
  decide +kernel
def unreadOf (l : List Nat) : State :=
  { State.reset with gzb := { State.reset.gzb with unread := l.map (fun i => (i, true)) } }
def shownEntry (s : State) : State := { s with gzb := { s.gzb with unread := s.gzb.unread.set false s.tray.almSel false } }
theorem meets_EndpointAndTray : opening0.pci.perst = false ∧ opening0.pci.up = false ∧ (63 : BitVec 10).toNat < 64 ∧
    pendingVec.pci.pba.get false (1024 * (1 + 0) + 63) = true ∧ (hostOn served).hostUp = true ∧
    (hostOn served).region ((hostOn served).fld PCI_BAR4_OFS_OFS * 2 ^ 28 + 5) = .lpddr 5 ∧ (hostOn served).trained = true ∧
    State.reset.on GTH_STAT_RECOVERY = false ∧ (sets [(GTH_STAT_RECOVERY, 1, 0, 0)]).on GTH_STAT_RECOVERY = true ∧
    (shownEntry (unreadOf [0, 9])).gzb.unread.any (fun x => x.2) = true ∧ (shownEntry (unreadOf [0])).gzb.unread.any (fun x => x.2) = false ∧
    (unreadOf [9]).gzb.unread.any (fun x => x.2) = true ∧ State.reset.gzb.unread.any (fun x => x.2) = false := by decide +kernel

/-! Ethernet. -/

def portOn (m : Nat) (t : Nat := 0) : State :=
  { (sets [(ETH_PORT_CFG_STATE, 2, 0, 0), (ETH_PORT_CFG_LINK, 1, 0, 0), (ETH_PORT_CFG_MODE, m, 0, 0)]).setEthPort 0 { upAt := some 0 } with tick := t }
def ringAt (o : Nat) (t : Nat) : State :=
  let s := sets [(ETH_RING_CFG_OWNER, 1, 0, 0), (ETH_RING_CFG_GUARD, 1, 0, 0), (ETH_RING_CFG_OPEN, o, 0, 0)]
  { s with tick := t, eth := { s.eth with runAt := some 0, backAt := t - 1500000 } }
theorem meets_EthernetPorts : State.reset.fnState (.port 0) = 0 ∧ (sets [(ETH_PORT_CFG_STATE, 1, 0, 0)]).fld ETH_PORT_CFG_STATE 0 = 1 ∧
    ((portOn 0 50000000).ethPort 0).upAt = some 0 ∧ (portOn 0 50000000).fld ETH_PORT_CFG_STATE 0 = 2 ∧
    (portOn 0 50000000).fld ETH_PORT_CFG_MODE 0 ≠ 1 ∧ (portOn 0 50000000).on ETH_PORT_CFG_BYP_OFF 0 = false ∧
    0 + 50000000 ≤ (portOn 0 50000000).tick ∧ (portOn 0).ethUp 0 = true ∧ (portOn 1).fld ETH_PORT_CFG_STATE 0 = 2 ∧
    bit ((portOn 1).fld ETH_PORT_CFG_LINK 0) 1 = false ∧ (ringAt 0 1500000).on ETH_RING_CFG_GUARD = true ∧
    (ringAt 0 1500000).eth.guardAt + 500000 ≤ (ringAt 0 1500000).tick ∧ (ringAt 0 1500000).guardLost = true ∧
    (ringAt 1 500000000).ringHealed = true ∧ (portOn 0).ethUp 0 = true ∧ (3 : BitVec 8).toNat ≠ (portOn 0).zhl.chip := by decide +kernel
def ptpAs (role : Nat) (x : PtpInst := {}) (t : Nat := 0) : State :=
  { (sets [(ETH_PTP_CFG_EN, 1, 1, 0), (ETH_PTP_CFG_ROLE, role, 1, 0)]).setPtpi 1 x with tick := t }
def sending : State := clockAt 0 (sets [(ETH_TX_CFG_STATE, 2, 0, 0), (ARC_CFG_TRAINED, 1, 0, 0)])
theorem meets_EthernetTraffic_frames : (portOn 0).ethUp 0 = true ∧ 9212 < (List.replicate 9213 (0 : Byte)).length := by decide +kernel
theorem meets_EthernetTraffic_ptp : (ptpAs 2 {} 500000000).ptpOn 1 = true ∧ (ptpAs 2 {} 500000000).ptpMaster 1 = true ∧
    ((ptpAs 2 {} 500000000).ptpi 1).syncAt + State.ptpTicks ((ptpAs 2 {} 500000000).fld ETH_PTP_CFG_SYNC 1) ≤ (ptpAs 2 {} 500000000).tick ∧
    (ptpAs 1 {} 500000000).ptpOn 1 = true ∧ (ptpAs 1 {} 500000000).ptpMaster 1 = false ∧ (ptpAs 1 {} 500000000).ptpSlave 1 = true ∧
    ((ptpAs 1 {} 500000000).ptpi 1).dreqAt + State.ptpTicks ((ptpAs 1 {} 500000000).fld ETH_PTP_CFG_DREQ 1) ≤ (ptpAs 1 {} 500000000).tick ∧
    ((ptpAs 1 { two := true, seq := 3 }).ptpi 1).two = true ∧ ((ptpAs 1 { two := true, seq := 3 }).ptpi 1).seq = (3 : BitVec 16).toNat ∧
    ((ptpAs 1).ptpi 1).gm = none ∧ (ptpAs 1 { annAt := some 0 } 2000000000).announceLate 1 = true := by decide +kernel
theorem meets_EthernetTraffic_p2p : ((sets [(ETH_RING_CFG_TC, 1, 0, 0)] (ptpAs 2 {} 500000000)).ptpSync 1).ptpP2p = true ∧
    (((sets [(ETH_RING_CFG_TC, 1, 0, 0)] (ptpAs 2 {} 500000000)).ptpSync 1).ptpi 1).dreqAt +
      State.ptpTicks (((sets [(ETH_RING_CFG_TC, 1, 0, 0)] (ptpAs 2 {} 500000000)).ptpSync 1).fld ETH_PTP_CFG_DREQ 1) ≤ 500000000 ∧
    ((sets [(ETH_RING_CFG_TC, 0, 0, 0)] (ptpAs 2 {} 500000000)).ptpSync 1).ptpP2p = false ∧ State.reset.restart = [] := by decide +kernel
theorem meets_EthernetTraffic_media : State.reset.fnState (.rx 0) = 0 ∧ (sets [(ETH_RX_CFG_STATE, 1, 0, 0)]).fld ETH_RX_CFG_STATE 0 = 1 ∧
    (sets [(ETH_RX_CFG_STATE, 2, 0, 0)] served).fld ETH_RX_CFG_STATE 0 = 2 ∧ (sets [(ETH_RX_CFG_STATE, 2, 0, 0)] served).trained = true ∧
    State.reset.fnState (.tx 0) = 0 ∧ (sets [(ETH_TX_CFG_STATE, 1, 0, 0)]).fld ETH_TX_CFG_STATE 0 = 1 ∧ sending.txDue 0 = true ∧
    sending.trained = true ∧ sending.fld ETH_TX_CFG_STATE 0 = 2 ∧ served.trained = true := by decide +kernel

/-! Arcade memory, power, Gazebo. -/

def arced (a : Arcade) (s : State := served) (t : Nat := 0) : State := { s with arc := a, tick := t }
theorem meets_ArcadeCommands : State.reset.arc.dens = false ∧ State.reset.trained = false ∧ (arced { dens := true } State.reset).arc.dens = true ∧
    (served.setTbase 0 { val := 78400 * 2 ^ 28 }).slotDue = true ∧ (arced {} served 500000).arc.pollAt + 500000 ≤ (arced {} served 500000).tick ∧
    (67 : Fin 72).val < 68 ∧ (sets [(ARC_ADMIT_CAP, 10, 0, 0)]).fld ARC_RESV_RATE 67 < (0xFFF : BitVec 12).toNat ∧
    (sets [(ARC_ADMIT_CAP, 10, 0, 0)]).fld ARC_ADMIT_CAP < (sets [(ARC_ADMIT_CAP, 10, 0, 0)]).admitTotal
      - (sets [(ARC_ADMIT_CAP, 10, 0, 0)]).fld ARC_RESV_RATE 67 + (0xFFF : BitVec 12).toNat ∧
    (0 : BitVec 12).toNat ≤ State.reset.fld ARC_RESV_RATE 0 ∧ 68 ≤ (68 : Fin 72).val ∧ State.reset.on ARC_STG_EN 1 = false ∧
    (List.range 32).filter (fun j => State.reset.on ARC_STG_EN j) = [] ∧ (State.reset.stgRange 1).2 ≤ 0x800000 ∧
    ((List.range 32).filter (fun j => (sets [(ARC_STG_EN, 1, 0, 0)]).on ARC_STG_EN j)).any (fun j =>
      hits ((sets [(ARC_STG_EN, 1, 0, 0)]).stgRange j).1 ((sets [(ARC_STG_EN, 1, 0, 0)]).stgRange j).2
        ((sets [(ARC_STG_EN, 1, 0, 0)]).stgRange 1).1 ((sets [(ARC_STG_EN, 1, 0, 0)]).stgRange 1).2) = true ∧
    (sets [(ARC_STG_EN, 1, 0, 0)]).on ARC_STG_EN 1 = false ∧ (sets [(ARC_STG_EN, 1, 0, 0)] served).on ARC_STG_EN 0 = true ∧
    State.reset.on ARC_FILL_CTRL_BUSY 0 = false ∧ (sets [(ARC_FILL_CTRL_BUSY, 1, 0, 0)] served).on ARC_FILL_CTRL_BUSY 0 = true := by
  decide +kernel
def cool (s : State) : State := sets [(PWR_THERM_CFG_T_EMERG, 100, 0, 0)] s
theorem meets_PowerCommands : (sets [(PWR_DOM_CTRL_OWNED, 1, 0, 0)]).on PWR_DOM_CTRL_OWNED 0 = true ∧
    (sets [(PWR_DOM_CTRL_OWNED, 0, 0, 0)]).on PWR_DOM_CTRL_OWNED 0 = false ∧ State.reset.retired 0 = false ∧ 156 ≤ (220 : Fin 221).val ∧
    (sets [(PWR_DOM_CTRL_OWNED, 0, 0, 0)]).fnState (.pwr 0) = 0 ∧ (sets [(PWR_DOM_CTRL_STATE, 1, 0, 0)]).fld PWR_DOM_CTRL_STATE 0 = 1 ∧
    (sets [(PWR_DOM_CTRL_STATE, 1, 0, 0)]).pwrTurn 0 = true ∧ (arced {} served 25000).arc.tempAt + 25000 ≤ (arced {} served 25000).tick ∧
    (arced { droop := true } (cool State.reset)).emergNow = true ∧ (arced { droop := true } (cool State.reset)).on PWR_STAT_EMERG = false ∧
    (cool State.reset).emergNow = false ∧ (arced { clearAt := some 0 } (sets [(PWR_STAT_EMERG, 1, 0, 0)]) 50000).arc.clearAt = some 0 ∧
    (arced { clearAt := some 0 } (sets [(PWR_STAT_EMERG, 1, 0, 0)]) 50000).on PWR_STAT_EMERG = true ∧
    0 + 50000 ≤ (arced { clearAt := some 0 } (sets [(PWR_STAT_EMERG, 1, 0, 0)]) 50000).tick := by decide +kernel
def raisedTwice : State :=
  let s := sets [(GZB_ALM_ENTRY_HI_COUNT, 5, 255, 0)]
  { s with gzb := { s.gzb with raised := [(255, 0, 2)] } }
theorem meets_GazeboCommands : 0xC0 ≤ (0xC0 : BitVec 8).toNat ∧ (sets [(GZB_ALM_STICKY_STICKY, 1, 6, 0)]).sticky 0xC0 = true ∧
    State.reset.sticky 0xC0 = false ∧ (∀ j < 32, State.reset.raisedNow (32 * 7 + j) = 0) ∧ 0 < raisedTwice.raisedNow 255 ∧
    raisedTwice.raisedNow 255 < raisedTwice.fld GZB_ALM_ENTRY_HI_COUNT 255 ∧ State.reset.fld GZB_LOG_RIDX_IDX ≤ (0 : BitVec 64).toNat ∧
    (0 : BitVec 64).toNat ≤ State.reset.fld GZB_LOG_WIDX_IDX ∧ State.reset.fld GZB_LOG_WIDX_IDX < (1 : BitVec 64).toNat ∧
    State.reset.fld GZB_TRC_RIDX_IDX ≤ (0 : BitVec 64).toNat ∧ (0 : BitVec 64).toNat ≤ State.reset.fld GZB_TRC_WIDX_IDX ∧
    State.reset.fld GZB_TRC_CFG_LEVEL ≠ (3 : Fin 4) ∧
    ((sets [(GZB_TRC_CFG_K, 4, 0, 0)]).setTbase 0 { val := 100000 * 2 ^ 32 }).decimationNow = some 3 := by decide +kernel

/-! The register space. -/

def halves : State :=
  { State.reset with heldLow := [(halfKey (.core 0) 0x701008, some 5)], latch := [(halfKey (.core 0) 0x701008, some 6)] }
theorem meets_RegisterAccess : (0xFFFFC < 0x1100000 ∧ 0xFFFFC / 0x100000 ≠ 13 ∧ 0xFFFFC / 0x100000 ≠ 10 ∧ 0xFFFFC / 0x100000 ≠ 9) ∧
    findReg 0xFFFFC = none ∧ findReg 0 = some ⟨.GLB_DEVID, 0, 0, false⟩ ∧ Reg.GLB_DEVID.width = 4 ∧
    findReg 0x701008 = some ⟨.SDL_TB_INC, 0, 0, false⟩ ∧ Reg.SDL_TB_INC.width = 8 ∧ findReg 0x70100C = some ⟨.SDL_TB_INC, 0, 0, true⟩ ∧
    (0x70100C / 0x100000 ≠ 13 ∧ 0x70100C / 0x100000 ≠ 10 ∧ 0x70100C / 0x100000 ≠ 9) ∧
    halves.heldLow.get none (halfKey (.core 0) (0x70100C - 4)) = some 5 ∧
    (halves.beforeRead ⟨.SDL_TB_INC, 0, 0, true⟩).latch.get none (halfKey (.core 0) (0x70100C - 4)) = some 6 ∧
    2 ≤ (2 : Fin 16).val ∧ bit ((sets [(ORG_ACL_WEN, 0, 0, 0)]).fld ORG_ACL_WEN) (0x200000 / 0x100000) = false := by decide +kernel
/-- The two halves of ETH_QOS, at an offset of 4 beyond a multiple of 8 (R391): a held low word takes effect with the high word (R9). -/
theorem test_qos_halves : (nextOf (exec (.regWrite (.core 0) 0x240002 false 0x7)
      (nextOf (exec (.regWrite (.core 0) 0x240001 false 0x123) State.reset)))).fld ETH_QOS_TX_VID = 7 ∧
    (nextOf (exec (.regWrite (.core 0) 0x240002 false 0x7)
      (nextOf (exec (.regWrite (.core 0) 0x240001 false 0x123) State.reset)))).fld ETH_QOS_MGMT_VID = 0x123 := by decide +kernel
theorem meets_DeviceIdentity : State.reset.gth.held = false ∧ (sets [(PLT_CTRL_EN, 1, 0, 0)]).rd .GLB_DEVID = State.reset.rd .GLB_DEVID := by
  decide +kernel

/-! Memory. -/

theorem meets_MemoryWrites : Memory.wf (writeRun [] 4096 [1, 0, 2]) = true ∧ (hostOn served).gth.held = false ∧ (hostOn served).hostUp = true ∧
    (hostOn served).trained = true ∧ Memory.wf (hostOn served).mem = true ∧
    (hostOn served).fld PCI_BAR4_OFS_OFS * 2 ^ 28 + 64 + [1].length ≤ (hostOn served).usable ∧ (hostOn served).holdsHit 64 1 = [] ∧
    (hostOn served).sealsHit 64 1 = [] ∧
    Tbl.get Memory.blank (nextOf (exec (.bar4Write (.host 64) (.write [1])) (hostOn served))).mem 64 = 1 := by decide +kernel
theorem meets_LumaOfColour : 0 < (1024 : Nat) ∧ (List.range 64).any (fun o => fmtBytes o == 1) = true ∧
    (List.range 64).any (fun o => fmtBytes o != 1) = true := by decide +kernel

/-! The spec's own worked examples. -/

/-- 02, after R36: the window's open of TB5 and an event of TB1; the product floors to 15,999,984 sixteenths. -/
def example36 : State :=
  { State.reset with sdl := { State.reset.sdl with pairs :=
    [{ seq := 1,
        vals := [0, (1700000123 * 10 ^ 9 + 500000000) * 16, 0, 0, 0, (88 * 10 ^ 9 + 250000000) * 16],
        incs := [0, 0x200002000, 0, 0, 0, 0x200000000] }] } }
theorem test_conversion_floors : (example36.convert 5 1 ((1700000123 * 10 ^ 9 + 501000000) * 16)).1 = (88 * 10 ^ 9 + 250999999) * 16 := by
  decide +kernel
/-- 06, after R151: REFLECT of a line of 5 with 9 pixels before it and 4 after. -/
theorem test_reflect : ((List.range 9).map (fun (i : Nat) => srcCoord ((i : Int) - 9) 5 3)).map (fun x => x.getD 99) = [1, 0, 1, 2, 3, 4, 3, 2, 1] ∧
    ((List.range 4).map (fun (i : Nat) => srcCoord ((i : Int) + 5) 5 3)).map (fun x => x.getD 99) = [3, 2, 1, 0] := by decide +kernel
/-- 06, after R162: an average of 9 and one of 4, ties to even. -/
theorem test_average : divRne (-22) 9 = -2 ∧ divRne 27 9 = 3 ∧ divRne 10 4 = 2 := by decide +kernel
/-- 06, after R164: an up-scale of 1.5. -/
theorem test_resample_columns : resampPos 1 0xAAAAAB = 8388608 ∧ resampPos 0 0xAAAAAB = -2796203 ∧
    resampTaps 1 1 0xAAAAAB 100 = [(0, 2048), (1, 2048)] ∧ resampTaps 1 0 0xAAAAAB 100 = [(0, 4096 - 3413), (0, 3413)] ∧
    resampTaps 2 1 0xAAAAAB 100 = [(0, -1024), (0, 9216), (1, 9216), (2, -1024)] := by decide +kernel
/-- 06, after R149: the line buffer, tap groups and extent of a 17 × 17 DWCONV. -/
def kern17 : Kern := ⟨1, 17, 17, 1, 1, 1, 1, 1, 8, 8, 8, 8, 0, 0⟩
theorem test_line_buffer : lineBuf 0x21 1 [64, 96, 36, 1] kern17 0 0 = 124416 ∧
    tapGroups kern17 = 4 ∧ outExt 36 8 8 1 17 1 = 36 := by decide +kernel
/-- 03, after R67: FP32 quotient of the scales. -/
theorem test_quotient_of_scales : fdiv (fmul 0x3F400000 0x3C800000) 0x3DCCCCCD = 0x3DF00000 := by decide +kernel
/-- 07, after R187: the two sub-pixel offsets. -/
theorem test_subpel : subPel false 16 16 1500 1200 1320 = 7 ∧ subPel false 16 16 1210 1200 1800 = -15 := by decide +kernel
/-- 01, after R12: PAV_ registers of physical pavilion 37 begin at 0x22_5000. -/
theorem test_pavilion_page : findReg 0x225300 = some ⟨.PAV_ARITH_CNT, 37, 0, false⟩ := by decide +kernel
/-- 05, after R127: the word that Agkin builds for conv t2, s2, p1, p0, k0. -/
theorem test_conv_word : opc 0x208217EFC0000000 = 0x20 ∧ cTO 0x208217EFC0000000 = 2 ∧ cSO 0x208217EFC0000000 = 2 ∧
    cSOV 0x208217EFC0000000 = true ∧ cTA 0x208217EFC0000000 = 62 ∧ cTB 0x208217EFC0000000 = 63 ∧ cKS 0x208217EFC0000000 = 0 := by decide +kernel
/-- 05 and 06: the body times of that CONV (3 × 3, 32 to 32 channels, 64 × 32) and of the 17 × 17 DWCONV on 96 × 36 × 64. -/
theorem test_body_times : bodyFc [0x208217EFC0000000, 0, 0] 0 0 [32, 64, 32, 1] [32, 3, 3, 32] [32, 64, 32, 1] { kern17 with kw := 3, kh := 3 }
      = (18432, 0) ∧
    bodyFc [0x2100000000000000] 0 0 [64, 96, 36, 1] [17, 17, 64, 1] [64, 96, 36, 1] kern17 = (69120, 96) := by decide +kernel
end Sys2Proof.Tests
end

section
/-! PROOF. GLB_DEVID of a B1 device (R1): a core's read of a whole 32-bit register, and what a register holds at reset. -/
namespace Sys2Proof.Proofs
open Sys2Proof Sys2Proof.Machine Sys2Proof.Laws

/-- At reset every register holds its reset value: no entry of the table departs from it. -/
theorem reset_rd (r : Reg) (i j : Nat) : State.reset.rd r i j = r.reset i % 2 ^ 64 := rfl

/-- A READ_CLEAR of an offset on a device out of reset emits what the register space answers. -/
theorem exec_readClear (s : State) (r : Req) (off : BitVec 26) (wide : Bool) (h : s.gth.held = false) :
    exec (.readClear r off wide) s = .next (s.after (s.regRead r (4 * off.toNat) wide)) :=
  done_next s _ h

/-- A 32-bit register is read whole, whatever the width of the access (R9). -/
theorem readReg_of_width_four (s : State) (r : Req) (off : Nat) (wide : Bool) (q : RegAt) (h : q.reg.width = 4) :
    s.readReg r off wide q = ((s.beforeRead q).clearRc q).emit (.read ((s.beforeRead q).regValue q)) := by
  simp only [State.readReg, h, true_or, if_true]

/-- A register without read-clear fields reads as it stands: nothing of it waits for the end of the tick. -/
theorem rcBefore_of_no_rc (s : State) (q : RegAt) (v : Nat) (h : ∀ f ∈ q.reg.flds, f.acc ≠ .rc) : s.rcBefore q v = v := by
  unfold State.rcBefore
  generalize q.reg.flds = fs at h
  induction fs with
  | nil => rfl
  | cons f fs ih =>
    have hf : f.acc ≠ .rc := h f (List.mem_cons_self ..)
    rw [List.foldl_cons, if_neg hf]
    exact ih fun g hg => h g (List.mem_cons_of_mem f hg)

/-- Where GLB_DEVID stands in the register space. -/
def devidAt : RegAt := ⟨.GLB_DEVID, 0, 0, false⟩

theorem findReg_zero : findReg 0 = some devidAt := by decide

/-- The four fields of GLB_DEVID cover its 32 bits. -/
theorem devid_mask : devidAt.reg.mask devidAt.i (fun a => decide (a ≠ .wo)) = 2 ^ 32 - 1 := by decide

theorem devid_no_rc : ∀ f ∈ devidAt.reg.flds, f.acc ≠ .rc := by decide

/-- GLB_DEVID reads as the low 32 bits of what is stored: no event outside the register shows in it. -/
theorem regValue_devid (s : State) : s.regValue devidAt = s.rd .GLB_DEVID % 2 ^ 32 := by
  have hshown : s.regShown devidAt = s.rd .GLB_DEVID := rfl
  rw [State.regValue, rcBefore_of_no_rc s devidAt _ devid_no_rc, hshown, devid_mask, Nat.and_two_pow_sub_one_eq_mod]

/-- A core's read at offset 0 answers the low 32 bits of GLB_DEVID. -/
theorem core0_read_devid (s : State) (wide : Bool) :
    s.regRead (.core 0) 0 wide = (s.clearRc devidAt).emit (.read (s.rd .GLB_DEVID % 2 ^ 32)) := by
  have hbefore : s.beforeRead devidAt = s := rfl
  rw [core0_regRead s 0 wide (by decide) (by decide) (by decide), findReg_zero]
  simp only [readReg_of_width_four s _ 0 wide devidAt rfl, hbefore, regValue_devid]

/-- The reset value of GLB_DEVID is PART, FAMILY 0 and the two STEP fields of a B1 device, side by side. -/
theorem devid_reset : Reg.GLB_DEVID.reset 0 = 0x96000011 := by decide

theorem reset_rd_devid : State.reset.rd .GLB_DEVID = 0x96000011 := by
  rw [reset_rd, devid_reset, Nat.mod_eq_of_lt (by decide)]

theorem reset_fld_devid (f : Fld) (hf : f.reg = .GLB_DEVID) : State.reset.fld f = bits 0x96000011 f.lo f.w := by
  rw [State.fld, hf, reset_rd_devid]

/-- Where GLB_DEVID holds its reset value, READ_CLEAR of core 0 at offset 0 answers it. -/
theorem exec_read_devid (s : State) (hheld : s.gth.held = false) (hdevid : s.rd .GLB_DEVID = State.reset.rd .GLB_DEVID) :
    exec (.readClear (.core 0) 0 false) s = .next (s.after ((s.clearRc devidAt).emit (.read 0x96000011))) := by
  have hread := core0_read_devid s false
  rw [hdevid, reset_rd_devid, Nat.mod_eq_of_lt (by decide)] at hread
  rw [exec_readClear s _ _ _ hheld, show 4 * (0 : BitVec 26).toNat = 0 from rfl, hread]

/-- Settles O58: the fields of the reset value, and a read at offset 0 that answers it. -/
theorem deviceIdentity : Obligations.DeviceIdentity := by
  unfold Obligations.DeviceIdentity
  have hpart : bits 0x96000011 GLB_DEVID_PART.lo GLB_DEVID_PART.w = 0x9600 := by decide
  have hmajor : bits 0x96000011 GLB_DEVID_STEP_MAJOR.lo GLB_DEVID_STEP_MAJOR.w = 1 := by decide
  have hminor : bits 0x96000011 GLB_DEVID_STEP_MINOR.lo GLB_DEVID_STEP_MINOR.w = 1 := by decide
  exact ⟨(reset_fld_devid _ rfl).trans hpart, (reset_fld_devid _ rfl).trans hmajor, (reset_fld_devid _ rfl).trans hminor,
    fun s hheld hdevid => ⟨_, exec_read_devid s hheld hdevid, hpart, hmajor, hminor⟩⟩
end Sys2Proof.Proofs
end

section
/-! PROOF. An armed step or load at its tick (R31): the one branch of `tbApply`, taken where the jump is accepted and left where it is
refused. -/
namespace Sys2Proof.Proofs
open Sys2Proof Sys2Proof.Machine Sys2Proof.Laws

/-- When the armed step or load of base `n` is accepted (R31): never on TB0; else for an unset base, under OVR, or within JUMP_LIMIT. -/
def PhaseAccepted (s : State) (n : Nat) : Prop :=
  n ≠ 0 ∧ (s.on SDL_TB_CTRL_UNSET n = true ∨ s.on SDL_TB_CTRL_OVR n = true ∨
    (State.tbTarget (s.tbase n)).2 ≤ s.fld SDL_TB_JLIM_JLIM n * 2 ^ 32)

/-- What either outcome consumes: OVR and LOAD. -/
def phaseConsumed (s : State) (n : Nat) : State := (s.setFld SDL_TB_CTRL_OVR 0 n).setFld SDL_TB_CTRL_LOAD 0 n

/-- The value an accepted step or load gives base `n`. -/
def phaseValue (s : State) (n : Nat) : Nat := ((State.tbTarget (s.tbase n)).1 % (tbMod : Int)).toNat

/-- The base has its new value and is no longer UNSET; a capture of the tick is taken again from it (R46). -/
def phaseMoved (s : State) (n : Nat) : State :=
  let w := ((phaseConsumed s n).setTbase n
    { s.tbase n with val := phaseValue s n, arm := .none, stepAt := some s.tick, refused := false }).setFld SDL_TB_CTRL_UNSET 0 n
  if (s.tbase n).capAt = some s.tick then w.tbCapture n else w

/-- An accepted step or load moves the base, and with it what PTP stamped in the tick, the line clocks on the base and a pair. -/
theorem tbApply_of_accepted (s : State) (n : Nat) (h : PhaseAccepted s n) :
    s.tbApply n = (((phaseMoved s n).ptpRestamp n).lcBaseJump n
      (((phaseValue s n / 2 ^ 28 : Nat) : Int) - (((s.tbase n).val / 2 ^ 28 : Nat) : Int) : Int)).takePair :=
  if_pos h

/-- A refused step or load disarms the base, records the jump and raises TS_JUMP_REFUSED; the base's value stays. -/
theorem tbApply_of_refused (s : State) (n : Nat) (h : ¬ PhaseAccepted s n) :
    s.tbApply n = ((((phaseConsumed s n).setTbase n { s.tbase n with arm := .none, refused := true }).raise SDL_TB_STAT_JUMP_REFUSED n).setFld
      SDL_TB_LAST_REF_JUMP (min ((State.tbTarget (s.tbase n)).2 / 2 ^ 28) (2 ^ 63 - 1)) n).alarm n 0x0601 :=
  if_neg h

/-- On a device out of reset, what was armed in an earlier tick is applied. -/
theorem exec_tbPhaseApply_of_armed (s : State) (n : Fin 8) (hheld : s.gth.held = false) (harm : (s.tbase n).arm ≠ .none)
    (hearlier : (s.tbase n).armTick < s.tick) : exec (.tbPhaseApply n) s = .next (s.after (s.tbApply n)) := by
  have hexec : exec (.tbPhaseApply n) s =
      done s (if (s.tbase n).arm ≠ .none ∧ (s.tbase n).armTick < s.tick then s.tbApply n else s) := rfl
  rw [hexec, if_pos ⟨harm, hearlier⟩, done_next s _ hheld]

/-- Settles O9: the command applies what is armed, and `tbApply` answers its acceptance and its refusal. -/
theorem phaseApplied : Obligations.PhaseApplied := by
  unfold Obligations.PhaseApplied
  intro n s hheld harm hearlier
  have hexec := exec_tbPhaseApply_of_armed s n hheld harm hearlier
  constructor
  · intro hok
    exact (tbApply_of_accepted s n hok) ▸ hexec
  · intro hrefused
    exact (tbApply_of_refused s n hrefused) ▸ hexec
end Sys2Proof.Proofs
end

section
/-! PROOF. Belvedere's luma (R181): what rounding to nearest with ties to even (R10) gives of any quotient, the largest Rec. 709 sum of
three components, and the two output widths of `lumaOf`. -/
namespace Sys2Proof.Proofs
open Sys2Proof Sys2Proof.Machine Sys2Proof.Laws

/-- What a whole quotient leaves is the remainder. -/
theorem sub_ediv_mul (n m : Int) : n - n / m * m = n % m := by rw [Int.emod_def, Int.mul_comm]

/-- Rounding to nearest in terms of quotient and remainder: up from above the half, and at the half from an odd quotient. -/
theorem rneQ_eq_ediv (n : Int) (d : Nat) :
    rneQ n d = if (d : Int) < 2 * (n % d) ∨ (2 * (n % d) = d ∧ n / d % 2 = 1) then n / d + 1 else n / d := by
  simp only [rneQ, Int.fdiv_eq_ediv_of_nonneg n (Int.natCast_nonneg d), sub_ediv_mul]

/-- What is left of a number after rounding is no more than half the divisor, and half of it only where the result is even. -/
theorem rneQ_nearest_even (n : Int) (d : Nat) (hd : 0 < d) :
    2 * (n - rneQ n d * d).natAbs ≤ d ∧ (2 * (n - rneQ n d * d).natAbs = d → rneQ n d % 2 = 0) := by
  have hlow : 0 ≤ n % d := Int.emod_nonneg n (by omega)
  have hhigh : n % d < d := Int.emod_lt_of_pos n (by omega)
  have hup : n - (n / d + 1) * d = n % d - d := by rw [Int.add_mul, Int.one_mul, ← sub_ediv_mul n d]; omega
  rw [rneQ_eq_ediv]
  split
  next hround => rw [hup]; omega
  next hkeep => rw [sub_ediv_mul]; omega

/-- Rounding does not pass a whole multiple above. -/
theorem rneQ_le (n k : Int) (d : Nat) (hd : 0 < d) (h : n ≤ k * d) : rneQ n d ≤ k := by
  obtain ⟨hnear, -⟩ := rneQ_nearest_even n d hd
  refine Int.not_lt.mp fun hover => ?_
  have hmul : (k + 1) * d ≤ rneQ n d * d := Int.mul_le_mul_of_nonneg_right (by omega) (by omega)
  rw [Int.add_mul, Int.one_mul] at hmul
  omega

/-- Rounding does not make a number negative. -/
theorem rneQ_nonneg (n : Int) (d : Nat) (hd : 0 < d) (h : 0 ≤ n) : 0 ≤ rneQ n d := by
  obtain ⟨hnear, -⟩ := rneQ_nearest_even n d hd
  refine Int.not_lt.mp fun hneg => ?_
  have hmul : rneQ n d * d ≤ -1 * d := Int.mul_le_mul_of_nonneg_right (by omega) (by omega)
  omega

/-- A value saturated from 0 is not negative. -/
theorem sat_zero_nonneg (x hi : Int) (hhi : 0 ≤ hi) : 0 ≤ sat x 0 hi := by
  unfold sat
  split
  · exact Int.le_refl 0
  · split <;> omega

/-- The Rec. 709 sum of the three `b`-bit components of a colour element, red above green above blue. -/
def rec709 (v b : Nat) : Nat := 13933 * bits v (2 * b) b + 46871 * bits v b b + 4732 * bits v 0 b

/-- The weights add up to 65,536, so white has the largest sum. -/
theorem rec709_le (v b : Nat) : rec709 v b ≤ 65536 * (2 ^ b - 1) := by
  have hred := bits_lt v (2 * b) b
  have hgreen := bits_lt v b b
  have hblue := bits_lt v 0 b
  unfold rec709
  omega

/-- The 16-bit luma of colour is a natural number, and white's is its bound. -/
theorem rneQ_rec709_toNat (v b d m : Nat) (hd : 0 < d) (hwhite : 65536 * (2 ^ b - 1) ≤ m * d) :
    ((rneQ (rec709 v b : Nat) d).toNat : Int) = rneQ (rec709 v b : Nat) d ∧ (rneQ (rec709 v b : Nat) d).toNat ≤ m := by
  have hnonneg := rneQ_nonneg (rec709 v b : Nat) d hd (Int.natCast_nonneg _)
  have hle := rneQ_le (rec709 v b : Nat) m d hd (Int.ofNat_le.mpr (Nat.le_trans (rec709_le v b) hwhite))
  omega

/-- In a 16-bit format the luma of 8-bit colour is the rounded sum. -/
theorem lumaOf_rgb8_wide (out v : Nat) (h : fmtBytes out ≠ 1) : lumaOf 2 out v = (rneQ (rec709 v 8 : Nat) 256).toNat := if_neg h

/-- In a 16-bit format the luma of 10-bit colour is the rounded sum. -/
theorem lumaOf_rgb10_wide (out v : Nat) (h : fmtBytes out ≠ 1) : lumaOf 3 out v = (rneQ (rec709 v 10 : Nat) 1024).toNat := if_neg h

/-- The 8-bit form of a 16-bit luma: rounded again, and saturated. -/
def narrowLuma (y : Int) : Int := sat (rneQ y 256) 0 255

theorem narrowLuma_toNat (y : Int) : ((narrowLuma y).toNat : Int) = narrowLuma y :=
  Int.toNat_of_nonneg (sat_zero_nonneg _ _ (by decide))

/-- In an 8-bit format the luma of 16-bit luma and of colour is the 8-bit form of the 16-bit luma. -/
theorem lumaOf_narrow (out v : Nat) (h : fmtBytes out = 1) :
    lumaOf 1 out v = (narrowLuma v).toNat ∧ lumaOf 2 out v = (narrowLuma (rneQ (rec709 v 8 : Nat) 256)).toNat ∧
      lumaOf 3 out v = (narrowLuma (rneQ (rec709 v 10 : Nat) 1024)).toNat :=
  ⟨if_pos h, if_pos h, if_pos h⟩

/-- Settles O60: the rounding of any quotient, then the luma in 16 bits with white's as bound, and in 8 bits. -/
theorem lumaOfColour : Obligations.LumaOfColour := by
  unfold Obligations.LumaOfColour
  refine ⟨rneQ_nearest_even, fun out v hwide => ?wide, fun out v hnarrow => ?narrow⟩
  case wide =>
    obtain ⟨heq10, hle10⟩ := rneQ_rec709_toNat v 10 1024 65472 (by decide) (by decide)
    obtain ⟨heq8, hle8⟩ := rneQ_rec709_toNat v 8 256 65280 (by decide) (by decide)
    rw [lumaOf_rgb10_wide out v hwide, lumaOf_rgb8_wide out v hwide]
    exact ⟨heq10, hle10, heq8, hle8⟩
  case narrow =>
    obtain ⟨hluma16, hrgb8, hrgb10⟩ := lumaOf_narrow out v hnarrow
    rw [hluma16, hrgb8, hrgb10]
    exact ⟨narrowLuma_toNat _, narrowLuma_toNat _, narrowLuma_toNat _⟩
end Sys2Proof.Proofs
end

section
/-! PROOF. The machine as a whole: the step of a queued command, the resets, and what a device held in reset holds (R319, R461). -/
namespace Sys2Proof.Proofs
open Sys2Proof Sys2Proof.Machine Sys2Proof.Laws

/-- Settles O1: the step function's second case. -/
theorem stepRunsFront : Obligations.StepRunsFront := by
  unfold Obligations.StepRunsFront
  intro s c rest hqueue
  rw [step, hqueue]

/-- A step of a device with an empty queue is the tick, through `done`. -/
theorem step_idle (s : State) (hqueue : s.pending = []) : step s = idleTick s := by
  rw [step, hqueue]

/-- Settles O6: every command that is not a reset goes through `done`. -/
theorem heldDeviceIgnores : Obligations.HeldDeviceIgnores := by
  unfold Obligations.HeldDeviceIgnores
  intro c s hc hheld
  obtain ⟨t, hexec⟩ := exec_done c s hc
  rw [hexec, done_held s t hheld]

/-- Settles O7: either way out of `done` has the queue and the pins of the state before. -/
theorem commandsKeepThePins : Obligations.CommandsKeepThePins := by
  unfold Obligations.CommandsKeepThePins
  intro c s t hc hnext
  obtain ⟨u, hexec⟩ := exec_done c s hc
  rw [hexec] at hnext
  rcases done_cases s u t hnext with ⟨-, rfl⟩ | ⟨hheld, rfl⟩
  · exact ⟨rfl, rfl, rfl, rfl⟩
  · exact ⟨rfl, hheld.symm, rfl, rfl⟩

/-- What a command that goes through `doneAny` answers. -/
theorem next_of_doneAny {c : Instr} {s t u : State} (hexec : exec c s = doneAny s t) (h : t = u) :
    exec c s = .next { u with pending := s.pending } := by
  rw [hexec, h, doneAny]

/-- The same where the state answered has the queue already. -/
theorem next_of_doneAny_of_pending {c : Instr} {s t u : State} (hexec : exec c s = doneAny s t) (h : t = u)
    (hqueue : u.pending = s.pending) : exec c s = .next u := by
  rw [hexec, h, doneAny, ← hqueue]

section
variable (s : State) (src addr : Fin 4) (test : Bool) (flash : List Byte)

/-- PORST_N rises on a device whose boot has not begun, with the rails good: the boot starts (R419, R462). -/
theorem exec_porstRelease_of_rails_good (hreset : s.gth.held = true ∨ s.gth.phase = 0) (hrails : s.gth.lowRail = false) :
    exec (.porstRelease src addr test flash) s =
      .next { (({ s with gth := { s.gth with porst := true } }).bootStart src addr test flash) with pending := s.pending } :=
  next_of_doneAny rfl ((if_pos hreset).trans (if_neg (Bool.eq_false_iff.mp hrails)))

/-- PORST_N rises while the supply detector still holds the device (R461). -/
theorem exec_porstRelease_of_rail_low (hreset : s.gth.held = true ∨ s.gth.phase = 0) (hlow : s.gth.lowRail = true) :
    exec (.porstRelease src addr test flash) s = .next { s with gth := { s.gth with porst := true } } :=
  next_of_doneAny_of_pending rfl ((if_pos hreset).trans (if_pos hlow)) rfl

/-- A release of PORST_N on a device that runs has no effect. -/
theorem exec_porstRelease_of_running (h : ¬ (s.gth.held = true ∨ s.gth.phase = 0)) :
    exec (.porstRelease src addr test flash) s = .next s :=
  next_of_doneAny rfl (if_neg h)

/-- The supply detector releases with PORST_N high: the boot starts (R461). -/
theorem exec_supplyDetector_of_porst_high (hlow : s.gth.lowRail = true) (hporst : s.gth.porst = true) :
    exec (.supplyDetector (some (src, addr, test, flash))) s =
      .next { (({ s with gth := { s.gth with lowRail := false } }).bootStart src addr test flash) with pending := s.pending } :=
  next_of_doneAny rfl ((if_neg (not_not_intro hlow)).trans (if_pos hporst))

/-- The supply detector releases with PORST_N low. -/
theorem exec_supplyDetector_of_porst_low (hlow : s.gth.lowRail = true) (hporst : s.gth.porst = false) :
    exec (.supplyDetector (some (src, addr, test, flash))) s = .next { s with gth := { s.gth with lowRail := false } } :=
  next_of_doneAny_of_pending rfl ((if_neg (not_not_intro hlow)).trans (if_neg (Bool.eq_false_iff.mp hporst))) rfl

/-- A release of a detector that has not tripped has no effect. -/
theorem exec_supplyDetector_of_rails_good (hrails : s.gth.lowRail = false) :
    exec (.supplyDetector (some (src, addr, test, flash))) s = .next s :=
  next_of_doneAny rfl (if_pos (Bool.eq_false_iff.mp hrails))
end

/-- A cold reset writes no register but GTH_STAT. -/
theorem coldReset_regsAtReset (s : State) : regsAtReset s.coldReset := fun d a ha =>
  (regs_setFld_ne _ GTH_STAT_IDENT _ 0 0 a d ha).trans
    ((regs_setFld_ne _ GTH_STAT_COUNTER _ 0 0 a d ha).trans (regs_setFld_ne _ GTH_STAT_LC _ 0 0 a d ha))

/-- A state that is not held in reset is clean. -/
theorem heldClean_of_not_held (s : State) (hheld : s.gth.held = false) : heldClean s :=
  fun h => absurd (hheld.symm.trans h) Bool.false_ne_true

/-- After a cold reset the device is clean, whatever the queue and the pins. -/
theorem coldReset_heldClean (s : State) (q : List Instr) (p l : Bool) :
    heldClean { s.coldReset with pending := q, gth := { s.coldReset.gth with porst := p, lowRail := l } } :=
  fun _ => ⟨coldReset_regsAtReset s, rfl⟩

/-- Cleanness does not speak of the queue, PORST_N and the rails. -/
theorem heldClean_pins (s : State) (h : heldClean s) (q : List Instr) (p l : Bool) :
    heldClean { s with pending := q, gth := { s.gth with porst := p, lowRail := l } } := by
  intro hheld
  obtain ⟨hregs, hblocks⟩ := h hheld
  exact ⟨hregs, congrArg (fun u : State => { u with pending := q, gth := { u.gth with porst := p, lowRail := l } }) hblocks⟩

/-- The four resets keep a held device clean: they reset it, start its boot, or move its pins. -/
theorem exec_reset_heldClean (c : Instr) (s t : State) (hc : c.isReset = true) (hclean : heldClean s) (hnext : exec c s = .next t) :
    heldClean t := by
  cases c with
  | powerLoss => exact doneAny_cases s _ t hnext ▸ coldReset_heldClean s s.pending false true
  | coldReset => exact doneAny_cases s _ t hnext ▸ coldReset_heldClean s s.pending false s.gth.lowRail
  | supplyDetector rel =>
    obtain _ | ⟨src, addr, test, flash⟩ := rel
    · exact doneAny_cases s _ t hnext ▸ coldReset_heldClean s s.pending s.gth.porst true
    · cases hlow : s.gth.lowRail with
      | false =>
        rw [exec_supplyDetector_of_rails_good s src addr test flash hlow] at hnext
        exact Host.Outcome.next.inj hnext ▸ hclean
      | true =>
        cases hporst : s.gth.porst with
        | true =>
          rw [exec_supplyDetector_of_porst_high s src addr test flash hlow hporst] at hnext
          exact Host.Outcome.next.inj hnext ▸ heldClean_of_not_held _ rfl
        | false =>
          rw [exec_supplyDetector_of_porst_low s src addr test flash hlow hporst] at hnext
          exact Host.Outcome.next.inj hnext ▸ heldClean_pins s hclean s.pending s.gth.porst false
  | porstRelease src addr test flash =>
    by_cases hreset : s.gth.held = true ∨ s.gth.phase = 0
    · cases hlow : s.gth.lowRail with
      | false =>
        rw [exec_porstRelease_of_rails_good s src addr test flash hreset hlow] at hnext
        exact Host.Outcome.next.inj hnext ▸ heldClean_of_not_held _ rfl
      | true =>
        rw [exec_porstRelease_of_rail_low s src addr test flash hreset hlow] at hnext
        exact Host.Outcome.next.inj hnext ▸ heldClean_pins s hclean s.pending true s.gth.lowRail
    · rw [exec_porstRelease_of_running s src addr test flash hreset] at hnext
      exact Host.Outcome.next.inj hnext ▸ hclean
  | _ => exact absurd hc (by simp [Instr.isReset])

/-- Whatever goes through `done` keeps a held device clean. -/
theorem done_heldClean (s t u : State) (hclean : heldClean s) (hnext : done s t = .next u) : heldClean u := by
  rcases done_cases s t u hnext with ⟨-, rfl⟩ | ⟨-, rfl⟩
  · exact hclean
  · exact heldClean_of_not_held _ rfl

/-- Settles O3: a tick and every command but the resets go through `done`; the resets are taken one by one. -/
theorem heldCleanKept : Obligations.HeldCleanKept := by
  unfold Obligations.HeldCleanKept
  intro s t hclean hstep
  cases hqueue : s.pending with
  | nil =>
    rw [step_idle s hqueue] at hstep
    exact done_heldClean s _ t hclean hstep
  | cons c rest =>
    rw [stepRunsFront s c rest hqueue] at hstep
    have htaken : heldClean { s with pending := rest } := heldClean_pins s hclean rest s.gth.porst s.gth.lowRail
    cases hc : c.isReset with
    | true => exact exec_reset_heldClean c _ t hc htaken hstep
    | false =>
      obtain ⟨u, hexec⟩ := exec_done c { s with pending := rest } hc
      rw [hexec] at hstep
      exact done_heldClean _ u t htaken hstep

/-- Settles O4: reset is out of reset; the other two are cold resets. -/
theorem resetIsClean : Obligations.ResetIsClean := by
  unfold Obligations.ResetIsClean
  exact ⟨heldClean_of_not_held _ rfl, rfl,
    fun s => ⟨_, rfl, rfl, coldReset_heldClean s s.pending false s.gth.lowRail⟩,
    fun s => ⟨_, rfl, rfl, rfl, coldReset_heldClean s s.pending false true⟩⟩

/-- Every command has a next state, with the queue as it was. -/
theorem exec_goesOn (c : Instr) (s : State) : ∃ t, exec c s = .next t ∧ t.pending = s.pending := by
  cases hc : c.isReset with
  | false =>
    obtain ⟨t, hexec⟩ := exec_done c s hc
    rw [hexec, done]
    refine ⟨_, rfl, ?_⟩
    split <;> rfl
  | true =>
    cases c with
    | powerLoss => exact ⟨_, rfl, rfl⟩
    | coldReset => exact ⟨_, rfl, rfl⟩
    | supplyDetector => exact ⟨_, rfl, rfl⟩
    | porstRelease => exact ⟨_, rfl, rfl⟩
    | _ => exact absurd hc (by simp [Instr.isReset])

/-- Every step has a next state, whose queue has lost its front command. -/
theorem step_goesOn (s : State) : ∃ t, step s = .next t ∧ t.pending = s.pending.drop 1 := by
  cases hqueue : s.pending with
  | nil =>
    rw [step_idle s hqueue, idleTick, done]
    refine ⟨_, rfl, ?_⟩
    split <;> exact hqueue
  | cons c rest =>
    rw [stepRunsFront s c rest hqueue]
    exact exec_goesOn c { s with pending := rest }

/-- A run goes on from the state that its first step answers. -/
theorem run_succ_of_next (M : Host.Core) (k : Nat) (s t : M.State) (h : M.step s = .next t) : M.run (k + 1) s = M.run k t := by
  rw [Host.Core.run, h]

/-- Settles O5: by induction on the number of steps. -/
theorem everyRunGoesOn : Obligations.EveryRunGoesOn := by
  unfold Obligations.EveryRunGoesOn
  intro k
  induction k with
  | zero => exact fun s => ⟨s, rfl, rfl⟩
  | succ k ih =>
    intro s
    obtain ⟨t, hstep, hfront⟩ := step_goesOn s
    obtain ⟨u, hrun, hqueue⟩ := ih t
    exact ⟨u, (run_succ_of_next core k s t hstep).trans hrun, by rw [hqueue, hfront, List.drop_drop, Nat.add_comm]⟩
end Sys2Proof.Proofs
end

section
/-! PROOF. How a command outside the resets is evaluated: its effect through `done`, on a device out of reset. -/
namespace Sys2Proof.Proofs
open Sys2Proof Sys2Proof.Machine Sys2Proof.Laws

/-- What a command that goes through `done` answers on a device out of reset. -/
theorem next_of_done {c : Instr} {s t u : State} (hheld : s.gth.held = false) (hexec : exec c s = done s t) (h : t = u) :
    exec c s = .next (s.after u) := by
  rw [hexec, h, done_next s u hheld]

/-- A command without an effect answers the state it found. -/
theorem next_of_done_same {c : Instr} {s t : State} (hheld : s.gth.held = false) (hexec : exec c s = done s t) (h : t = s) :
    exec c s = .next s := by
  rw [next_of_done hheld hexec h, after_of_eq s s rfl rfl hheld]
end Sys2Proof.Proofs
end

section
/-! PROOF. Reads of the streams' windows (R206): by what the read resolves to. -/
namespace Sys2Proof.Proofs
open Sys2Proof Sys2Proof.Machine Sys2Proof.Laws
section
variable (s : State) (i : Fin 16) (who : Reader) (o n : Nat)

theorem windowRead_of_wait (h : s.aliasResolve i (readerAs who) = .wait) :
    s.windowRead i who o n = s.setStrm i { s.strm i with reads := (s.strm i).reads ++ [(who, o, n)] } := if_pos h

/-- A read that does not wait reads its stream's window. -/
theorem windowRead_of_ne_wait (h : s.aliasResolve i (readerAs who) ≠ .wait) (ho : o < 2 ^ 32) :
    s.windowRead i who o n =
      (s.devReadAt (readerAs who) none (aliasBase + i * 2 ^ 32 + o) n (.window i o)).2.emit
        (.data (s.devReadAt (readerAs who) none (aliasBase + i * 2 ^ 32 + o) n (.window i o)).1) := by
  rw [State.windowRead, if_neg h, State.aliasRead, devRead_of s _ _ _ _ _ (region_alias s i o ho)]

theorem windowRead_of_sel (x : Sel) (h : s.aliasResolve i (readerAs who) = .sel x) (ho : o < 2 ^ 32) :
    s.windowRead i who o n = s.emit (.data (s.aliasBytes i x o n)) := by
  rw [windowRead_of_ne_wait s i who o n (by simp [h]) ho]
  simp only [State.devReadAt, h]

theorem windowRead_of_zero (h : s.aliasResolve i (readerAs who) = .zero) (ho : o < 2 ^ 32) :
    s.windowRead i who o n = s.emit (.data (List.replicate n 0)) := by
  rw [windowRead_of_ne_wait s i who o n (by simp [h]) ho]
  simp only [State.devReadAt, h]

theorem windowRead_of_miss (h : s.aliasResolve i (readerAs who) = .miss) (ho : o < 2 ^ 32) :
    s.windowRead i who o n = (s.aliasMiss i).emit (.data (List.replicate n 0)) := by
  rw [windowRead_of_ne_wait s i who o n (by simp [h]) ho]
  simp only [State.devReadAt, h]

/-- No window read changes memory: it is held, answered, or counted. -/
theorem windowRead_mem (ho : o < 2 ^ 32) : (s.windowRead i who o n).mem = s.mem := by
  cases h : s.aliasResolve i (readerAs who) with
  | wait => rw [windowRead_of_wait s i who o n h]; rfl
  | sel x => rw [windowRead_of_sel s i who o n x h ho]; rfl
  | zero => rw [windowRead_of_zero s i who o n h ho]; rfl
  | miss => rw [windowRead_of_miss s i who o n h ho]; rfl
end

/-- Settles O33: the four results of `aliasResolve`, none of which touches memory. -/
theorem aliasReads : Obligations.AliasReads := by
  unfold Obligations.AliasReads
  intro i off len who s hheld n
  have ho : off.toNat < 2 ^ 32 := off.isLt
  have hexec : exec (.aliasRead i off len who) s = .next (s.after (s.windowRead i who off.toNat n)) := next_of_done hheld rfl rfl
  refine ⟨fun h => ?wait, fun x h => ?sel, fun h => ?zero, fun h => ?miss, fun t hnext => ⟨region_alias s i off.toNat ho, ?mem⟩⟩
  case wait => rw [hexec, windowRead_of_wait s i who _ n h]
  case sel => rw [hexec, windowRead_of_sel s i who _ n x h ho]
  case zero => rw [hexec, windowRead_of_zero s i who _ n h ho]
  case miss => rw [hexec, windowRead_of_miss s i who _ n h ho]
  case mem =>
    rw [hexec] at hnext
    exact Host.Outcome.next.inj hnext ▸ windowRead_mem s i who off.toNat n ho
end Sys2Proof.Proofs
end

section
/-! PROOF. Writes of LPDDR (R14, R352): what a write with no guard changes, and the path of BAR4 to it. -/
namespace Sys2Proof.Proofs
open Sys2Proof Sys2Proof.Machine Sys2Proof.Laws
section
variable (s : State) (a : Nat) (bs : List Byte)

/-- The staging SRAM is the Arcade's. -/
theorem stgPut_frame : ∃ x, s.stgPut a bs = { s with arc := x } := by
  by_cases h : (s.stgOn.filter (fun w => hits w.1 w.2 a bs.length)).isEmpty = true
  · exact ⟨s.arc, if_pos h⟩
  · exact ⟨_, if_neg h⟩

/-- The caches are the Orangery's. -/
theorem invalidate_frame (n : Nat) : ∃ x, s.invalidate a n = { s with org := x } := by
  by_cases h : s.org.l2.isEmpty ∧ s.org.l3.isEmpty
  · exact ⟨s.org, if_pos h⟩
  · exact ⟨_, if_neg h⟩

/-- A write with no guard below the usable capacity writes its run. -/
theorem lpRaw_mem_regs (h : a + bs.length ≤ s.usable) : (s.lpRaw a bs).mem = writeRun s.mem a bs ∧ (s.lpRaw a bs).regs = s.regs := by
  obtain ⟨x, hstg⟩ := stgPut_frame (s.putBytes a bs) a bs
  obtain ⟨y, hinv⟩ := invalidate_frame { s.putBytes a bs with arc := x } a bs.length
  unfold State.lpRaw
  simp only [if_pos h, hstg, hinv]
  constructor <;> split <;> split <;> rfl

/-- A write that touches no hold buffer and no sealed range is a write with no guard. -/
theorem lpPut_of_no_guard (hholds : s.holdsHit a bs.length = []) (hseals : s.sealsHit a bs.length = []) : s.lpPut a bs = s.lpRaw a bs := by
  simp only [State.lpPut, hholds, hseals, List.map_nil, List.append_nil, List.foldl_nil, List.foldl_cons]

/-- A host write at an address of LPDDR that is served is a write of context 0 under its generation (R352). -/
theorem bar4Write_of_lpddr (off : Nat) (x : Nat) (h : s.region (s.fld PCI_BAR4_OFS_OFS * 2 ^ 28 + off) = .lpddr x)
    (htrained : s.trained = true) :
    s.bar4Write off bs = s.ctxPut 0 (s.cgen 0) (s.fld PCI_BAR4_OFS_OFS * 2 ^ 28 + off) bs := by
  rw [bar4_of s off bs _ h, State.bar4At, State.ctxWrite, if_pos htrained]

/-- A write under the generation of the context is not stale. -/
theorem ctxPut_cgen (c : Nat) : s.ctxPut c (s.cgen c) a bs = s.lpPut a bs := if_pos rfl

/-- A host write of BAR4 while the host is up. -/
theorem exec_bar4Write_host_write (off : BitVec 36) (hheld : s.gth.held = false) (hup : s.hostUp = true) :
    exec (.bar4Write (.host off) (.write bs)) s = .next (s.after (s.bar4Write off.toNat bs)) :=
  next_of_done hheld rfl (if_pos hup)
end

/-- Settles O59: the run's bytes by the laws of memory; a BAR4 write is a run written into LPDDR. -/
theorem memoryWrites : Obligations.MemoryWrites := by
  unfold Obligations.MemoryWrites
  refine ⟨rfl, fun m a bs h => ⟨writeRun_wf m a bs h, writeRun_get m a bs⟩, fun m a n h => ⟨wipeRun_wf m a n h, wipeRun_get m a n⟩, ?_⟩
  intro off bs s t hheld hup htrained hwf a hne hfit hholds hseals hnext
  have hlpddr : s.region a = .lpddr a := region_lpddr s a (by have := List.length_pos_iff.mpr hne; omega)
  have hraw : s.bar4Write off.toNat bs = s.lpRaw a bs := by
    rw [bar4Write_of_lpddr s bs off.toNat a hlpddr htrained, ctxPut_cgen, lpPut_of_no_guard s a bs hholds hseals]
  rw [exec_bar4Write_host_write s bs off hheld hup, hraw] at hnext
  obtain ⟨hmem, hregs⟩ := lpRaw_mem_regs s a bs hfit
  have ht : t = s.after (s.lpRaw a bs) := (Host.Outcome.next.inj hnext).symm
  rw [ht, after_mem, hmem, after_regs, hregs]
  exact ⟨writeRun_wf s.mem a bs hwf, rfl, writeRun_get s.mem a bs⟩
end Sys2Proof.Proofs
end

section
/-! PROOF. Sundial's commands (R29-R42, R46): writes of the time bases, captures and pairs, line clocks. -/
namespace Sys2Proof.Proofs
open Sys2Proof Sys2Proof.Machine Sys2Proof.Laws

/-- One bit of a number, as Mathlib says it. -/
theorem bit_eq_testBit (v i : Nat) : bit v i = v.testBit i := by
  have hbit : bit v i = decide (v >>> i % 2 ^ 1 = 1) := rfl
  rw [hbit, Nat.testBit_eq_decide_div_mod_eq, Nat.shiftRight_eq_div_pow, Nat.pow_one]

section
variable (s : State) (n : Nat)

/-- A note of a write leaves what is armed, and when it was. -/
theorem tbNoted_arm : (s.tbNoted n).arm = (s.tbase n).arm := by
  unfold State.tbNoted
  dsimp only
  split <;> rfl

theorem tbNoted_armTick : (s.tbNoted n).armTick = (s.tbase n).armTick := by
  unfold State.tbNoted
  dsimp only
  split <;> rfl

/-- A STEP arms the step where no load is armed (R30, R32). -/
theorem tbStepWrite_of_no_load (v : Nat) (hhold : s.on SDL_TB_STAT_HOLDOVER n = false) (harm : ∀ x, (s.tbase n).arm ≠ .load x) :
    s.tbStepWrite n v = s.setTbase n { s.tbNoted n with arm := .step (toSigned 64 v), armTick := s.tick } := by
  rw [State.tbStepWrite, if_neg (Bool.eq_false_iff.mp hhold)]
  split
  next x hx => exact absurd hx (harm x)
  next => rfl

theorem tbStepWrite_of_holdover (v : Nat) (hhold : s.on SDL_TB_STAT_HOLDOVER n = true) : s.tbStepWrite n v = s.tbDiscard n :=
  if_pos hhold

/-- A STEP beside an armed load is discarded (R32). -/
theorem tbStepWrite_of_load (v x : Nat) (hhold : s.on SDL_TB_STAT_HOLDOVER n = false) (harm : (s.tbase n).arm = .load x) :
    s.tbStepWrite n v = s.tbDiscard n := by
  rw [State.tbStepWrite, if_neg (Bool.eq_false_iff.mp hhold), harm]

/-- A LOAD out of holdover and within the range of NS arms its value, and discards a step of the base (R30, R32). -/
theorem tbLoad_of_ok (hhold : s.on SDL_TB_STAT_HOLDOVER n = false) (hns : s.fld SDL_TB_LOAD_NSS_NS n ≤ 999999999) :
    s.tbLoad n =
      (let v := (s.fld SDL_TB_LOAD_SEC_SEC n * 1000000000 + s.fld SDL_TB_LOAD_NSS_NS n) * 2 ^ 32 + s.fld SDL_TB_LOAD_NSS_SUB n * 2 ^ 28
       let d := match (s.tbase n).arm with
         | .step _ => s.addSat SDL_TB_STAT_DISCARDS 1 n
         | _ => s
       let own := match (s.tbase n).arm with
         | .step _ => if (s.tbase n).armTick = s.tick then 1 else 0
         | _ => 0
       (d.setTbase n { s.tbNoted n with arm := .load v, armTick := s.tick, wN := (s.tbNoted n).wN - own }).setFld SDL_TB_CTRL_LOAD 1 n) := by
  have hno : ¬ (s.on SDL_TB_STAT_HOLDOVER n = true ∨ 999999999 < s.fld SDL_TB_LOAD_NSS_NS n) := by
    rw [hhold]; simp; omega
  simp only [State.tbLoad, if_neg hno, tbNoted_arm, tbNoted_armTick]
  cases (s.tbase n).arm <;> rfl

theorem tbLoad_of_bad (h : s.on SDL_TB_STAT_HOLDOVER n = true ∨ 999999999 < s.fld SDL_TB_LOAD_NSS_NS n) : s.tbLoad n = s.tbDiscard n :=
  if_pos h

/-- An INC in holdover or out of its range is discarded; TB0's is read-only (R29, R33). -/
theorem tbIncWrite_of_bad (v : Nat) (hn : n ≠ 0) (h : s.on SDL_TB_STAT_HOLDOVER n = true ∨ v < 0x100000000 ∨ 0x2FFFFFFFF < v) :
    s.tbIncWrite n v = s.tbDiscard n :=
  (if_neg hn).trans (if_pos h)

theorem tbIncWrite_of_ok (v : Nat) (hn : n ≠ 0) (hhold : s.on SDL_TB_STAT_HOLDOVER n = false) (hlow : 0x100000000 ≤ v)
    (hhigh : v ≤ 0x2FFFFFFFF) :
    s.tbIncWrite n v =
      (let t := (s.setTbase n (s.tbNoted n)).setFld SDL_TB_INC_INC v n
       { t with sdl := { t.sdl with pairDue := true } }) :=
  (if_neg hn).trans (if_neg (by rw [hhold]; simp; omega))

theorem exec_holdoverClear (n : Fin 8) (hheld : s.gth.held = false) :
    exec (.holdoverClear n) s = .next (s.after
      (if s.hw.get none (SDL_TB_STAT_HOLDOVER.place n 0) = none then s.setFld SDL_TB_STAT_HOLDOVER 0 n else s)) := by
  refine next_of_done hheld rfl ?_
  cases s.hw.get none (SDL_TB_STAT_HOLDOVER.place n 0) <;> rfl
end

/-- Settles O8: the taken and the discarded form of each write. -/
theorem timeBaseWrites : Obligations.TimeBaseWrites := by
  unfold Obligations.TimeBaseWrites
  intro n v s hheld
  have hinc : ∀ u, s.tbIncWrite n (v.toNat % 2 ^ 40) = u → exec (.tbIncWrite n v) s = .next (s.after u) := fun u hu =>
    next_of_done hheld rfl hu
  refine ⟨fun hhold harm => ?_, fun hhold hns => ?_, ?_, fun hn hhold hlow hhigh => ?_, ?_, fun hhold => ⟨?_, ?_, fun hn => ?_⟩,
    fun hn hrange => ?_, fun hns => ?_, fun x harm hhold => ?_⟩
  · exact next_of_done hheld rfl (tbStepWrite_of_no_load s n v.toNat hhold harm)
  · exact next_of_done hheld rfl (tbLoad_of_ok s n hhold hns)
  · exact next_of_done hheld rfl rfl
  · exact hinc _ (tbIncWrite_of_ok s n _ hn hhold hlow hhigh)
  · exact exec_holdoverClear s n hheld
  · exact next_of_done hheld rfl (tbStepWrite_of_holdover s n v.toNat hhold)
  · exact next_of_done hheld rfl (tbLoad_of_bad s n (.inl hhold))
  · exact hinc _ (tbIncWrite_of_bad s n _ hn (.inl hhold))
  · exact hinc _ (tbIncWrite_of_bad s n _ hn (.inr hrange))
  · exact next_of_done hheld rfl (tbLoad_of_bad s n (.inr hns))
  · exact next_of_done hheld rfl (tbStepWrite_of_load s n v.toNat x hhold harm)

/-- Every pair has a number of 32 bits. -/
theorem nextSeq_lt (s : State) : s.nextSeq < 2 ^ 32 := by
  have hseq : s.fld SDL_PAIR_SEQ_SEQ < 2 ^ 32 := bits_lt _ _ _
  unfold State.nextSeq
  split <;> omega

/-- A pair taken in a tick that has none yet is the newest of 16, and its number is the next. -/
theorem takePair_of_new (s : State) (h : s.sdl.pairTick ≠ s.tick) :
    s.takePair.sdl.pairs = (s.readPair s.nextSeq :: s.sdl.pairs).take 16 ∧ s.takePair.fld SDL_PAIR_SEQ_SEQ = s.nextSeq := by
  have hno : ¬ (s.sdl.firstPair.isSome = true ∧ s.sdl.pairTick = s.tick) := fun hp => h hp.2
  have hseq : (s.setFld SDL_PAIR_SEQ_SEQ s.nextSeq).fld SDL_PAIR_SEQ_SEQ = s.nextSeq := by
    rw [fld_setFld_self _ _ _ _ _ (by decide)]
    exact Nat.mod_eq_of_lt (nextSeq_lt s)
  rw [State.takePair, if_neg hno]
  exact ⟨rfl, hseq⟩

/-- Settles O10: captures by the bits of the mask; the periodic pair is due and new. -/
theorem capturesAndPairs : Obligations.CapturesAndPairs := by
  unfold Obligations.CapturesAndPairs
  intro s hheld
  refine ⟨fun mask => ?captures, next_of_done hheld rfl rfl, fun f hfirst hlater hms hnew => ?periodic⟩
  case captures =>
    refine next_of_done hheld rfl ?_
    simp only [State.tbCaptureMask, bit_eq_testBit]
  case periodic =>
    have hdue : pairPeriodicDue s = true := by
      rw [pairPeriodicDue, hfirst]
      exact decide_eq_true ⟨hlater, hms, hnew⟩
    exact ⟨_, next_of_done hheld rfl (if_pos hdue), takePair_of_new s hnew⟩

section
variable (s : State) (n : Nat)

/-- A line clock put reads back: its ALIGNED bit is a register's. -/
theorem lclock_putLclock (c : LClock) : (s.putLclock n c).lclock n = c := Tbl_get_set_self _ _ _ _

/-- Planning the end of a frame leaves its start and its number. -/
theorem plan_start_frame (c : LClock) : c.plan.start = c.start ∧ c.plan.frame = c.frame := ⟨rfl, rfl⟩

/-- A waiting rate leaves the start and the number of the frame. -/
theorem takeRate_start_frame (c : LClock) : c.takeRate.start = c.start ∧ c.takeRate.frame = c.frame := by
  unfold LClock.takeRate
  split <;> exact ⟨rfl, rfl⟩

/-- The frame that a live clock starts has the start given, and the next number; that of the nearest ideal start where a new rate takes
effect in PTP mode (R37, R38). -/
theorem lcAdvance_start_frame (x : Rat) (hlive : (s.lclock n).live = true) :
    ((s.lcAdvance n x).lclock n).start = x ∧
      ((s.lcAdvance n x).lclock n).frame = (if (s.lclock n).mode = 3 ∧ (s.lclock n).nextRate.isSome
        then ((State.ptpNear { (s.lclock n).takeRate with start := x } x).1 % 2 ^ 32).toNat else ((s.lclock n).frame + 1) % 2 ^ 32) := by
  simp only [State.lcAdvance, if_pos hlive, lclock_putLclock]
  by_cases hptp : (s.lclock n).mode = 3 ∧ (s.lclock n).nextRate.isSome = true
  · obtain ⟨r, hrate⟩ := Option.isSome_iff_exists.mp hptp.2
    simp only [LClock.takeRate, hrate, hptp.1, Option.isSome_some, and_self, if_true]
    exact ⟨rfl, rfl⟩
  · simp only [if_neg hptp, plan_start_frame, takeRate_start_frame, and_self]

/-- A pulse that is overdue on a clock that has not lost genlock loses it (R40). -/
theorem exec_genlockTimeout_of_overdue (n : Fin 4) (hheld : s.gth.held = false) (hmode : (s.lclock n).mode = 2)
    (hlost : s.on SDL_LC_STAT_GENLOCK_LOST n = false)
    (hdue : (s.lclock n).lastPulse + (2 * ((s.lclock n).div + 1) : Nat) * (s.lclock n).period ≤ s.baseRat (s.lclock n).base) :
    exec (.genlockTimeout n) s = .next (s.after ((s.raise SDL_LC_STAT_GENLOCK_LOST n).alarm (0x0C + n) 0x0603)) := by
  have hnot : ¬ s.on SDL_LC_STAT_GENLOCK_LOST n = true := Bool.eq_false_iff.mp hlost
  have hover : genlockOverdue s n = true := decide_eq_true ⟨hmode, hnot, hdue⟩
  exact next_of_done hheld rfl ((if_pos hover).trans (if_neg hnot))
end

/-- A fold over the four line clocks, written out. -/
theorem foldl_range_four {α : Type} (f : α → Nat → α) (a : α) : (List.range 4).foldl f a = f (f (f (f a 0) 1) 2) 3 := rfl

/-- Settles O11: the commands by their conditions, and the frame that a clock starts. -/
theorem lineClockCommands : Obligations.LineClockCommands := by
  unfold Obligations.LineClockCommands
  intro s hheld
  exact ⟨fun mask => next_of_done hheld rfl rfl, fun n hdue => next_of_done hheld rfl (if_pos hdue),
    fun n x hlive => lcAdvance_start_frame s n x hlive, next_of_done hheld rfl (foldl_range_four _ s),
    fun n hmode hlost hdue => exec_genlockTimeout_of_overdue s n hheld hmode hlost hdue⟩
end Sys2Proof.Proofs
end

section
/-! PROOF. The front end's instructions (R89, R98-R101, R133-R140): each is issued on its words, and its meaning has one case per
condition. -/
namespace Sys2Proof.Proofs
open Sys2Proof Sys2Proof.Machine Sys2Proof.Laws

/-- What an instruction that the program may issue answers. -/
theorem next_of_issue {c : Instr} {s u : State} {k o : Nat} {f : List Nat → State} (hheld : s.gth.held = false)
    (hcan : s.canIssue k o = true) (hexec : exec c s = done s (s.issue k o f)) (h : f (s.instrAt k) = u) :
    exec c s = .next (s.after (s.ctlBeat k u)) :=
  next_of_done hheld hexec ((if_pos hcan).trans (congrArg (s.ctlBeat k) h))

/-- What a plot's command answers while the plot may issue. -/
theorem next_of_live {c : Instr} {s t u : State} {p : Nat} (hheld : s.gth.held = false) (hlive : s.plotLive p = true)
    (hexec : exec c s = done s (if s.plotLive p then t else s)) (h : t = u) : exec c s = .next (s.after u) :=
  next_of_done hheld hexec ((if_pos hlive).trans h)

section
variable (s : State) (k : Nat) (ws : List Nat)

/-! LOOP and ENDLOOP (R137, R138). -/

theorem doLoop_of_outermost (hloops : (s.prog k).loops = []) (houter : (s.prog k).outerDone = false) :
    s.doLoop k ws = s.setProg k { s.prog k with
      pc := (s.prog k).pc + 1,
      loops := [⟨(s.prog k).pc + 1, (endOf (s.prog k).code (s.prog k).pc).getD (s.prog k).pc, bits (word ws 0) 0 32, 0, true⟩] } :=
  if_pos ⟨List.isEmpty_iff.mpr hloops, Bool.eq_false_iff.mp houter⟩

theorem not_outermost (hloops : (s.prog k).loops ≠ []) : ¬ ((s.prog k).loops.isEmpty = true ∧ ¬ (s.prog k).outerDone = true) :=
  fun h => hloops (List.isEmpty_iff.mp h.1)

theorem doLoop_of_inner (hloops : (s.prog k).loops ≠ []) (hpos : bits (word ws 0) 0 32 ≠ 0) (hmax : bits (word ws 0) 0 32 ≤ 65535) :
    s.doLoop k ws = s.setProg k { s.prog k with
      pc := (s.prog k).pc + 1,
      loops := ⟨(s.prog k).pc + 1, (endOf (s.prog k).code (s.prog k).pc).getD (s.prog k).pc, bits (word ws 0) 0 32, 0, false⟩
        :: (s.prog k).loops } :=
  (if_neg (not_outermost s k hloops)).trans ((if_neg (Nat.not_lt.mpr hmax)).trans (if_neg hpos))

theorem doLoop_of_zero (hloops : (s.prog k).loops ≠ []) (hzero : bits (word ws 0) 0 32 = 0) :
    s.doLoop k ws = s.goto k ((endOf (s.prog k).code (s.prog k).pc).getD (s.prog k).pc + 1) :=
  (if_neg (not_outermost s k hloops)).trans ((if_neg (by omega)).trans (if_pos hzero))

theorem doEndloop_of_outer (f : LoopFrame) (t : List LoopFrame) (hloops : (s.prog k).loops = f :: t) (houter : f.outer = true) :
    s.doEndloop k = s.setProg k { s.prog k with wait := .drain } := by
  simp only [State.doEndloop, hloops, if_pos houter]

theorem doEndloop_of_again (f : LoopFrame) (t : List LoopFrame) (hloops : (s.prog k).loops = f :: t) (hinner : f.outer = false)
    (hagain : f.idx + 1 < f.count) :
    s.doEndloop k = s.setProg k { s.prog k with pc := f.start, loops := { f with idx := f.idx + 1 } :: t } := by
  simp only [State.doEndloop, hloops, hinner, Bool.false_eq_true, if_false, if_pos hagain]

theorem doEndloop_of_last (f : LoopFrame) (t : List LoopFrame) (hloops : (s.prog k).loops = f :: t) (hinner : f.outer = false)
    (hlast : f.count ≤ f.idx + 1) :
    s.doEndloop k = (s.setProg k { s.prog k with loops := t }).goto k ((s.prog k).pc + 1) := by
  simp only [State.doEndloop, hloops, hinner, Bool.false_eq_true, if_false, if_neg (Nat.not_lt.mpr hlast)]

/-- A BR whose operands and target are good goes to its target or on (R139). -/
theorem doBr_of_good (hbad : State.brBad (s.prog k) (word ws 0) = false)
    (hinside : State.brInside (s.prog k) (((s.prog k).pc : Int) + toSigned 16 (bits (word ws 0) 0 16)) = true) :
    s.doBr k ws =
      (if bits (word ws 0) 51 3 = 5 then s.setProg k { s.prog k with timeout := false } else s).goto k
        (if State.brTaken (s.prog k) (word ws 0) then (((s.prog k).pc : Int) + toSigned 16 (bits (word ws 0) 0 16)).toNat
          else (s.prog k).pc + 1) := by
  simp only [State.doBr, hbad, hinside, Bool.false_eq_true, if_false, not_true_eq_false]
  exact (apply_ite _ _ _ _).symm

/-! COMMIT (R105). -/

theorem closeSpan_of_none (p : Nat) (h : s.span p = none) : s.closeSpan p = s := by
  simp only [State.closeSpan, h]

/-- A span before its due position that posts no band is closed. -/
theorem closeSpan_of_in_time (p : Nat) (x : Span) (h : s.span p = some x) (hlate : s.spanLate x = false) (hband : x.band = none) :
    s.closeSpan p = s.setSpan p none := by
  simp only [State.closeSpan, h, hlate, hband, Bool.false_eq_true, if_false]
end

/-- Settles O12: each instruction by the cases of its meaning. -/
theorem controlInstructions : Obligations.ControlInstructions := by
  unfold Obligations.ControlInstructions
  intro k s hheld K g ws
  refine ⟨fun hcan => ?nop, fun hcan => ?halt, fun hcan hloop => ?loop, fun hcan hend f t hloops => ?endloop,
    fun hcan => ?br, fun hcan hspan => ?commit, fun hcan x hspan hlate hband => ?close⟩
  case nop => exact next_of_issue hheld hcan rfl rfl
  case halt => exact next_of_issue hheld hcan rfl rfl
  case loop =>
    have hno : ¬ bit (word ws 0) 53 = true := Bool.eq_false_iff.mp hloop
    exact ⟨fun hloops houter => next_of_issue hheld hcan rfl ((if_neg hno).trans (doLoop_of_outermost s K ws hloops houter)),
      fun hloops hpos hmax => next_of_issue hheld hcan rfl ((if_neg hno).trans (doLoop_of_inner s K ws hloops hpos hmax)),
      fun hloops hzero => next_of_issue hheld hcan rfl ((if_neg hno).trans (doLoop_of_zero s K ws hloops hzero))⟩
  case endloop =>
    exact ⟨fun houter => next_of_issue hheld hcan rfl ((if_pos hend).trans (doEndloop_of_outer s K f t hloops houter)),
      fun hinner hagain => next_of_issue hheld hcan rfl ((if_pos hend).trans (doEndloop_of_again s K f t hloops hinner hagain)),
      fun hinner hlast => next_of_issue hheld hcan rfl ((if_pos hend).trans (doEndloop_of_last s K f t hloops hinner hlast))⟩
  case br =>
    intro w tgt hbad hinside u
    exact next_of_issue hheld hcan rfl (doBr_of_good s K ws hbad hinside)
  case commit => exact next_of_issue hheld hcan rfl (congrArg (State.advance · K) (closeSpan_of_none s _ hspan))
  case close => exact next_of_issue hheld hcan rfl (congrArg (State.advance · K) (closeSpan_of_in_time s _ x hspan hlate hband))

/-- A waiting FENCE whose wait is over goes on (R140). -/
theorem fenceDone_of_ok (s : State) (k : Nat) (b : Bool) (hwait : (s.prog k).wait = .fence b) (hok : s.fenceOk k b = true) :
    s.fenceDone k = (s.setProg k { s.prog k with wait := .none }).advance k := by
  simp only [State.fenceDone, hwait, if_pos hok]

/-- Settles O13: a FENCE by whether its wait is over; the drain point by its readiness. -/
theorem fencesAndDrains : Obligations.FencesAndDrains := by
  unfold Obligations.FencesAndDrains
  intro k s hheld K g bel
  exact ⟨fun hcan hok => next_of_issue hheld hcan rfl (if_pos hok),
    fun hcan hno => next_of_issue hheld hcan rfl (if_neg (Bool.eq_false_iff.mp hno)),
    fun b hlive hwait hok => next_of_live hheld hlive rfl (fenceDone_of_ok s K b hwait hok),
    fun hready => next_of_done hheld rfl (if_pos hready)⟩

/-- Settles O14: each descriptor passes its check. -/
theorem descriptorsFill : Obligations.DescriptorsFill := by
  unfold Obligations.DescriptorsFill
  intro k s hheld K g ws rs mask
  exact ⟨fun hcan hok => next_of_issue hheld hcan rfl (if_pos hok), fun hcan hring => next_of_issue hheld hcan rfl (if_pos hring),
    fun hcan hkw hkh hdw hdh hgroup => next_of_issue hheld hcan rfl (if_pos ⟨hkw, hkh, hdw, hdh, hgroup⟩)⟩

section
variable (s : State) (k : Nat) (ws : List Nat)

/-! Wickets (R97-R100, R133). The wicket of an instruction's words, and how many it signals or waits for. -/

/-- A wicket that the program may signal or wait on: of its context, and in no barrier. -/
theorem wicket_mine {w : Nat} (hmine : s.wktOwned w (s.plotCtx (keyPlot k)) = true ∧ s.on PTR_WKT_BMODE w = false) :
    ¬ (¬ s.wktOwned w (s.plotCtx (keyPlot k)) = true ∨ s.on PTR_WKT_BMODE w = true) := by
  obtain ⟨howned, hmode⟩ := hmine
  rw [howned, hmode]
  simp

theorem doWsig_of_mine
    (hmine : s.wktOwned (bits (word ws 0) 36 17) (s.plotCtx (keyPlot k)) = true ∧ s.on PTR_WKT_BMODE (bits (word ws 0) 36 17) = false)
    (hpos : bits (word ws 0) 20 16 ≠ 0) :
    s.doWsig k ws = (s.setProg k { s.prog k with
      sigs := (s.prog k).sigs ++ [⟨bits (word ws 0) 36 17, bits (word ws 0) 20 16, (s.prog k).seqNext, (s.prog k).pc⟩] }).advance k :=
  (if_neg hpos).trans (if_neg (wicket_mine s k hmine))

/-- A WSIG takes effect where its program may signal the wicket, and else faults at its own word (R98). -/
theorem giveSig_eq (x : Sig) :
    s.giveSig k x =
      if s.wktOwned x.w (s.plotCtx (keyPlot k)) = true ∧ s.on PTR_WKT_BMODE x.w = false then s.wktGive x.w x.n
      else s.tearStart (s.plotCtx (keyPlot k)) 0x020A (keyPlot k) (keyStage k) x.pc (s.prog k).step := by
  simp only [State.giveSig, Bool.not_eq_true]
  rfl

/-- Program `k` waits on wicket `w` of its context, which it may bind: what is left of WWAIT once it is bound (R99, R133). -/
structure WaitsOn (s : State) (k : Nat) (ws : List Nat) (w n tmo : Nat) : Prop where
  wicket : bits (word ws 0) 36 17 = w
  count : bits (word ws 0) 20 16 = n
  timeout : bits (word ws 0) 0 20 = tmo
  owned : s.wktOwned w (s.plotCtx (keyPlot k)) = true
  noBarrier : s.on PTR_WKT_BMODE w = false
  free : s.canBind w k = true

section
variable {s k ws}
variable {w n tmo : Nat} (h : WaitsOn s k ws w n tmo)
include h

theorem WaitsOn.may :
    ¬ (¬ s.wktOwned w (s.plotCtx (keyPlot k)) = true ∨ s.on PTR_WKT_BMODE w = true ∨ ¬ s.canBind w k = true) := by
  rw [h.owned, h.noBarrier, h.free]
  simp

theorem WaitsOn.doWwait_of_zero (hzero : n = 0) : s.doWwait k ws = (s.bindWaiter w k).advance k := by
  simp only [State.doWwait, h.wicket, h.count, if_neg h.may, if_pos hzero]

theorem WaitsOn.doWwait_of_count (hpos : n ≠ 0) (hproxy : (s.bindWaiter w k).proxyOf w = none)
    (hcount : n ≤ ((s.bindWaiter w k).wkt w).count) (hfree : (s.bindWaiter w k).frozen w = false) :
    s.doWwait k ws = (((s.bindWaiter w k).setWkt w
      { (s.bindWaiter w k).wkt w with count := ((s.bindWaiter w k).wkt w).count - n }).strmConsume w n).advance k := by
  have htake : n ≤ ((s.bindWaiter w k).wkt w).count ∧ ¬ (s.bindWaiter w k).frozen w = true := ⟨hcount, Bool.eq_false_iff.mp hfree⟩
  simp only [State.doWwait, h.wicket, h.count, if_neg h.may, if_neg hpos, hproxy, if_pos htake]

theorem WaitsOn.doWwait_of_short (hpos : n ≠ 0) (hproxy : (s.bindWaiter w k).proxyOf w = none)
    (hcount : ((s.bindWaiter w k).wkt w).count < n) :
    s.doWwait k ws = (s.bindWaiter w k).setProg k { (s.bindWaiter w k).prog k with
      wait := .wwait w n (if tmo = 0 then none else some ((s.bindWaiter w k).fc + 64 * tmo)), waitAt := (s.bindWaiter w k).fc } := by
  have hshort : ¬ (n ≤ ((s.bindWaiter w k).wkt w).count ∧ ¬ (s.bindWaiter w k).frozen w = true) := fun hn =>
    Nat.not_le.mpr hcount hn.1
  simp only [State.doWwait, h.wicket, h.count, h.timeout, if_neg h.may, if_neg hpos, hproxy, if_neg hshort]
end

theorem wwaitRelease_of_count (x m : Nat) (d : Option Nat) (hwait : (s.prog k).wait = .wwait x m d) (hcount : m ≤ (s.wkt x).count)
    (hfree : s.frozen x = false) :
    s.wwaitRelease k = (((s.setWkt x { s.wkt x with count := (s.wkt x).count - m }).strmConsume x m).setProg k
      { s.prog k with wait := .none, lastWait := some (x, m) }).advance k := by
  simp only [State.wwaitRelease, hwait, hcount, hfree, Bool.false_eq_true, not_false_eq_true, and_self, if_true]

theorem wwaitTimeout_of_due (x m d : Nat) (hwait : (s.prog k).wait = .wwait x m (some d)) (hdue : d ≤ s.fc)
    (hcount : (s.wkt x).count < m) : s.wwaitTimeout k = s.waitExpired k := by
  simp only [State.wwaitTimeout, hwait, hdue, hcount, true_or, and_self, if_true]
end

/-- Settles O16: the instructions on a wicket of the context, and what becomes of what waits. -/
theorem wicketInstructions : Obligations.WicketInstructions := by
  unfold Obligations.WicketInstructions
  intro k s hheld K g ws w n tmo mine
  refine ⟨fun x o v => next_of_done hheld rfl rfl, fun hcan hmine hpos => ?signal, fun hactive => ?release, fun hcan hmine hbind => ?wait,
    fun x m d hlive hwait hcount hfree => ?released, fun x m d hlive hwait hdue hcount => ?expired⟩
  case signal => exact next_of_issue hheld hcan rfl (doWsig_of_mine s K ws hmine hpos)
  case release =>
    refine next_of_done hheld rfl ((if_pos hactive).trans ?_)
    simp only [State.releaseSigs, giveSig_eq]
    rfl
  case wait =>
    have hw : WaitsOn s K ws w n tmo := ⟨rfl, rfl, rfl, hmine.1, hmine.2, hbind⟩
    exact ⟨fun hzero => next_of_issue hheld hcan rfl (hw.doWwait_of_zero hzero),
      fun hpos hproxy hcount hfree => next_of_issue hheld hcan rfl (hw.doWwait_of_count hpos hproxy hcount hfree),
      fun hpos hproxy hcount => next_of_issue hheld hcan rfl (hw.doWwait_of_short hpos hproxy hcount)⟩
  case released => exact next_of_live hheld hlive rfl (wwaitRelease_of_count s K x m d hwait hcount hfree)
  case expired => exact next_of_live hheld hlive rfl (wwaitTimeout_of_due s K x m d hwait hdue hcount)

/-- An arrival that agrees with those of its release joins them (R100). -/
theorem doBarrier_of_agrees (s : State) (k : Nat) (ws : List Nat) :
    let w := bits (word ws 0) 36 17; let n := bits (word ws 0) 28 8 + 1; let grp := bit (word ws 0) 27
    let g := s.wkt w
    s.wktOwned w (s.plotCtx (keyPlot k)) = true → s.fld PTR_WKT_WKIND w = 0 → g.arrived.contains k = false → n = State.barrierK g n →
    s.doBarrier k ws =
      ((s.setFld PTR_WKT_BMODE 1 w).setWkt w
        { g with k := if State.barrierFull g then g.k else n, nextK := if State.barrierFull g then n else g.nextK,
                 arrived := g.arrived ++ [k], count := g.arrived.length + 1,
                 group := g.group || (grp && !State.barrierFull g) }).setProg k { s.prog k with wait := .barrier w n grp } := by
  intro w n grp g howned hkind hnew hagree
  have hmay : ¬ (¬ s.wktOwned w (s.plotCtx (keyPlot k)) = true ∨ s.fld PTR_WKT_WKIND w ≠ 0) := by
    rw [howned, hkind]
    simp
  have hjoin : ¬ (g.arrived.contains k = true ∨ n ≠ State.barrierK g n) := fun h =>
    h.elim (Bool.eq_false_iff.mp hnew) (fun hne => hne hagree)
  exact (if_neg hmay).trans (if_neg hjoin)

/-- A full barrier of this chip, or out of a group, opens (R100). -/
theorem barrierRelease_of_full (s : State) (w : Nat) (hsome : (s.wkt w).arrived ≠ []) (hfull : (s.wkt w).k ≤ (s.wkt w).arrived.length)
    (hlocal : (s.wkt w).group = false ∨ s.gstate = 0) : s.barrierRelease w = s.barrierOpen w := by
  have hbarrier : State.barrierFull (s.wkt w) = true := by
    rw [State.barrierFull, List.isEmpty_eq_false_iff.mpr hsome, decide_eq_true hfull]
    rfl
  have hchip : ¬ ((s.wkt w).group = true ∧ s.gstate ≠ 0) := fun h =>
    hlocal.elim (fun hno => Bool.eq_false_iff.mp hno h.1) h.2
  exact (if_neg (not_not_intro hbarrier)).trans (if_neg hchip)

/-- Settles O17: an arrival joins, a full barrier opens. -/
theorem barriers : Obligations.Barriers := by
  unfold Obligations.Barriers
  constructor
  · intro k s hheld hcan K w0 w n grp g full howned hkind hnew hagree u
    exact next_of_issue hheld hcan rfl (doBarrier_of_agrees s K (s.instrAt K) howned hkind hnew hagree)
  · intro w s hheld hsome hfull hlocal
    exact next_of_done hheld rfl (barrierRelease_of_full s w.toNat hsome hfull hlocal)

section
variable (s : State) (k : Nat) (ws : List Nat)

/-! AT and DUE (R43, R44, R134, R135). -/

/-- The kind, index, frame, line and pixel that an AT's words name, with REL resolved by the program's step. -/
def atTarget : Nat × Nat × Nat × Nat × Nat :=
  (bits (word ws 0) 53 1, bits (word ws 0) 50 3,
    if bits (word ws 0) 53 1 = 0 then State.relFrame (bit (word ws 0) 49) (s.prog k).step (bits (word ws 0) 0 32) else word ws 1,
    bits (word ws 1) 16 16, bits (word ws 1) 0 16)

/-- An AT with a good target on a clock that runs goes on where it has passed, and else waits. -/
theorem doAt_of_good :
    let (kind, idx, f, l, p) := atTarget s k ws
    (kind = 0 → idx ≤ 3 ∧ l ≠ 65535) → (kind = 1 → bit (word ws 0) 49 = false) → s.atOff kind idx = false →
    (s.atReached kind idx f l p = true → s.doAt k ws = (s.bump 0x0607 (keyPlot k)).advance k) ∧
    (s.atReached kind idx f l p = false → s.doAt k ws = s.setProg k { s.prog k with wait := .at kind idx f l p }) := by
  intro hclock hbase hon
  have hgood : ¬ ((bits (word ws 0) 53 1 = 0 ∧ (3 < bits (word ws 0) 50 3 ∨ bits (word ws 1) 16 16 = 65535)) ∨
      (bit (word ws 0) 49 = true ∧ bits (word ws 0) 53 1 = 1)) := by
    rintro (⟨hkind, hover | hline⟩ | ⟨hrel, hkind⟩)
    · exact Nat.not_lt.mpr (hclock hkind).1 hover
    · exact (hclock hkind).2 hline
    · exact Bool.eq_false_iff.mp (hbase hkind) hrel
  have hoff := Bool.eq_false_iff.mp hon
  exact ⟨fun h => (if_neg hgood).trans ((if_neg hoff).trans (if_pos h)),
    fun h => (if_neg hgood).trans ((if_neg hoff).trans (if_neg (Bool.eq_false_iff.mp h)))⟩

theorem atStep_of_reached (kind idx f l p : Nat) (hwait : (s.prog k).wait = .at kind idx f l p) (hon : s.atOff kind idx = false)
    (hreached : s.atReached kind idx f l p = true) : s.atStep k = (s.setProg k { s.prog k with wait := .none }).advance k := by
  simp only [State.atStep, hwait, hon, hreached, Bool.false_eq_true, if_false, if_true]

/-- The span that a DUE opens which posts to no stream. -/
def dueSpan : Span :=
  { lc := bits (word ws 0) 52 2, f := State.relFrame (bit (word ws 0) 51) (s.prog k).step (bits (word ws 0) 0 32),
    l := bits (word ws 2) 16 16, p := bits (word ws 2) 0 16, stat := bits (word ws 1) 32 32, wcet := bits (word ws 1) 0 32,
    warn := if bit (word ws 0) 33 then some (bits (word ws 0) 34 17) else none, issued := s.fc, done := 0, warned := false,
    missed := false }

theorem doDue_of_no_stream (hspan : s.span (keyPlot k) = none) (hpost : s.on PLT_POST_SV (keyPlot k) = false)
    (hon : (s.lclock (bits (word ws 0) 52 2)).mode ≠ 0) (hrel : bit (word ws 0) 51 = true → s.headlessPlot (keyPlot k) = false) :
    s.doDue k ws =
      ((if (s.lclock (dueSpan s k ws).lc).live = true ∧
            s.spanDue (dueSpan s k ws) < s.spanNow (dueSpan s k ws) + State.fcTime (dueSpan s k ws).wcet
          then s.bump 0x0606 (keyPlot k) else s).setSpan (keyPlot k) (some (dueSpan s k ws))).advance k := by
  have hok : ¬ ((s.lclock (bits (word ws 0) 52 2)).mode = 0 ∨ (bit (word ws 0) 51 = true ∧ s.headlessPlot (keyPlot k) = true)) := by
    rintro (hoff | ⟨h, hheadless⟩)
    · exact hon hoff
    · exact Bool.eq_false_iff.mp (hrel h) hheadless
  simp only [State.doDue, hpost, Bool.and_false, Bool.false_eq_true, false_and, if_false, if_neg hok,
    closeSpan_of_none s (keyPlot k) hspan, not_false_eq_true, if_true]
  rfl

theorem lineCheck_of_span (p fin : Nat) (x : Span) (hspan : s.span p = some x) :
    s.lineCheck p fin =
      (if (s.setSpan p (some { x with done := max x.done fin })).spanDue { x with done := max x.done fin } <
            (s.setSpan p (some { x with done := max x.done fin })).spanNow { x with done := max x.done fin } +
              State.fcTime (x.stat - max x.done fin)
        then (s.setSpan p (some { x with done := max x.done fin })).lateWarn p
        else s.setSpan p (some { x with done := max x.done fin })) := by
  simp only [State.lineCheck, hspan]

/-- A span already warned of, and not yet missed, misses its due position (R44). -/
theorem dueMiss_of_warned (p : Nat) (x : Span) (hspan : s.span p = some x) (hwarned : x.warned = true) (hmissed : x.missed = false) :
    s.dueMiss p = (s.setProg (condKey p)
      { s.prog (condKey p) with span := some { x with missed := true }, misses := (s.prog (condKey p)).misses + 1 }).bump 0x0605 p := by
  have hwarn : s.lateWarn p = s := by simp only [State.lateWarn, hspan, hwarned, if_true]
  simp only [State.dueMiss, hwarn, hspan, hmissed, Bool.false_eq_true, if_false]
end

/-- Settles O18: AT and DUE by their targets; the checks by the span that is open. -/
theorem lineTimeInstructions : Obligations.LineTimeInstructions := by
  unfold Obligations.LineTimeInstructions
  intro k s hheld K g ws w P
  refine ⟨fun hcan hclock hbase hon => ?target, fun kind idx f l p hlive hwait hon hreached => ?complete,
    fun hcan hspan hpost hon hrel => ?due, fun p fin x hspan hstarted => ?line, fun p x hspan hlate hwarned hmissed => ?miss⟩
  case target =>
    obtain ⟨hpassed, hwaits⟩ := doAt_of_good s K ws hclock hbase hon
    exact ⟨fun h => next_of_issue hheld hcan rfl (hpassed h), fun h => next_of_issue hheld hcan rfl (hwaits h)⟩
  case complete => exact next_of_live hheld hlive rfl (atStep_of_reached s K kind idx f l p hwait hon hreached)
  case due => exact next_of_issue hheld hcan rfl (doDue_of_no_stream s K ws hspan hpost hon hrel)
  case line =>
    have hexec : exec (.lineStartCheck p fin) s =
        done s (match s.span p with | some x => if s.lineStarted x.lc then s.lineCheck p fin.toNat else s | none => s) := rfl
    refine next_of_done hheld hexec ?_
    rw [hspan]
    exact (if_pos hstarted).trans (lineCheck_of_span s p fin.toNat x hspan)
  case miss =>
    have hexec : exec (.duePositionReached p) s =
        done s (match s.span p with | some x => if s.spanLate x then s.dueMiss p else s | none => s) := rfl
    refine next_of_done hheld hexec ?_
    rw [hspan]
    exact (if_pos hlate).trans (dueMiss_of_warned s p x hspan hwarned hmissed)
end Sys2Proof.Proofs
end

section
/-! PROOF. The life of slot commands (R89-R96, R129-R132, R141, R144): issue, firing, running, commit, and the landing of tokens. -/
namespace Sys2Proof.Proofs
open Sys2Proof Sys2Proof.Machine Sys2Proof.Laws

/-- The slot instructions with their opcodes, DIGEST apart, whose MODE 0 only arms (R141). -/
def slotIssues (k : ProgId) : List (Nat × Instr) :=
  [(0x20, .conv k .issue), (0x21, .dwconv k .issue), (0x22, .gemm k .issue), (0x23, .pool k .issue), (0x24, .resamp k .issue),
    (0x25, .elt k .issue), (0x26, .act k .issue), (0x27, .norm k .issue), (0x28, .smax k .issue), (0x29, .reduce k .issue),
    (0x2A, .quant k .issue), (0x79, .rng k .issue), (0x30, .flow k), (0x31, .disp k), (0x32, .warp k), (0x40, .load k .issue),
    (0x41, .store k .issue), (0x42, .send k .issue), (0x43, .recv k .issue), (0x44, .halo k .issue), (0x45, .atom k .issue),
    (0x62, .time k .issue), (0x7A, .stat k .issue)]

/-- Each of them issues under its opcode. -/
theorem exec_slotIssues (k : ProgId) (s : State) :
    ∀ x ∈ slotIssues k, exec x.2 s = done s (s.issue (pkey k) x.1 (s.issueSlot (pkey k))) := by
  simp only [slotIssues, List.forall_mem_cons]
  exact ⟨rfl, rfl, rfl, rfl, rfl, rfl, rfl, rfl, rfl, rfl, rfl, rfl, rfl, rfl, rfl, rfl, rfl, rfl, rfl, rfl, rfl, rfl, rfl,
    List.forall_mem_nil _⟩

/-- The run of a fired command, by opcode: the compute commands (R91). -/
def computeRuns (k : ProgId) : List (Nat × Instr) :=
  [(0x20, .conv k .run), (0x21, .dwconv k .run), (0x22, .gemm k .run), (0x23, .pool k .run), (0x24, .resamp k .run),
    (0x25, .elt k .run), (0x26, .act k .run), (0x27, .norm k .run), (0x28, .smax k .run), (0x29, .reduce k .run),
    (0x2A, .quant k .run), (0x79, .rng k .run)]

/-- The run of a fired command, by opcode: the movement commands, HALO apart (R131). -/
def moveRuns (k : ProgId) : List (Nat × Instr) :=
  [(0x40, .load k .run), (0x41, .store k .run), (0x42, .send k .run), (0x43, .recv k .run), (0x45, .atom k .run),
    (0x62, .time k .run), (0x7A, .stat k .run), (0x78, .digest k .run)]

theorem exec_computeRuns (k : ProgId) (s : State) :
    ∀ x ∈ computeRuns k, exec x.2 s = done s (s.runSlot (pkey k) x.1) ∧ isCompute x.1 = true := by
  simp only [computeRuns, List.forall_mem_cons]
  exact ⟨⟨rfl, rfl⟩, ⟨rfl, rfl⟩, ⟨rfl, rfl⟩, ⟨rfl, rfl⟩, ⟨rfl, rfl⟩, ⟨rfl, rfl⟩, ⟨rfl, rfl⟩, ⟨rfl, rfl⟩, ⟨rfl, rfl⟩, ⟨rfl, rfl⟩,
    ⟨rfl, rfl⟩, ⟨rfl, rfl⟩, List.forall_mem_nil _⟩

theorem exec_moveRuns (k : ProgId) (s : State) :
    ∀ x ∈ moveRuns k, exec x.2 s = done s (s.runSlot (pkey k) x.1) ∧ isCompute x.1 = false := by
  simp only [moveRuns, List.forall_mem_cons]
  exact ⟨⟨rfl, rfl⟩, ⟨rfl, rfl⟩, ⟨rfl, rfl⟩, ⟨rfl, rfl⟩, ⟨rfl, rfl⟩, ⟨rfl, rfl⟩, ⟨rfl, rfl⟩, ⟨rfl, rfl⟩, List.forall_mem_nil _⟩

section
variable (s : State) (k : Nat)

/-- A slot instruction whose slot is free, on a plot whose channels are checked, and that passes its checks is dispatched (R89, R144). -/
theorem issueSlot_of_ready (ws : List Nat) (hslot : State.slotWaits (s.prog k) (opc (word ws 0)) = false)
    (hdesc : isCond k = true ∨ (s.allDesc (keyPlot k) = true ∧ (s.plot (keyPlot k)).chanOk = true)) (hcheck : s.issueCheck k ws = none) :
    s.issueSlot k ws = s.dispatch k ws := by
  have hgo : ¬ (State.slotWaits (s.prog k) (opc (word ws 0)) = true ∨ (¬ isCond k = true ∧ ¬ s.allDesc (keyPlot k) = true)) := by
    rintro (hwaits | ⟨hplot, hnone⟩)
    · exact Bool.false_ne_true (hslot.symm.trans hwaits)
    · exact hdesc.elim hplot fun h => hnone h.1
  have hchan : isCond k = true ∨ (s.plot (keyPlot k)).chanOk = true := hdesc.imp_right And.right
  refine (if_neg hgo).trans ((if_pos hchan).trans ?_)
  simp only [State.issueChecked, hcheck]

theorem armDigest_of_ok (ws : List Nat) (hcheck : s.issueCheck k ws = none) :
    s.armDigest k ws = (s.setProg k { s.prog k with
      arms := (s.prog k).arms.filter (fun a => a.1 != recTT (word ws 0)) ++
        [(recTT (word ws 0), recTD (word ws 0), bits (word ws 1) 0 32)] }).advance k := by
  simp only [State.armDigest, hcheck]

variable (c : Cmd)

/-- The run of a fired command of an ACTIVE context (R91). -/
theorem runSlot_of_fired (o : Nat) (hctx : s.ctxActive (s.plotCtx (keyPlot k)) = true) (hfired : s.firedOf k o = some c) :
    s.runSlot k o = if isCompute o then s.runCompute k c else s.runMove k c := by
  simp only [State.runSlot, hctx, hfired, not_true_eq_false, if_false]

/-! A movement command that may run (R130-R132, R335). -/

theorem runMove_of_poison (hmay : s.moveMay k c = true) (hpoison : s.movePoison k c = true) : s.runMove k c = s.runFault k c 0x0908 :=
  (if_neg (not_not_intro hmay)).trans (if_pos hpoison)

theorem runMove_of_skew (hmay : s.moveMay k c = true) (hpoison : s.movePoison k c = false) (y : Nat × Nat × Nat × Nat)
    (hskew : s.loadSkew k c = some y) : s.runMove k c = s.runFault k c 0x0107 (State.skewNames (some y)) := by
  simp only [State.runMove, hmay, hpoison, hskew, not_true_eq_false, Bool.false_eq_true, if_false, Option.isSome_some, if_true]

theorem runMove_of_clean (hmay : s.moveMay k c = true) (hpoison : s.movePoison k c = false) (hskew : s.loadSkew k c = none) :
    s.runMove k c = if opc (word c.words 0) = 0x45 then s.runAdd k c
      else s.moveFinish k c (s.moveDo k c).1 (s.moveDo k c).2 := by
  simp only [State.runMove, hmay, hpoison, hskew, not_true_eq_false, Bool.false_eq_true, if_false, Option.isSome_none]

/-! HALO's run (R305, R311). -/

theorem haloRun_of_fired (hctx : s.ctxActive (s.plotCtx (keyPlot k)) = true) (hfired : s.haloCmd k = some c) (hnew : c.remote = false) :
    s.haloRun k = if s.islanded then s.haloZero k c
      else (s.setProg k { s.prog k with
        cmds := (s.prog k).cmds.map (fun e => if e.seq = c.seq then { e with remote := true } else e) }).haloSend k c := by
  simp only [State.haloRun, hctx, hfired, hnew, not_true_eq_false, Bool.false_eq_true, if_false]
end

/-- Settles O19: the slot instructions issue under their opcodes, and a command that may be dispatched is. -/
theorem slotInstructionsDispatch : Obligations.SlotInstructionsDispatch := by
  unfold Obligations.SlotInstructionsDispatch
  refine ⟨?dispatched, ?armed⟩
  case dispatched =>
    intro k o c s hmem hheld hcan K g ws hmode hslot hdesc hcheck c'
    have hdispatch : s.issueSlot K ws = s.dispatch K ws := issueSlot_of_ready s K ws hslot hdesc hcheck
    rcases List.mem_append.mp (show (o, c) ∈ slotIssues k ++ [(0x78, .digest k .issue)] from hmem) with hplain | hdigest
    · exact next_of_issue hheld hcan (exec_slotIssues k s _ hplain) hdispatch
    · obtain ⟨rfl, rfl⟩ := Prod.mk.inj (List.mem_singleton.mp hdigest)
      exact next_of_issue hheld hcan rfl ((if_pos (hmode rfl)).trans hdispatch)
  case armed =>
    intro k s hheld hcan K g ws hmode hcheck
    exact next_of_issue hheld hcan rfl ((if_neg (Bool.eq_false_iff.mp hmode)).trans (armDigest_of_ok s K ws hcheck))

/-- Settles O20: the fired compute command runs, and its result decides. -/
theorem computeCommandsRun : Obligations.ComputeCommandsRun := by
  unfold Obligations.ComputeCommandsRun
  intro k o c s x hmem hheld hctx hfired hopc r u
  obtain ⟨hexec, hcompute⟩ := exec_computeRuns k s (o, c) hmem
  have hrun : s.runSlot (pkey k) o = s.runCompute (pkey k) x :=
    (runSlot_of_fired s (pkey k) x o hctx hfired).trans (if_pos hcompute)
  subst hopc
  refine ⟨fun y hr => next_of_done hheld hexec (hrun.trans ?_), fun e hr => next_of_done hheld hexec (hrun.trans ?_)⟩ <;>
  · simp only [State.runCompute]
    rw [show (if isRng (opc (word x.words 0)) then _ else _) = _ from hr]

/-- Settles O21: the fired movement command may run, and what it reads decides. -/
theorem movementCommandsRun : Obligations.MovementCommandsRun := by
  unfold Obligations.MovementCommandsRun
  refine ⟨?moves, ?halo⟩
  case moves =>
    intro k o c s x hmem hheld hctx hfired hmay
    obtain ⟨hexec, hmove⟩ := exec_moveRuns k s (o, c) hmem
    have hrun : s.runSlot (pkey k) o = s.runMove (pkey k) x :=
      (runSlot_of_fired s (pkey k) x o hctx hfired).trans (if_neg (Bool.eq_false_iff.mp hmove))
    exact ⟨fun hpoison hskew hopc =>
        next_of_done hheld hexec (hrun.trans ((runMove_of_clean s _ x hmay hpoison hskew).trans (if_neg hopc))),
      fun hpoison hskew hopc =>
        next_of_done hheld hexec (hrun.trans ((runMove_of_clean s _ x hmay hpoison hskew).trans (if_pos hopc))),
      fun hpoison => next_of_done hheld hexec (hrun.trans (runMove_of_poison s _ x hmay hpoison)),
      fun y hpoison hskew => next_of_done hheld hexec (hrun.trans (runMove_of_skew s _ x hmay hpoison y hskew))⟩
  case halo =>
    intro k s x hheld hctx hfired hnew
    have hrun := haloRun_of_fired s (pkey k) x hctx hfired hnew
    exact ⟨fun hisl => next_of_done hheld rfl (hrun.trans (if_pos hisl)),
      fun hno => next_of_done hheld rfl (hrun.trans (if_neg (Bool.eq_false_iff.mp hno)))⟩

section
variable (s : State) (k : Nat) (c : Cmd)

/-- The next command of a slot fires, ready and its checks passed (R90). -/
theorem commandFire_of_ready (sl : Nat) (hlive : s.plotLive (keyPlot k) = true) (hnext : s.nextToFire k sl = some c)
    (hready : s.cmdReady k c = true) (hfree : s.belHolds k c = false) (hcheck : s.fireCheck k c.words = none) :
    s.commandFire k sl = s.fireDo k c := by
  simp only [State.commandFire, State.fireCmd, hlive, hnext, hready, hfree, hcheck, not_true_eq_false, Bool.false_eq_true,
    not_false_eq_true, and_true, if_true, if_false]

variable (t : List Cmd)

/-- Only the oldest command commits, and only finished (R91). -/
theorem commitReady_of_finished (hcmds : (s.prog k).cmds = c :: t) (hdone : c.phase = .finished) (hdue : c.due ≤ s.fc)
    (hctx : s.ctxActive (s.plotCtx (keyPlot k)) = true) : s.commitReady k = some c := by
  simp only [State.commitReady, hcmds, hdone, hdue, hctx, and_true, if_true]

theorem commitReady_of_unfinished (hcmds : (s.prog k).cmds = c :: t) (hrun : c.phase ≠ .finished) : s.commitReady k = none := by
  simp only [State.commitReady, hcmds, hrun, false_and, if_false]
end

/-- Settles O22: firing and committing by their readiness, a landing by the tag that still holds. -/
theorem commandsFireAndCommit : Obligations.CommandsFireAndCommit := by
  unfold Obligations.CommandsFireAndCommit
  intro k s hheld K
  refine ⟨fun mv c hlive hnext hready hfree hcheck =>
      next_of_done hheld rfl (commandFire_of_ready s K c _ hlive hnext hready hfree hcheck),
    fun c t hcmds hdone hdue hctx => next_of_done hheld rfl ?commit, fun c t hcmds hrun => next_of_done hheld rfl ?waits,
    fun p chid slot f hdue htag => next_of_done hheld rfl ?token, fun p chid slot f hdue htag => next_of_done hheld rfl ?credit⟩
  case commit =>
    rw [State.commandCommit, commitReady_of_finished s K c t hcmds hdone hdue hctx]
  case waits =>
    rw [State.commandCommit, commitReady_of_unfinished s K c t hcmds hrun]
  case token =>
    rw [hdue]
    exact if_pos htag
  case credit =>
    rw [hdue]
    exact if_pos htag
end Sys2Proof.Proofs
end

section
/-! PROOF. The switchable-function state machine (Table 11.1, R266, R267), state by state, and Belvedere's requests (R129, R168, R176-R179). -/
namespace Sys2Proof.Proofs
open Sys2Proof Sys2Proof.Machine Sys2Proof.Laws

section
variable (s : State) (f : FnId)

/-! A write of EN by the state it meets. -/

theorem enWrite_of_off_on (hoff : s.fnState f = 0) (hfree : s.restart.any (fun x => x.1 == f) = false) :
    s.enWrite f true = ((s.setFnEn f true).setFnState f 1, .start) := by
  have hfree' : (s.setFnEn f true).restart.any (fun x => x.1 == f) = false := hfree
  simp only [State.enWrite, setFnEn_fnState, hoff, hfree', if_true, Bool.false_eq_true, if_false]

theorem enWrite_of_off_off (hoff : s.fnState f = 0) (hfree : s.restart.any (fun x => x.1 == f) = false) :
    s.enWrite f false = (s.setFnEn f false, .none) := by
  have hfree' : (s.setFnEn f false).restart.any (fun x => x.1 == f) = false := hfree
  simp only [State.enWrite, setFnEn_fnState, hoff, hfree', Bool.false_eq_true, if_false]

/-- In the OFF that a latched PENDING_ON is to end, EN = 1 begins nothing new (R267). -/
theorem enWrite_of_restart_on (hoff : s.fnState f = 0) (hagain : s.restart.any (fun x => x.1 == f) = true) :
    s.enWrite f true = (s.setFnEn f true, .none) := by
  have hagain' : (s.setFnEn f true).restart.any (fun x => x.1 == f) = true := hagain
  simp only [State.enWrite, setFnEn_fnState, hoff, hagain', if_true]

theorem enWrite_of_restart_off (hoff : s.fnState f = 0) (hagain : s.restart.any (fun x => x.1 == f) = true) :
    s.enWrite f false =
      ({ (s.setFnEn f false).setFnPending f false with restart := s.restart.filter (fun x => x.1 != f) }, .none) := by
  have hagain' : (s.setFnEn f false).restart.any (fun x => x.1 == f) = true := hagain
  simp only [State.enWrite, setFnEn_fnState, hoff, hagain', Bool.false_eq_true, if_false, if_true]
  rfl

theorem enWrite_of_starting (b : Bool) (hstart : s.fnState f = 1) : s.enWrite f b = (s.setFnEn f b, .none) := by
  simp only [State.enWrite, setFnEn_fnState, hstart]

theorem enWrite_of_on_on (hon : s.fnState f = 2) : s.enWrite f true = (s.setFnEn f true, .none) := by
  simp only [State.enWrite, setFnEn_fnState, hon, if_true]

theorem enWrite_of_on_off (hon : s.fnState f = 2) :
    s.enWrite f false = ({ (s.setFnEn f false).setFnState f 3 with brief := s.brief.erase f }, .stop) := by
  simp only [State.enWrite, setFnEn_fnState, hon, Bool.false_eq_true, if_false]
  rfl

theorem enWrite_of_stopping (b : Bool) (hstop : s.fnState f = 3) :
    s.enWrite f b = ((s.setFnEn f b).setFnPending f b, .none) := by
  simp only [State.enWrite, setFnEn_fnState, hstop]

/-- STATE is a field of two bits. -/
theorem fnState_cases : s.fnState f = 0 ∨ s.fnState f = 1 ∨ s.fnState f = 2 ∨ s.fnState f = 3 := by
  have hlt : s.fnState f < 2 ^ (fnFlds f).2.1.w := Nat.mod_lt _ (Nat.two_pow_pos _)
  obtain ⟨-, -, hwidth, -⟩ := fn_width f
  rw [hwidth] at hlt
  omega

/-- EN does not read the lists of functions in between two states. -/
theorem fnEn_with_lists (br : List FnId) (rs : List (FnId × Nat)) :
    ({ s with brief := br, restart := rs } : State).fnEn f = s.fnEn f := rfl

/-- EN reads the value last written (R267). -/
theorem enWrite_fnEn (b : Bool) : (s.enWrite f b).1.fnEn f = b := by
  rcases fnState_cases s f with hoff | hstart | hon | hstop
  · cases hagain : s.restart.any (fun x => x.1 == f) <;> cases b
    · rw [enWrite_of_off_off s f hoff hagain, setFnEn_fnEn]
    · rw [enWrite_of_off_on s f hoff hagain, setFnState_fnEn, setFnEn_fnEn]
    · rw [enWrite_of_restart_off s f hoff hagain, fnEn_with_lists, setFnPending_fnEn, setFnEn_fnEn]
    · rw [enWrite_of_restart_on s f hoff hagain, setFnEn_fnEn]
  · rw [enWrite_of_starting s f b hstart, setFnEn_fnEn]
  · cases b
    · rw [enWrite_of_on_off s f hon, fnEn_with_lists, setFnState_fnEn, setFnEn_fnEn]
    · rw [enWrite_of_on_on s f hon, setFnEn_fnEn]
  · rw [enWrite_of_stopping s f b hstop, setFnPending_fnEn, setFnEn_fnEn]

/-! The ends of STARTING and STOPPING. -/

theorem startDone_of_starting (ok : Bool) (hstart : s.fnState f = 1) :
    s.startDone f ok =
      if ok then if s.fnEn f then s.setFnState f 2 else { s.setFnState f 2 with brief := s.brief ++ [f] } else s.setFnState f 0 :=
  if_neg (not_not_intro hstart)

theorem startDone_of_enabled (hstart : s.fnState f = 1) (hen : s.fnEn f = true) : s.startDone f true = s.setFnState f 2 :=
  (startDone_of_starting s f true hstart).trans (if_pos hen)

theorem startDone_of_stopped (hstart : s.fnState f = 1) (hen : s.fnEn f = false) :
    s.startDone f true = { s.setFnState f 2 with brief := s.brief ++ [f] } :=
  (startDone_of_starting s f true hstart).trans (if_neg (Bool.eq_false_iff.mp hen))

theorem startDone_of_failed (hstart : s.fnState f = 1) : s.startDone f false = s.setFnState f 0 :=
  startDone_of_starting s f false hstart

theorem stopDone_of_stopping (hstop : s.fnState f = 3) :
    s.stopDone f =
      if s.fnPending f then { s.setFnState f 0 with restart := s.restart.filter (fun x => x.1 != f) ++ [(f, s.tick)] }
      else s.setFnState f 0 :=
  if_neg (not_not_intro hstop)

/-- Without PENDING_ON, STOPPING ends in OFF. -/
theorem stopDone_of_not_pending (hstop : s.fnState f = 3) (hpend : s.fnPending f = false) : s.stopDone f = s.setFnState f 0 :=
  (stopDone_of_stopping s f hstop).trans (if_neg (Bool.eq_false_iff.mp hpend))
end

/-- Settles O24: Table 11.1, row by row. -/
theorem switchableFunctions : Obligations.SwitchableFunctions := by
  unfold Obligations.SwitchableFunctions
  intro f s again
  refine ⟨enWrite_fnEn s f, fun hoff hfree => ⟨enWrite_of_off_on s f hoff hfree, enWrite_of_off_off s f hoff hfree, ?entered⟩,
    fun hoff hagain => ⟨enWrite_of_restart_on s f hoff hagain, enWrite_of_restart_off s f hoff hagain⟩,
    fun hstart b => enWrite_of_starting s f b hstart, fun hon => ⟨enWrite_of_on_on s f hon, enWrite_of_on_off s f hon⟩,
    fun hstop b => enWrite_of_stopping s f b hstop, startDone_of_enabled s f, startDone_of_stopped s f, startDone_of_failed s f,
    fun hon => if_pos hon, fun hstop hpend => (stopDone_of_stopping s f hstop).trans (if_pos hpend), stopDone_of_not_pending s f,
    fun hoff hpend => if_pos ⟨hoff, hpend⟩⟩
  case entered => rw [enWrite_of_off_on s f hoff hfree, setFnState_fnState]

section
variable (s : State)

/-! STOPPING is over for a function whose work is done (R84, R354, R388). -/

theorem stopReady_tx {t : Fin 8} (hstop : s.fnState (.tx t) = 3) : s.stopReady (.tx t) = true := by
  simp only [State.stopReady, hstop, beq_self_eq_true, Bool.and_self]

theorem stopReady_dma {c : Fin 16} (hstop : s.fnState (.dma c) = 3) (hidle : (s.dma c).cur = none) : s.stopReady (.dma c) = true := by
  simp only [State.stopReady, hstop, hidle, beq_self_eq_true, Option.isNone_none, Bool.and_self]

theorem stopReady_plot {p : Fin 32} (hstop : s.fnState (.plot p) = 3) (hfree : s.running p = none) (hidle : (s.plot p).act = .idle) :
    s.stopReady (.plot p) = true := by
  simp only [State.stopReady, hstop, hfree, hidle, beq_self_eq_true, Option.isNone_none, Bool.and_self]
end

/-- Settles O25: the work is done, and the function enters OFF. -/
theorem stoppingEnds : Obligations.StoppingEnds := by
  unfold Obligations.StoppingEnds
  intro s hheld
  exact ⟨fun f hready => next_of_done hheld rfl (if_pos hready),
    fun t hstop hpend => next_of_done hheld rfl ((if_pos (stopReady_tx s hstop)).trans (stopDone_of_not_pending s _ hstop hpend)),
    fun c hstop hidle hpend =>
      next_of_done hheld rfl ((if_pos (stopReady_dma s hstop hidle)).trans (stopDone_of_not_pending s _ hstop hpend)),
    fun p hstop hfree hidle hpend =>
      next_of_done hheld rfl ((if_pos (stopReady_plot s hstop hfree hidle)).trans (stopDone_of_not_pending s _ hstop hpend))⟩

section
variable (s : State) (e : Nat)

/-! The queue of an engine (R129, R176, R179). -/

theorem belAccept_of_pacer (x : BelWait) (hroom : (s.eng e).queue.length < 8) (hpacer : x.req.pacer.isSome = true) :
    s.belAccept e x = ({ s with bel := { s.bel with wait := s.bel.wait.filter (fun y => y != x) } }).setEng e
      { s.eng e with queue := (s.eng e).queue ++ [x.req] } :=
  (if_neg (Nat.not_le.mpr hroom)).trans (if_pos hpacer)

theorem belAccept_of_program (x : BelWait) (u : State) (hroom : (s.eng e).queue.length < 8) (hpacer : x.req.pacer.isSome = false)
    (hu : ({ s with bel := { s.bel with wait := s.bel.wait.filter (fun y => y != x) } } : State).setEng e
      { s.eng e with queue := (s.eng e).queue ++ [x.req] } = u) :
    s.belAccept e x = u.setProg x.req.prog { u.prog x.req.prog with
      cmds := (u.prog x.req.prog).cmds.map (fun c => if c.seq = x.seq then { c with phase := .finished, due := x.due } else c) } := by
  subst hu
  exact (if_neg (Nat.not_le.mpr hroom)).trans (if_neg (Bool.eq_false_iff.mp hpacer))

variable (r : BelReq) (t : List BelReq)

theorem belStart_of_ready (hqueue : (s.eng e).queue = r :: t) (hfresh : s.belStale r = false) (hstart : s.belCanStart e = some r)
    (hfirst : s.belClash e (s.belSampled r) = false) : s.belStart e = s.belBegin e (s.belSampled r) := by
  simp only [State.belStart, hqueue, hfresh, hstart, hfirst, Bool.false_eq_true, and_false, if_false]

theorem belStart_of_stale (hqueue : (s.eng e).queue = r :: t) (hidle : (s.eng e).cur = none)
    (hon : s.fld BEL_PWR_CTRL_STATE (engDomain e) = 2) (hstale : s.belStale r = true) :
    s.belStart e = (s.setEng e { s.eng e with queue := t }).staleTag := by
  simp only [State.belStart, hqueue, hidle, hon, hstale, Option.isNone_none, and_self, if_true]
end

/-- Settles O23: the queue by its head, a domain by its switch. -/
theorem belvedereCommands : Obligations.BelvedereCommands := by
  unfold Obligations.BelvedereCommands
  intro e s hheld
  refine ⟨fun x hturn hroom hpacer => next_of_done hheld rfl ?accept, fun x hturn hroom hpacer => ?program,
    fun r t hqueue hfresh hstart hfirst htrained => next_of_done hheld rfl ((if_pos htrained).trans ?start),
    fun r t hqueue hidle hon hstale htrained => next_of_done hheld rfl ((if_pos htrained).trans ?stale),
    fun r hcur hdue htrained => next_of_done hheld rfl ?complete, fun d hoff hfree => next_of_done hheld rfl ?enable,
    fun d hstart hen => next_of_done hheld rfl (startDone_of_enabled s _ hstart hen)⟩
  case accept =>
    rw [hturn]
    exact belAccept_of_pacer s e x hroom hpacer
  case program =>
    intro u
    refine next_of_done hheld rfl ?_
    rw [hturn]
    exact belAccept_of_program s e x u hroom hpacer rfl
  case start => rw [belStart_of_ready s e r t hqueue hfresh hstart hfirst]
  case stale => rw [belStart_of_stale s e r t hqueue hidle hon hstale]
  case complete =>
    rw [hcur]
    exact if_pos ⟨hdue, .inl htrained⟩
  case enable =>
    dsimp only
    rw [enWrite_of_off_on s _ hoff hfree]
    rfl
end Sys2Proof.Proofs
end

section
/-! PROOF. Plots, their slots and their sharing (R82-R87, R255-R282), contexts (R268, R283, R284) and batch groups (R286-R289): each
command by what it meets. -/
namespace Sys2Proof.Proofs
open Sys2Proof Sys2Proof.Machine Sys2Proof.Laws

section
variable (s : State) (p : Nat)

/-- A write of a field outside PLT_RUN leaves the running slot. -/
theorem running_setFld_of_ne (f : Fld) (v i : Nat) (h : Reg.addr .PLT_RUN p 0 ≠ f.reg.addr i 0) :
    (s.setFld f v i).running p = s.running p := by
  have hvalid : (s.setFld f v i).fld PLT_RUN_VALID p = s.fld PLT_RUN_VALID p := fld_setFld_ne s _ _ _ _ _ _ _ h
  have hslot : (s.setFld f v i).fld PLT_RUN_SLOT p = s.fld PLT_RUN_SLOT p := fld_setFld_ne s _ _ _ _ _ _ _ h
  unfold State.running State.on
  rw [hvalid, hslot]

/-- The switch of a plot leaves its running slot. -/
theorem running_of_switch (p : Fin 32) (b : Bool) (v : Nat) :
    ((s.setFnEn (.plot p) b).setFnState (.plot p) v).running p = s.running p := by
  have hctrl : Reg.addr .PLT_RUN p 0 ≠ Reg.addr .PLT_CTRL p 0 := by simp [Reg.addr, Reg.desc]
  have hstat : Reg.addr .PLT_RUN p 0 ≠ Reg.addr .PLT_STAT p 0 := by simp [Reg.addr, Reg.desc]
  exact (running_setFld_of_ne _ p PLT_STAT_STATE v p hstat).trans (running_setFld_of_ne s p PLT_CTRL_EN (b2n b) p hctrl)

/-- A membership change with no running slot takes effect at once (R82). -/
theorem membershipChange_of_none (hfree : s.running p = none) : s.membershipChange p = s.applyMembership p := by
  simp only [State.membershipChange, hfree, Option.isSome_none, Bool.false_eq_true, if_false]

theorem membershipChange_of_running (j : Nat) (hrun : s.running p = some j) : s.membershipChange p = s.preempt p .member := by
  simp only [State.membershipChange, hrun, Option.isSome_some, if_true]

/-- A plot's stop by whether a slot runs (R84). -/
theorem plotStop_of_running (hrun : (s.running p).isSome = true) : s.plotStop p = s.preempt p .stop := by
  refine if_neg ?_
  rw [Option.isNone_iff_eq_none]
  exact Option.isSome_iff_ne_none.mp hrun

theorem plotStop_of_none (hfree : s.running p = none) : s.plotStop p = ((s.advanceGen p).wipePlot p).zeroWickets p :=
  if_pos (Option.isNone_iff_eq_none.mpr hfree)

/-- A pre-emption request to an idle plot whose slot runs starts the grace (R279). -/
theorem preempt_of_idle (next : AfterPause) (hidle : (s.plot p).act = .idle) (hrun : (s.running p).isSome = true) :
    s.preempt p next =
      s.setPlot p { s.plot p with act := .pause (s.tick + max 1 (s.fld PLT_SHARE_GRACE p) * usTicks) next } := by
  have hno : ¬ (s.running p).isNone = true := fun h => Option.isSome_iff_ne_none.mp hrun (Option.isNone_iff_eq_none.mp h)
  simp only [State.preempt, hidle, if_neg hno]

/-- The switch-out at a selection point: the slot is saved, and unbound where that was asked (R258, R275). -/
theorem switchOutDo_of_select (d j : Nat) (t : State) (hact : (s.plot p).act = .pause d .select) (hrun : s.running p = some j)
    (ht : s.switchOut p j (some (s.slotSave p j)) = t) :
    s.switchOutDo p = if (t.slot p j).unbindAfter = true then t.unbind p j else t := by
  subst ht
  simp only [State.switchOutDo, hact, hrun, reduceCtorEq, if_false]
end

/-- Settles O26: the switch by its state, a membership change by whether a slot runs. -/
theorem plotCommands : Obligations.PlotCommands := by
  unfold Obligations.PlotCommands
  intro p s hheld
  refine ⟨fun hoff hfree => next_of_done hheld rfl ?start, fun hon => ⟨fun hrun => next_of_done hheld rfl ?pause,
      fun hfree => next_of_done hheld rfl ?wipe⟩, fun htrained hon => next_of_done hheld rfl (if_pos ⟨htrained, hon⟩),
    fun i v => next_of_done hheld rfl rfl,
    fun hbound hfree => next_of_done hheld rfl ((if_pos hbound).trans (membershipChange_of_none s p hfree)),
    fun hbound j hrun => next_of_done hheld rfl ((if_pos hbound).trans (membershipChange_of_running s p j hrun)),
    fun a => next_of_done hheld rfl rfl,
    fun hoff i v => ⟨next_of_done hheld rfl (if_pos hoff), next_of_done hheld rfl (if_pos hoff)⟩,
    fun hoff i hi v => next_of_done_same hheld rfl (if_neg hoff), fun j => next_of_done hheld rfl rfl,
    fun j hrun hdue hmark => next_of_done hheld rfl ?reimage⟩
  case start => rw [enWrite_of_off_on s _ hoff hfree]
  case pause =>
    rw [enWrite_of_on_off s _ hon]
    exact plotStop_of_running _ p ((congrArg Option.isSome (running_of_switch s p false 3)).trans hrun)
  case wipe =>
    rw [enWrite_of_on_off s _ hon]
    exact plotStop_of_none _ p ((running_of_switch s p false 3).trans hfree)
  case reimage =>
    rw [hrun]
    exact if_pos ⟨hdue, hmark⟩

section
variable (s : State) (p j v : Nat)

/-- A bind of context 0 or of one that is not ACTIVE is refused (R272). -/
theorem slotBind_of_bad (hbad : bits v 0 10 = 0 ∨ (s.charge p).ctxActive (bits v 0 10) = false) :
    s.slotBind p j v = (s.charge p).refuseBind p j 0x0704 := by
  refine if_pos ?_
  rcases hbad with hzero | hdead
  · exact .inr (.inl hzero)
  · exact .inl (Bool.eq_false_iff.mp hdead)

/-- A BE slot of a context not bound to the plot becomes READY where no slot of it is RT (R272, R278). -/
theorem slotBind_of_be (q t : State) (hq : s.charge p = q)
    (ht : q.setSlot p j { ctx := bits v 0 10, rt := false, weight := max 1 (bits v 12 8), rtsteps := max 1 (bits v 20 8),
                          resume := bit v 11, v := (q.slot p j).v } = t)
    (hctx : bits v 0 10 ≠ 0) (hactive : q.ctxActive (bits v 0 10) = true) (hbe : bit v 10 = false)
    (hnew : (q.bound p).any (fun i => i != j && (q.slot p i).ctx == bits v 0 10) = false)
    (hnort : ((List.range 16).filter (fun i => (i == j || q.slotState p i != 0) && (t.slot p i).rt)).isEmpty = true) :
    s.slotBind p j v = t.makeReady p j := by
  subst hq ht
  simp only [State.slotBind, hctx, hactive, hbe, hnew, hnort, not_true_eq_false, Bool.false_eq_true, false_and, or_self, if_false,
    if_true]

/-- A bind waits for LPDDR exactly where its check must read it (R278, R392). -/
theorem slotBindWait_of_may (u : State) (hu : s.wr .PLT_SLOT_CFG (setBits (setBits v 28 1 1) 29 3 0) p j = u)
    (hmay : (u.trained || !u.bindReads p j v) = true) : s.slotBindWait p j v = u.slotBind p j v := by
  subst hu
  refine if_pos ?_
  simpa only [Bool.or_eq_true, Bool.not_eq_true', Bool.not_eq_true] using hmay

theorem slotBindWait_of_may_not (u : State) (hu : s.wr .PLT_SLOT_CFG (setBits (setBits v 28 1 1) 29 3 0) p j = u)
    (hmay : (u.trained || !u.bindReads p j v) = false) :
    s.slotBindWait p j v = u.setSlot p j { u.slot p j with waits := some v } := by
  subst hu
  refine if_neg ?_
  simpa only [Bool.or_eq_false_iff, Bool.not_eq_false', Bool.not_eq_true, not_or, Bool.not_eq_false] using hmay

end

/-- Settles O27: a bind by what its context is and whether it waits, an unbind by whether the slot runs. -/
theorem slotBinding : Obligations.SlotBinding := by
  unfold Obligations.SlotBinding
  intro p j v s hheld c u q may
  have hfree : ∀ (hstate : s.slotState p j = 0) (_ : (s.slot p j).waits = none),
      s.slotState p j = 0 ∧ (s.slot p j).waits.isNone = true :=
    fun hstate hwaits => ⟨hstate, Option.isNone_iff_eq_none.mpr hwaits⟩
  refine ⟨fun hstate hwaits hmay hbad => next_of_done hheld rfl ((if_pos (hfree hstate hwaits)).trans ?refused),
    fun hstate hwaits hmay hctx hactive hbe hnew => ?bound,
    fun hstate hwaits hmay => next_of_done hheld rfl
      ((if_pos (hfree hstate hwaits)).trans (slotBindWait_of_may_not s p j _ u rfl hmay)),
    fun hbound => ⟨fun hrun => next_of_done hheld rfl ((if_neg hbound).trans (if_neg hrun)),
      fun hrun => next_of_done hheld rfl ((if_neg hbound).trans (if_pos hrun))⟩⟩
  case refused => exact (slotBindWait_of_may s p j _ u rfl hmay).trans (slotBind_of_bad u p j _ hbad)
  case bound =>
    intro t hnort
    exact next_of_done hheld rfl ((if_pos (hfree hstate hwaits)).trans ((slotBindWait_of_may s p j _ u rfl hmay).trans
      (slotBind_of_be u p j _ q t rfl rfl hctx hactive hbe hnew hnort)))

/-- Settles O28: each selection point by what it meets. -/
theorem sharingCommands : Obligations.SharingCommands := by
  unfold Obligations.SharingCommands
  intro p s hheld
  refine ⟨fun hdue => next_of_done hheld rfl (if_pos hdue), fun hdue => next_of_done hheld rfl (if_pos hdue),
    fun hdue hidle hrun => next_of_done hheld rfl ((if_pos hdue).trans (preempt_of_idle s p _ hidle hrun)),
    fun d x hact hover => next_of_done hheld rfl ?grace,
    fun d j hquiet htrained hact hrun =>
      next_of_done hheld rfl ((if_pos ⟨hquiet, htrained⟩).trans (switchOutDo_of_select s p d j _ hact hrun rfl)),
    fun j hon hbrief hfree hidle hruns hchoice => next_of_done hheld rfl ?switchIn⟩
  case grace =>
    rw [hact]
    exact if_pos hover
  case switchIn =>
    refine (if_pos ⟨hon, Option.isNone_iff_eq_none.mpr hfree, hidle, Bool.eq_false_iff.mp hruns, Bool.eq_false_iff.mp hbrief⟩).trans ?_
    rw [hchoice]

/-- Settles O29: each command by the context's state, or the step of its teardown. -/
theorem contextCommands : Obligations.ContextCommands := by
  unfold Obligations.ContextCommands
  intro c s hheld n
  exact ⟨fun hfree => next_of_done hheld rfl (if_pos hfree), fun hused => next_of_done_same hheld rfl (if_neg hused),
    fun hpos hactive => next_of_done hheld rfl (if_neg (not_or.mpr ⟨hpos, not_not_intro hactive⟩)),
    fun hno => next_of_done_same hheld rfl (if_pos hno), fun hstep => next_of_done hheld rfl (if_pos hstep),
    fun hstep hlate => next_of_done hheld rfl (if_pos ⟨hstep, hlate⟩)⟩

section
variable (s : State) (g sid : Nat)

/-! JOIN and LEAVE by what the group knows of the session (R287). -/

theorem batchJoin_of_known (prio cls : Nat) (hknown : State.sidKnown (s.batch g) sid = true) :
    s.batchJoin g sid prio cls = (s.respond g sid 3 4 0xFF (s.batchStep g)).addSat PLT_BAT_CNT_REFUSED 1 g :=
  if_pos hknown

theorem batchJoin_of_full (prio cls : Nat) (hnew : State.sidKnown (s.batch g) sid = false) (hfull : 64 ≤ (s.batch g).queue.length) :
    s.batchJoin g sid prio cls = (s.respond g sid 3 1 0xFF (s.batchStep g)).addSat PLT_BAT_CNT_REFUSED 1 g :=
  (if_neg (Bool.eq_false_iff.mp hnew)).trans (if_pos hfull)

theorem batchJoin_of_room (prio cls : Nat) (hnew : State.sidKnown (s.batch g) sid = false) (hroom : (s.batch g).queue.length < 64) :
    s.batchJoin g sid prio cls =
      (s.setBatch g { s.batch g with queue := (s.batch g).queue ++ [⟨sid, prio, cls, 0, s.fc⟩] }).showBatch g :=
  (if_neg (Bool.eq_false_iff.mp hnew)).trans (if_neg (Nat.not_le.mpr hroom))

/-- A session that the group does not know does not wait either. -/
theorem not_queued_of_unknown {b : Batch} (h : State.sidKnown b sid = false) : b.queue.any (fun j => j.sid == sid) = false :=
  (Bool.or_eq_false_iff.mp h).2
end

/-- Settles O30: the switch as it stands, a session by whether it waits, is in a lane, or is unknown. -/
theorem batchCommands : Obligations.BatchCommands := by
  unfold Obligations.BatchCommands
  intro g sid prio cls s hheld b k x
  refine ⟨fun en => next_of_done hheld rfl rfl, fun hon => ⟨fun hknown => ?duplicate, fun hnew hfull => ?full, fun hnew hroom => ?join,
    fun hwaits => ?waiting, fun hno hknown => ?lane, fun hnew => ?unknown⟩, fun w o t hmaps => next_of_done hheld rfl ?ack⟩
  case duplicate => exact next_of_done hheld rfl ((if_pos hon).trans (batchJoin_of_known s g x prio cls hknown))
  case full => exact next_of_done hheld rfl ((if_pos hon).trans (batchJoin_of_full s g x prio cls hnew hfull))
  case join => exact next_of_done hheld rfl ((if_pos hon).trans (batchJoin_of_room s g x prio cls hnew hroom))
  case waiting => exact next_of_done hheld rfl ((if_pos hon).trans (if_pos hwaits))
  case lane => exact next_of_done hheld rfl ((if_pos hon).trans ((if_neg (Bool.eq_false_iff.mp hno)).trans (if_pos hknown)))
  case unknown =>
    exact next_of_done hheld rfl ((if_pos hon).trans
      ((if_neg (Bool.eq_false_iff.mp (not_queued_of_unknown x hnew))).trans (if_neg (Bool.eq_false_iff.mp hnew))))
  case ack => rw [show (s.batch g).maps = (w, o) :: t from hmaps]
end Sys2Proof.Proofs
end

section
/-! PROOF. Streams (R198-R214): their switch, the latch of a band, posts of inputs, the hold buffer. -/
namespace Sys2Proof.Proofs
open Sys2Proof Sys2Proof.Machine Sys2Proof.Laws

section
variable (s : State)

/-! The switch of a stream (R199). -/

/-- A field outside a function's registers leaves its STATE. -/
theorem fnState_setFld_of_ne (f : FnId) (g : Fld) (v i : Nat) (h : (fnFlds f).2.1.reg.addr (fnFlds f).2.2.2 0 ≠ g.reg.addr i 0) :
    (s.setFld g v i).fnState f = s.fnState f :=
  fld_setFld_ne s g _ v i 0 _ 0 h

/-- The start of a stream by its first failing check. -/
theorem strmStart_of_fault (i : Fin 16) (c : Nat) (hstart : s.fnState (.stream i) = 1) (hcheck : s.strmCheck i = some c) :
    s.strmStart i = ((s.setFld PLT_STRM_STAT_FAULT c i).setFnState (.stream i) 0).showFree i := by
  have hstat : Reg.addr .PLT_STRM_CFG i 0 ≠ Reg.addr .PLT_STRM_STAT i 0 := by simp [Reg.addr, Reg.desc]
  have hstart' : (s.setFld PLT_STRM_STAT_FAULT c i).fnState (.stream i) = 1 :=
    (fnState_setFld_of_ne s (.stream i) PLT_STRM_STAT_FAULT c i hstat).trans hstart
  simp only [State.strmStart, hcheck, startDone_of_failed _ _ hstart']

/-- A number below the bound is itself as a `Fin`. -/
theorem ofNat_val {n : Nat} [NeZero n] (i : Fin n) : Fin.ofNat n i = i := Fin.ext (Nat.mod_eq_of_lt i.isLt)

/-! The latch of a band (R204). -/

/-- Which band a headed stream latches next, once `y` is its state: the next of a frame that is being shown, or the next frame's first. -/
def nextBand (s : State) (f b lc bh : Nat) (y : Strm) : Strm :=
  if b + 1 < s.nBands lc bh ∧ y.live = true then { y with nextB := b + 1 } else { y with nextF := (f + 1) % 2 ^ 32, nextB := 0 }

/-- A selection leaves the clock and the height of the bands. -/
theorem select_bands {i f b : Nat} {st z : Strm} {ins : List Input} {tau : Int} {x : Sel} (h : s.select i st f b ins tau = some (x, z)) :
    z.lc = st.lc ∧ z.bh = st.bh := by
  unfold State.select at h
  dsimp only at h
  split at h
  · cases h
  · cases h
    exact ⟨rfl, rfl⟩

/-- A headed stream of ON or STOPPING that is at the latch line of its next band, and has no last frame. -/
structure Latches (s : State) (i : Nat) (st : Strm) : Prop where
  brief : s.fnBrief (.stream (Fin.ofNat 16 i)) = false
  headed : st.heads ≠ 0
  line : s.reached st.lc (s.linePos st.lc st.nextF (s.latchLine st st.nextB)) = true
  goesOn : st.stopFrame = none

variable (i : Nat) {st tk : Strm} (hst : s.strm i = st) (hgo : Latches s i st)
  (htk : (if st.nextB = 0 then s.takeShadows i else st) = tk)
include hst hgo

theorem latches_go :
    ¬ ((s.strm i).heads = 0 ∨
      ((s.strm i).stopFrame.isSome && ((s.strm i).nextB == 0 || (s.strm i).stopFrame != some (s.strm i).nextF)) = true ∨
      s.fnBrief (.stream (Fin.ofNat 16 i)) = true ∨
      ¬ s.reached (s.strm i).lc (s.linePos (s.strm i).lc (s.strm i).nextF (s.latchLine (s.strm i) (s.strm i).nextB)) = true) := by
  obtain ⟨hbrief, hheads, hline, hgoes⟩ := hgo
  subst hst
  simp only [hheads, hgoes, hbrief, hline, Option.isSome_none, Bool.false_and, Bool.false_eq_true, not_true_eq_false, or_self,
    not_false_eq_true]

include htk

/-- Without an available input the latch selects nothing. -/
theorem bandLatch_of_none
    (hsel : s.select i tk st.nextF st.nextB (tk.inputs.filter (fun x => decide (x.accepted < s.tick)))
      (s.bandTime tk st.nextF st.nextB) = none) :
    s.bandLatch i = s.setStrm i (nextBand s st.nextF st.nextB tk.lc tk.bh tk) := by
  refine (if_neg (latches_go s i hst hgo)).trans ?_
  subst hst htk
  dsimp only
  rw [hsel]
  rfl

/-- The effects of a latch with a selection that needs no count: log, signal unless muted, fallback, window reads, trace. -/
theorem bandLatch_of_some {x : Sel} {z : Strm} {u : State}
    (hsel : s.select i tk st.nextF st.nextB (tk.inputs.filter (fun x => decide (x.accepted < s.tick)))
      (s.bandTime tk st.nextF st.nextB) = some (x, z))
    (hfall : bit x.flags 2 = false) (hover : bit x.flags 3 = false)
    (hu : (s.setStrm i (nextBand s st.nextF st.nextB tk.lc tk.bh z)).logSel i x = u) :
    s.bandLatch i =
      ((((if z.mute = some st.nextF then u else u.pacerSignal i z.onA (st.nextF, st.nextB)).fallback i x).windowServe i).trace 1 0 i
        (st.nextF % 2 ^ 24 * 256 + st.nextB)) := by
  refine (if_neg (latches_go s i hst hgo)).trans ?_
  obtain ⟨hlc, hbh⟩ := select_bands s hsel
  rw [← hlc, ← hbh] at hu
  subst hst htk hu
  dsimp only
  rw [hsel]
  simp only [hfall, hover, Bool.false_and, Bool.false_eq_true, if_false]
  rfl
end

section
variable (s : State) (i : Nat) {st : Strm}

/-- A headless stream signals for its oldest input not yet signalled (R214). -/
theorem headlessSignal_of_select {x : Input} {y : Sel} {z : Strm} (hst : s.strm i = st)
    (hbrief : s.fnBrief (.stream (Fin.ofNat 16 i)) = false) (hheads : st.heads = 0)
    (hinput : st.inputs.reverse.find? (fun x => !x.used0) = some x)
    (hsel : s.select i { s.takeShadows i with mode := 2 } x.seq 0 ((s.takeShadows i).inputs.dropWhile (fun y => y != x))
      (s.tb16 (s.lclock (s.takeShadows i).lc).base) = some (y, z)) :
    s.headlessSignal i =
      ((((s.setStrm i { z with mode := (s.takeShadows i).mode }).logSel i y).pacerSignal i true (x.seq, 0)).windowServe i) := by
  subst hst
  have hgo : ¬ ((s.strm i).heads ≠ 0 ∨ s.fnBrief (.stream (Fin.ofNat 16 i)) = true) := by
    rw [hheads, hbrief]
    simp
  refine (if_neg hgo).trans ?_
  rw [hinput]
  dsimp only
  rw [hsel]

/-- Whether the hold buffer is to be looked at: once at the end of the last active line of a frame (R210). -/
theorem holdPromote_go (hst : s.strm i = st) (hheads : st.heads ≠ 0) (hnew : st.promF ≠ some (s.lclock st.lc).frame)
    (hline : s.reached st.lc ((s.lclock st.lc).frame,
      (if (s.head st.lc).running then (s.head st.lc).scan.vactive else s.lcVactive st.lc), 0) = true) :
    ¬ ((s.strm i).heads = 0 ∨ (s.strm i).promF = some (s.lclock (s.strm i).lc).frame ∨
      ¬ s.reached (s.strm i).lc ((s.lclock (s.strm i).lc).frame,
        (if (s.head (s.strm i).lc).running then (s.head (s.strm i).lc).scan.vactive else s.lcVactive (s.strm i).lc), 0) = true) := by
  subst hst
  rintro (hnone | hold | hnot)
  · exact hheads hnone
  · exact hnew hold
  · exact hnot hline
end

/-- Settles O31: the switch by its state, a latch by what it selects. -/
theorem streamCommands : Obligations.StreamCommands := by
  unfold Obligations.StreamCommands
  intro i s hheld st live again
  refine ⟨fun hoff hfree => ?start, fun hoff hagain => next_of_done hheld rfl ?waits, fun hon => next_of_done hheld rfl ?stop,
    fun hlive hbrief hheads hline hgoes => ?latch, fun hlive hbrief hheads x hinput y z hsel => next_of_done hheld rfl ?headless,
    fun hlive hheads hnew hline => ?hold⟩
  case start =>
    intro u
    have hwork : State.strmWork (s.enWrite (.stream i) true) i = u.strmStart i := by
      rw [enWrite_of_off_on s _ hoff hfree]
      rfl
    have hstart : u.fnState (.stream i) = 1 := setFnState_fnState _ _ _
    exact ⟨next_of_done hheld rfl hwork,
      fun c hcheck => next_of_done hheld rfl (hwork.trans (strmStart_of_fault u i c hstart hcheck))⟩
  case waits =>
    rw [enWrite_of_restart_on s _ hoff hagain]
    rfl
  case stop =>
    rw [enWrite_of_on_off s _ hon]
    rfl
  case latch =>
    intro tk ins next
    have hgo : Latches s i st := ⟨by rw [ofNat_val]; exact hbrief, hheads, hline, hgoes⟩
    exact ⟨fun hsel => next_of_done hheld rfl ((if_pos hlive).trans (bandLatch_of_none s i rfl hgo rfl hsel)),
      fun x z hsel hfall hover =>
        next_of_done hheld rfl ((if_pos hlive).trans (bandLatch_of_some s i rfl hgo rfl hsel hfall hover rfl))⟩
  case headless =>
    have hbrief' : s.fnBrief (.stream (Fin.ofNat 16 i)) = false := by
      rw [ofNat_val]
      exact hbrief
    exact (if_pos hlive).trans (headlessSignal_of_select s i rfl hbrief' hheads hinput hsel)
  case hold =>
    intro u
    have hgo := holdPromote_go s i rfl hheads hnew hline
    refine ⟨fun hpart => next_of_done hheld rfl ((if_pos hlive).trans ((if_neg hgo).trans (if_neg (Bool.eq_false_iff.mp hpart)))),
      fun hwhole q x hpost hband => next_of_done hheld rfl ((if_pos hlive).trans ((if_neg hgo).trans ((if_pos hwhole).trans ?_)))⟩
    rw [hpost]
    dsimp only
    rw [hband]

section
variable (s : State) (i slot : Nat)

/-! The record of a post (R201): where it lies, its SEQ, its nanoseconds, and its stamp on the line clock's base with the state after the
conversion. -/

def postRecord : Nat := (s.strm i).ibase + (s.strm i).nslots * (s.strm i).istride + slot * 64
def postSeq : Nat := s.lpNat (postRecord s i slot) 4
def postNs : Nat := bits (s.lpNat (postRecord s i slot + 16) 8) SDL_TB_LOAD_NSS_NS.lo SDL_TB_LOAD_NSS_NS.w
def postStamp : Int × State :=
  s.convert (s.lclock (s.strm i).lc).base (s.lpNat (postRecord s i slot + 4) 1 % 8)
    ((s.lpNat (postRecord s i slot + 8) 8 % 2 ^ 48 * 1000000000 + postNs s i slot) * 16 +
      bits (s.lpNat (postRecord s i slot + 16) 8) SDL_TB_LOAD_NSS_SUB.lo SDL_TB_LOAD_NSS_SUB.w)

/-- A stamp after the last one accepted. -/
def NewStamp (st : Strm) (t : Int) : Prop := ∀ l, st.lastStamp = some l → l < t

theorem newStamp_iff (st : Strm) (t : Int) :
    NewStamp st t ↔ (match st.lastStamp with | some l => decide (t ≤ l) | none => false) = false := by
  unfold NewStamp
  cases hlast : st.lastStamp with
  | none => simp
  | some l => simp

/-- A post of a slot outside the ring, or still held, counts BUSY. -/
theorem postOne_of_busy (hbusy : (s.strm i).nslots ≤ slot ∨ (s.strm i).busy.get false slot = true) :
    s.postOne i slot none = s.addSat PLT_STRM_CNT_BUSY 1 i :=
  if_pos (hbusy.imp_right fun h => ⟨h, Bool.false_ne_true⟩)

variable (hring : slot < (s.strm i).nslots) (hfree : (s.strm i).busy.get false slot = false)
include hring hfree

theorem post_free : ¬ ((s.strm i).nslots ≤ slot ∨ ((s.strm i).busy.get false slot = true ∧ ¬ false = true)) :=
  not_or.mpr ⟨Nat.not_le.mpr hring, fun h => Bool.eq_false_iff.mp hfree h.1⟩

theorem postOne_of_stale (hstale : 999999999 < postNs s i slot ∨ ¬ NewStamp (s.strm i) (postStamp s i slot).1) :
    s.postOne i slot none = (postStamp s i slot).2.refuseInput i slot PLT_STRM_CNT_STALE := by
  rw [newStamp_iff, Bool.not_eq_false] at hstale
  exact (if_neg (post_free s i slot hring hfree)).trans (if_pos hstale)

variable (hns : postNs s i slot ≤ 999999999) (hnew : NewStamp (s.strm i) (postStamp s i slot).1)
include hns hnew

omit hring hfree in
theorem post_fresh :
    ¬ (999999999 < postNs s i slot ∨
      (match (s.strm i).lastStamp with | some l => decide ((postStamp s i slot).1 ≤ l) | none => false) = true) := by
  rw [newStamp_iff] at hnew
  exact not_or.mpr ⟨Nat.not_lt.mpr hns, Bool.eq_false_iff.mp hnew⟩

theorem postOne_of_future
    (hfuture : ((postStamp s i slot).2.tb16 (s.lclock (s.strm i).lc).base : Int) + (s.strm i).xlimit * 16 < (postStamp s i slot).1) :
    s.postOne i slot none = (postStamp s i slot).2.refuseInput i slot PLT_STRM_CNT2_FUTURE :=
  (if_neg (post_free s i slot hring hfree)).trans ((if_neg (post_fresh s i slot hns hnew)).trans (if_pos hfuture))

omit hring hfree hns hnew in
/-- A SEQ that does not follow the last counts SKIP. -/
theorem countSkip_eq (last : Option Nat) (seq : Nat) (u : State) :
    (if (match last with | some q => seq != (q + 1) % 2 ^ 32 | none => false) = true then u.addSat PLT_STRM_CNT_SKIP 1 i else u) =
      (match last with
      | some q => if seq = (q + 1) % 2 ^ 32 then u else u.addSat PLT_STRM_CNT_SKIP 1 i
      | none => u) := by
  cases last with
  | none => rfl
  | some q =>
    by_cases hnext : seq = (q + 1) % 2 ^ 32
    · simp [hnext]
    · simp

/-- An accepted input is the newest; a SEQ that does not follow the last counts SKIP. -/
theorem postOne_of_accepted
    (htime : (postStamp s i slot).1 ≤ ((postStamp s i slot).2.tb16 (s.lclock (s.strm i).lc).base : Int) + (s.strm i).xlimit * 16)
    {u v : State}
    (hu : (postStamp s i slot).2.setStrm i { s.strm i with
      busy := (s.strm i).busy.set false slot true, claim := (s.strm i).claim.erase slot,
      inputs := (⟨slot, postSeq s i slot, (postStamp s i slot).1, (postStamp s i slot).2.tick, false, false, true⟩ :: (s.strm i).inputs).take 64,
      lastStamp := some (postStamp s i slot).1, lastSeq := some (postSeq s i slot) } = u)
    (hv : (match (s.strm i).lastSeq with
      | some q => if postSeq s i slot = (q + 1) % 2 ^ 32 then u else u.addSat PLT_STRM_CNT_SKIP 1 i
      | none => u) = v) :
    s.postOne i slot none = (((v.setFld PLT_STRM_STAT_SEQ (postSeq s i slot % 65536) i).showFree i).strmFree i) := by
  refine (if_neg (post_free s i slot hring hfree)).trans
    ((if_neg (post_fresh s i slot hns hnew)).trans ((if_neg (Int.not_lt.mpr htime)).trans ?_))
  subst hv hu
  exact congrArg (fun t : State => (((t.setFld PLT_STRM_STAT_SEQ (postSeq s i slot % 65536) i).showFree i).strmFree i))
    (countSkip_eq i _ _ _)
end

/-- Settles O32: a post by its slot, its record and the clock. -/
theorem inputPosts : Obligations.InputPosts := by
  unfold Obligations.InputPosts
  intro i slot s hheld hlive htrained st p posts ends at_ seq ns sub w c isNew first
  have hends : ∀ t : State, (if p.posts.all (fun q => q.1 ≤ slot.toNat) then s.postOne i slot.toNat none
      else posts.foldl (fun u q => u.postOne i q.1 q.2) (s.postsUndo i p)) = t → ends t := by
    intro t ht
    subst ht
    exact next_of_done hheld rfl ((if_pos hlive).trans (if_pos htrained))
  refine ⟨fun hlater => hends _ (if_neg (Bool.eq_false_iff.mp hlater)),
    fun hfirst hbusy => hends _ ((if_pos hfirst).trans (postOne_of_busy s i _ hbusy)),
    fun hfirst hring hfree hstale => hends _ ((if_pos hfirst).trans (postOne_of_stale s i _ hring hfree hstale)),
    fun hfirst hring hfree hns hnew hfuture =>
      hends _ ((if_pos hfirst).trans (postOne_of_future s i _ hring hfree hns hnew hfuture)),
    fun hfirst hring hfree hns hnew htime => ?accepted⟩
  case accepted =>
    intro u v
    exact hends _ ((if_pos hfirst).trans (postOne_of_accepted s i _ hring hfree hns hnew htime rfl rfl))
end Sys2Proof.Proofs
end

section
/-! PROOF. The heads of the Bandstand (R208, R217-R240): their switch and commits, their links, fetch and region push. -/
namespace Sys2Proof.Proofs
open Sys2Proof Sys2Proof.Machine Sys2Proof.Laws

section
variable (s : State) (n : Fin 4)

/-- A write of EN that is not a stop in STARTING runs the switch (R217). -/
theorem headEnable_of_switch (en : Bool) (h : ¬ (s.headState n = 1 ∧ en = false)) :
    s.headEnable n en = State.headWork (s.enWrite (.head n) en) n :=
  if_neg h

/-- HEAD_COMMIT of head 0 alone, which is armed at the next vertical blanking (R220). -/
theorem headCommit_one_of_unarmed (hon : s.headState 0 ≠ 0) (hfree : bit (s.fld BST_COMMIT_COMMIT) 0 = false) :
    s.headCommit 1 = (s.setHead 0 { s.head 0 with
      commitF := if s.reached 0 ((s.lclock 0).frame, (State.setFor (s.head 0) (s.lclock 0).frame).vactive, 0) then
          ((s.lclock 0).frame + 1) % 2 ^ 32
        else (s.lclock 0).frame }).setFld BST_COMMIT_COMMIT (setBits (s.fld BST_COMMIT_COMMIT) 0 1 1) := by
  have hbits : bit 1 0 = true ∧ bit 1 1 = false ∧ bit 1 2 = false ∧ bit 1 3 = false := by decide
  obtain ⟨h0, h1, h2, h3⟩ := hbits
  simp only [State.headCommit, foldl_range_four, h0, h1, h2, h3, hon, hfree, Bool.false_eq_true, false_and, if_false, ne_eq,
    not_false_eq_true, and_self, if_true]
  rfl

/-! A head's frame start, by who paces it (R226). -/

theorem headFrameStart_of_fixed (hfixed : s.headPaced n = false) (hwaits : s.frameWaits n = true) :
    s.headFrameStart n = s.headFrame n :=
  (if_neg (Bool.eq_false_iff.mp hfixed)).trans (if_pos hwaits)

theorem headFrameStart_of_paced (hpaced : s.headPaced n = true) (hon : s.headState n = 2) (hlive : (s.lclock n).live = true)
    (hrun : (s.head n).running = true) (hdue : s.vrrDue n = true) :
    s.headFrameStart n =
      (s.vrrPeers n).foldl (fun u m =>
        (u.lcAdvance m ((s.lclock n).start +
          (((s.vrrPeers n).foldl (fun a m => max a (s.vrrLine m)) 0 : Nat) : Rat) * (s.lclock n).line +
            u.baseRat (u.lclock m).base - u.baseRat (s.lclock n).base)).headFrame m) s := by
  have hwaits : ¬ (¬ (s.lclock n).live = true ∨ ¬ (s.head n).running = true ∧ ¬ (s.head n).idle = true) := by
    rw [hlive, hrun]
    simp
  exact (if_pos hpaced).trans ((if_neg (not_not_intro (.inl hon))).trans ((if_neg hwaits).trans (if_pos hdue)))

theorem headStarts_eq (t : State) (ht : s.headFrameStart n = t) :
    s.headStarts n = (List.range 4).foldl (fun (t : State) m =>
      if s.headPaced m ∧ (t.lclock m).frame ≠ (s.lclock m).frame then t.frameHooks m else t) t := by
  subst ht
  rfl
end

/-- Settles O34: the switch by its state, a commit by its checks, a frame start by who paces it. -/
theorem headSwitchingAndCommits : Obligations.HeadSwitchingAndCommits := by
  unfold Obligations.HeadSwitchingAndCommits
  intro n s hheld
  refine ⟨fun hoff hfree => ?start, fun hstarting => next_of_done hheld rfl (if_pos ⟨hstarting, rfl⟩),
    fun hon => next_of_done hheld rfl ?stop, fun mask => next_of_done hheld rfl rfl,
    fun hon hfree => next_of_done hheld rfl (headCommit_one_of_unarmed s hon hfree), fun hdue => ?take,
    ⟨fun hfixed hwaits => next_of_done hheld rfl (headStarts_eq s n _ (headFrameStart_of_fixed s n hfixed hwaits)),
      fun hpaced hon hlive hrun hdue =>
        next_of_done hheld rfl (headStarts_eq s n _ (headFrameStart_of_paced s n hpaced hon hlive hrun hdue))⟩,
    fun hdue => next_of_done hheld rfl (if_pos hdue)⟩
  case start =>
    intro u
    have hwork : s.headEnable n true = u.headStart n := by
      rw [headEnable_of_switch s n true (fun h => Bool.noConfusion h.2), enWrite_of_off_on s _ hoff hfree]
      rfl
    exact ⟨next_of_done hheld rfl hwork, fun hbad => next_of_done hheld rfl (hwork.trans (if_pos hbad))⟩
  case stop =>
    have hno : ¬ (s.headState n = 1 ∧ false = false) := by
      rintro ⟨hone, -⟩
      rw [show s.headState n = 2 from hon] at hone
      cases hone
    rw [headEnable_of_switch s n false hno, enWrite_of_on_off s _ hon]
    rfl
  case take =>
    intro u
    exact ⟨next_of_done hheld rfl (if_pos hdue), fun hbad => next_of_done hheld rfl ((if_pos hdue).trans (if_pos hbad))⟩

section
variable (s : State) (n : Fin 4)

/-! The link of a head (R222). -/

theorem hpdLoss_of_pin (hup : s.on BST_HSTAT_LINKUP n = true) :
    s.hpdLoss n true =
      (((s.setHead n { s.head n with hpd := false, training := (s.head n).training && !(s.headState n == 2) }).linkLost n).showSettle
        n) := by
  simp only [State.hpdLoss, hup, Bool.not_true, Bool.and_false, not_true_eq_false, and_false, if_false, Bool.true_and, if_true]

theorem hpdLoss_of_link (hup : s.on BST_HSTAT_LINKUP n = true) :
    s.hpdLoss n false = (((s.setHead n { s.head n with training := true }).linkLost n).showSettle n) := by
  simp only [State.hpdLoss, hup, Bool.not_false, Bool.and_true, Bool.false_eq_true, not_false_eq_true, and_self, if_true]

theorem hpdReturn_of_down (hlive : s.headState n = 1 ∨ s.headState n = 2) (hdp : (s.head n).cfg.dp = true)
    (hdown : s.on BST_HSTAT_LINKUP n = false) :
    s.hpdReturn n = (s.setHead n { s.head n with hpd := true, training := true, failAt := none }).showSettle n := by
  have hagain : ((s.headState n == 2 || s.headState n == 1) && (s.head n).cfg.dp && !s.on BST_HSTAT_LINKUP n) = true := by
    rw [hdp, hdown]
    simpa using hlive.symm
  simp only [State.hpdReturn, hagain, Bool.or_true]

/-- A training that succeeds (R222). -/
theorem trainResult_of_ok (u : State) (hhpd : (s.head n).hpd = true)
    (hu : (s.setHead n { s.head n with training := false, failAt := none, outage := false, relock := false, settleDue := true }).setFld
      BST_HSTAT_LINKUP 1 n = u) (hon : u.headState n = 2) : s.trainResult n true = u.showSettle n := by
  have hnot : ¬ u.headState n = 1 := by
    rw [hon]
    decide
  subst hu
  exact (if_pos ⟨rfl, hhpd⟩).trans (congrArg (State.showSettle · n) (if_neg hnot))

/-- A training that fails raises its alarm once for an outage (R222). -/
theorem trainResult_of_failed :
    s.trainResult n false =
      if (s.head n).outage then s.setHead n { s.head n with failAt := some s.tick, outage := true }
      else ((s.setHead n { s.head n with failAt := some s.tick, outage := true }).raise BST_HSTAT_TRAIN_FAIL n).alarm (0x1C + n)
        0x0505 := by
  simp only [State.trainResult, Bool.false_eq_true, false_and, if_false]

/-! What a head knows of its frames does not depend on its pushed frame (R239). -/

theorem head_setHead (h : Head) : (s.setHead n h).head n = h := Tbl_get_set_self _ _ _ _

theorem frameShort_of_pushDone (x : Option (Nat × Nat)) :
    (s.setHead n { s.head n with pushDone := x }).frameShort n = s.frameShort n := by
  have hscan : (s.setHead n { s.head n with pushDone := x }).scanSet n = s.scanSet n := by
    have hget := head_setHead s n { s.head n with pushDone := x }
    simp only [State.scanSet, show ∀ t : State, t.bst.get {} n = t.head n from fun _ => rfl, hget]
  have hpaced : (s.setHead n { s.head n with pushDone := x }).headPaced n = s.headPaced n := by
    unfold State.headPaced
    rw [hscan]
    rfl
  unfold State.frameShort
  rw [hpaced, head_setHead]
  rfl

/-- A pushed frame's CRC arrives: not compared for a short frame, and else with PC_EN against the expected one (R225, R240). -/
theorem pinCheck_of_push (f want got : Nat) (hpush : (s.head n).pushDone = some (f, want)) (u : State)
    (hu : s.setHead n { s.head n with pushDone := none } = u) :
    s.pinCheck n true got =
      if (s.head n).shorts.contains f = true ∨ ((s.head n).frame = f ∧ (s.head n).running = true ∧ s.frameShort n = true) then u
      else if s.on BST_PC_CFG_PC_EN n then u.pinCompare n f want got
      else if u.on BST_HSTAT_PINCHECK n then u else u.setFld BST_PC_LAST_EXPECTED want n := by
  subst hu
  rw [← frameShort_of_pushDone s n none]
  simp only [State.pinCheck, hpush, if_true]
end

/-- Settles O35: the link by its state, the CRC of a pushed frame by whether the frame is short. -/
theorem headLinks : Obligations.HeadLinks := by
  unfold Obligations.HeadLinks
  intro n s hheld h
  refine ⟨fun hup => ⟨next_of_done hheld rfl (hpdLoss_of_pin s n hup), next_of_done hheld rfl (hpdLoss_of_link s n hup)⟩,
    fun hlive hdp hdown => next_of_done hheld rfl (hpdReturn_of_down s n hlive hdp hdown),
    fun hdue hon => ⟨fun hhpd => ?trained, fun hfirst => next_of_done hheld rfl ((if_pos hdue).trans ?first),
      fun hagain => next_of_done hheld rfl ((if_pos hdue).trans ?again)⟩,
    fun f want got hpush => ?crc⟩
  case trained =>
    intro u hu
    exact next_of_done hheld rfl ((if_pos hdue).trans (trainResult_of_ok s n u hhpd rfl hu))
  case first => exact (trainResult_of_failed s n).trans (if_neg (Bool.eq_false_iff.mp hfirst))
  case again => exact (trainResult_of_failed s n).trans (if_pos hagain)
  case crc =>
    intro u short
    have hcheck := pinCheck_of_push s n f want got.toNat hpush u rfl
    exact ⟨fun hshort => next_of_done hheld rfl (hcheck.trans (if_pos hshort)),
      fun hlong hen => next_of_done hheld rfl (hcheck.trans ((if_neg hlong).trans (if_pos hen)))⟩

/-- Outside Dusk a KEEPALIVE is its packet alone (R237). -/
theorem keepalive_of_no_dusk (s : State) (n : Nat) (u : State)
    (hu : s.pushPacket n (State.setFor (s.head n) (s.head n).frame) (s.frameStamp n) (s.lclock n).base 3 (s.head n).frame 0xFFFF 0xFFFF
      0 0 1 1 [] = u) (hdusk : u.on BST_HSTAT_DUSK n = false) : s.keepalive n = u := by
  subst hu
  exact if_neg (fun h => Bool.eq_false_iff.mp hdusk h.1)

/-- Settles O36: each moment of fetch and push by its condition. -/
theorem headFetchAndPush : Obligations.HeadFetchAndPush := by
  unfold Obligations.HeadFetchAndPush
  intro n s hheld h
  refine ⟨fun hdue => next_of_done hheld rfl (if_pos hdue), fun l hnow => next_of_done hheld rfl (if_pos hnow),
    fun hcrit => next_of_done hheld rfl (if_pos hcrit), fun hheldBursts hnone => next_of_done hheld rfl (if_pos ⟨hheldBursts, ?none⟩),
    fun hrow => next_of_done hheld rfl (if_pos hrow), fun htrained hleave => next_of_done hheld rfl (if_pos ⟨htrained, hleave⟩),
    fun hlate => next_of_done hheld rfl (if_neg ?some), fun hdue hdusk => ?keepalive⟩
  case none =>
    intro hany
    obtain ⟨m, hm, hbelow⟩ := List.any_eq_true.mp hany
    exact Bool.eq_false_iff.mp (hnone m (List.mem_range.mp hm)) hbelow
  case some => exact fun hempty => hlate (List.isEmpty_iff.mp hempty)
  case keepalive =>
    intro u hu
    exact next_of_done hheld rfl ((if_pos hdue).trans (keepalive_of_no_dusk s n u rfl hu))
end Sys2Proof.Proofs
end

section
/-! PROOF. Zhevlink (R262, R263, R293-R314): links, HALOs between chips, remote wickets, the group. -/
namespace Sys2Proof.Proofs
open Sys2Proof Sys2Proof.Machine Sys2Proof.Laws

section
variable (s : State)

/-! The arrival of a content on a link (R295, R298). -/

/-- The frames of a content go by the number of its numbers alone. -/
theorem zcount_congr {a b : List Nat} (h : a.length = b.length) (payload : List Byte) : zcount a payload = zcount b payload := by
  unfold zcount
  rw [h]

/-- A content for this chip and newer than the last is used in the state in which it is delivered. -/
theorem zrecv_of_here {h : ZHdr} {kind : ZKind} {n : Nat} {args : List Nat} {payload : List Byte} (use : State → State)
    (hn : zcount args payload = n) (hhere : s.zHere h kind n = true) : s.zrecv h kind args payload use = use (s.zTaken h kind n) := by
  subst hn
  simp only [State.zHere, Bool.and_eq_true, beq_iff_eq] at hhere
  obtain ⟨⟨⟨hup, hdst⟩, hchip⟩, hnewer⟩ := hhere
  exact (if_neg (not_not_intro hup)).trans ((if_neg (not_not_intro (hdst.trans hchip.symm))).trans (if_pos hnewer))

/-- What a frame's command answers once the frame is delivered. -/
theorem next_of_frame {s : State} {c : Instr} {h : ZHdr} {kind : ZKind} {n : Nat} {args : List Nat} {payload : List Byte}
    {use : State → State} {u : State} (hheld : s.gth.held = false) (hexec : exec c s = done s (s.zrecv h kind args payload use))
    (hn : zcount args payload = n) (hhere : s.zHere h kind n = true) (hu : use (s.zTaken h kind n) = u) :
    exec c s = .next (s.after u) :=
  next_of_done hheld hexec ((zrecv_of_here s use hn hhere).trans hu)

/-- A content of at most 64 numbers and no bytes is one frame. -/
theorem zcount_of_few {args : List Nat} (h : args.length ≤ 64) : zcount args [] = 1 := by
  simp only [zcount, cdiv, List.length_nil, Nat.add_zero]
  omega

theorem next_of_short_frame {s : State} {c : Instr} {h : ZHdr} {kind : ZKind} {args : List Nat} {use : State → State} {u : State}
    (hheld : s.gth.held = false) (hexec : exec c s = done s (s.zrecv h kind args [] use)) (hfew : Nat.ble args.length 64 = true)
    (hhere : s.zHere h kind = true) (hu : use (s.zTaken h kind) = u) : exec c s = .next (s.after u) :=
  next_of_frame hheld hexec (zcount_of_few (Nat.le_of_ble_eq_true hfew)) hhere hu

variable (l : Fin 8)

/-! A training attempt that a check refuses, and a lane that fails (R294, R297). -/

theorem trainFail_of_again (why : Nat) (hagain : (s.zlink l).failed = true) :
    s.trainFail l why = ((s.setFld ZHL_LNK_CTRL_TRAIN_REASON why l).setFld ZHL_LNK_CTRL_LSTATE 0 l).setZlink l
      { s.zlink l with failed := true, failAt := some s.tick } :=
  if_pos hagain

theorem trainFail_of_first (why : Nat) (hfirst : (s.zlink l).failed = false) :
    s.trainFail l why = (((s.setFld ZHL_LNK_CTRL_TRAIN_REASON why l).setFld ZHL_LNK_CTRL_LSTATE 0 l).setZlink l
      { s.zlink l with failed := true, failAt := some s.tick }).alarm (0x48 + l) 0x0803 :=
  if_neg (Bool.eq_false_iff.mp hfirst)

theorem laneFail_of_no_spare (lane : Nat) (hspare : lane ≠ s.fld ZHL_LNK_CTRL_SPARE l) (hnew : (s.zlink l).swap ≠ some lane)
    (hused : s.on ZHL_LNK_CTRL_SPARE_USED l = true ∨ (s.zlink l).swap ≠ none) : s.laneFail l lane = s.linkDown l :=
  (if_neg (not_or.mpr ⟨hspare, hnew⟩)).trans (if_pos (hused.imp_right Option.isSome_iff_ne_none.mpr))

theorem laneFail_of_spare (lane : Nat) (hspare : lane ≠ s.fld ZHL_LNK_CTRL_SPARE l) (hfree : s.on ZHL_LNK_CTRL_SPARE_USED l = false)
    (hnone : (s.zlink l).swap = none) : s.laneFail l lane = s.setZlink l { s.zlink l with swap := some lane } := by
  simp only [State.laneFail, hspare, hfree, hnone, reduceCtorEq, Option.isSome_none, Bool.false_eq_true, or_self, if_false]
end

/-- Settles O37: the switch by its state, a training by its checks, a link's talk while it is up. -/
theorem linkTraining : Obligations.LinkTraining := by
  unfold Obligations.LinkTraining
  intro l s hheld
  refine ⟨fun hoff hfree => next_of_done hheld rfl ?start, fun hon => next_of_done hheld rfl ?stop,
    fun htraining hquad lanes rtt chip nl gid other =>
      ⟨fun hgood => next_of_done hheld rfl ((if_pos ⟨htraining, hquad⟩).trans (if_pos hgood)),
      fun hbad hagain => next_of_done hheld rfl
        ((if_pos ⟨htraining, hquad⟩).trans ((if_neg hbad).trans (trainFail_of_again s l _ hagain))),
      fun hbad hfirst => next_of_done hheld rfl
        ((if_pos ⟨htraining, hquad⟩).trans ((if_neg hbad).trans (trainFail_of_first s l _ hfirst)))⟩,
    fun t hfail hlate => next_of_done hheld rfl ?retry,
    fun hup => ⟨fun hlate => next_of_done hheld rfl (if_pos ⟨hup, hlate⟩), fun r => next_of_done hheld rfl (if_pos hup),
      fun r g => next_of_done hheld rfl (if_pos hup)⟩⟩
  case start =>
    rw [enWrite_of_off_on s _ hoff hfree]
    rfl
  case stop =>
    rw [enWrite_of_on_off s _ hon]
    rfl
  case retry =>
    rw [hfail]
    exact if_pos hlate

section
variable (s : State) (l : Nat)

/-! ACK and NAK (R296). -/

theorem ackIn_of_ack (q : Nat) :
    s.ackIn l false q = (s.setZlink l { s.zlink l with
      retry := (s.zlink l).retry.filter (fun f => serialGe 16 f.1 ((q + 1) % 65536)), nakRun := 0 }).linkRefill l := by
  simp only [State.ackIn, Bool.false_eq_true, not_false_eq_true, if_true, if_false]

theorem ackIn_of_nak (q run : Nat) (v : State)
    (hrun : (if (s.zlink l).nakRun ≠ 0 ∧ (s.zlink l).nakAt = q then (s.zlink l).nakRun + 1 else 1) = run)
    (hv : s.setZlink l { s.zlink l with
      retry := (s.zlink l).retry.filter (fun f => serialGe 16 f.1 q), nakRun := run, nakAt := q } = v) :
    s.ackIn l true q =
      if 16 ≤ run then v.linkDown l else (((v.addSat ZHL_LNK_CNT_RETRY 1 l).tcount 2).replay l).linkRefill l := by
  subst hrun hv
  simp only [State.ackIn, not_true_eq_false, if_false, if_true]

/-- A frame of an unassigned TYPE is dropped and acknowledged (R303). -/
theorem frameBad_of_type :
    s.frameBad l 2 = ((s.setZlink l { s.zlink l with lastRx := s.tick }).addSat ZHL_LNK_CNT_CRCERR 1 l).zarrive l := by
  have hgap : (2 : Fin 3) ≠ 1 := by decide
  simp only [State.frameBad, hgap, if_false, if_true]

/-- A lane swap that is over (R297). -/
theorem laneSwap_of_some (lane : Nat) (hswap : (s.zlink l).swap = some lane) :
    s.laneSwap l = (((((((s.setZlink l { s.zlink l with swap := none }).setFld ZHL_LNK_CTRL_SPARE lane l).setFld
      ZHL_LNK_CTRL_SPARE_USED 1 l).addSat ZHL_LNK_CNT_SWAP 1 l).tcount 2).logFree 0x0802 8 l 0xFFFF).replay l) := by
  simp only [State.laneSwap, hswap]
end

/-- Settles O38: ACK, NAK, a bad frame, silence and a failed lane, each by its case. -/
theorem linkErrors : Obligations.LinkErrors := by
  unfold Obligations.LinkErrors
  intro l s hheld x
  refine ⟨fun hup => ?frames,
    fun hup lane hspare hnew => ⟨fun hused => next_of_done hheld rfl ((if_pos hup).trans (laneFail_of_no_spare s l _ hspare hnew hused)),
      fun hfree hnone => next_of_done hheld rfl ((if_pos hup).trans (laneFail_of_spare s l _ hspare hfree hnone))⟩,
    fun lane hswap => next_of_done hheld rfl (laneSwap_of_some s l lane hswap)⟩
  case frames =>
    intro u y
    refine ⟨fun q => next_of_done hheld rfl ((if_pos hup).trans (ackIn_of_ack u l q.toNat)), fun q => ?nak,
      fun kind hkind => next_of_done hheld rfl ((if_pos hup).trans (if_neg hkind)),
      next_of_done hheld rfl ((if_pos hup).trans (frameBad_of_type s l)), fun hlate => next_of_done hheld rfl (if_pos ⟨hup, hlate⟩)⟩
    case nak =>
      intro run v
      have hnak := ackIn_of_nak u l q.toNat run v rfl rfl
      exact ⟨fun hfew => next_of_done hheld rfl ((if_pos hup).trans (hnak.trans (if_neg (Nat.not_le.mpr hfew)))),
        fun hmany => next_of_done hheld rfl ((if_pos hup).trans (hnak.trans (if_pos hmany)))⟩

section
variable (s : State) (k : Nat) (c : Cmd) (step tag axis : Nat) (codes ents : List Nat) (bmax : Int)
  (hcmd : s.haloCmd k = some c) (hout : c.remote = true) (hstep : c.step = step)
include hcmd hout hstep

/-! The answer to a HALO whose request is out (R305). -/

theorem haloData_of_tagged (htag : s.haloTagOk c tag = true) :
    s.haloData k step tag codes ents axis bmax false =
      s.haloFill k c (c.firedAt + s.haloFc c.words (tensorBytes (tdCode (s.td k (mTD (word c.words 0)))) codes ents).length) codes ents
        axis bmax := by
  simp only [State.haloData, hcmd, hout, hstep, htag, and_self, if_true, Bool.false_eq_true, if_false, not_true_eq_false]

theorem haloData_of_stale (htag : s.haloTagOk c tag = false) :
    s.haloData k step tag codes ents axis bmax false = s.staleTag := by
  simp only [State.haloData, hcmd, hout, hstep, htag, and_self, if_true, Bool.false_eq_true, if_false, not_false_eq_true]

theorem haloData_of_refused : s.haloData k step tag codes ents axis bmax true = s.runFault k c 0x020E := by
  simp only [State.haloData, hcmd, hout, hstep, and_self, if_true]
end

/-- A HALO_REQ at its producer: BUSY of a full table, else it waits (R305). -/
theorem haloReq_of_full (s : State) (x : ZHalo) (hfull : 512 ≤ s.zhl.halos.length) :
    s.haloReq x = s.zsend x.chip .haloBusy 0 [x.prog] [] :=
  if_pos hfull

theorem haloReq_of_room (s : State) (x : ZHalo) (hroom : s.zhl.halos.length < 512) :
    s.haloReq x = { s with zhl := { s.zhl with
      halos := s.zhl.halos ++ [x],
      readers := if s.zhl.readers.contains (256 * x.plot + x.chid, x.chip) then s.zhl.readers
        else s.zhl.readers ++ [(256 * x.plot + x.chid, x.chip)] } } :=
  if_neg (Nat.not_le.mpr hroom)

/-- Settles O39: each frame of a HALO where it arrives. -/
theorem haloCommands : Obligations.HaloCommands := by
  unfold Obligations.HaloCommands
  intro h k step s hheld
  refine ⟨fun p c r0 rs tags => ?request, fun x hfirst => next_of_done hheld rfl ?answer,
    fun hhere => next_of_short_frame hheld rfl rfl hhere rfl,
    fun hset hlate => next_of_done hheld rfl (if_pos ⟨hset, ?late⟩), fun cs es ax b c => ?data, fun cs es ax b c => ?refused,
    fun hhere p c ab => next_of_short_frame hheld rfl rfl hhere rfl⟩
  case request =>
    intro n hhere u
    have hn : zcount ([k.toNat, step.toNat, p, c.toNat, r0.toNat, rs.toNat] ++ tags.map (fun t => t.toNat)) [] = n :=
      zcount_congr (by simp only [List.length_append, List.length_replicate, List.length_map, List.length_cons, List.length_nil]) []
    exact ⟨fun hfull => next_of_frame hheld rfl hn hhere (haloReq_of_full u _ hfull),
      fun hroom => next_of_frame hheld rfl hn hhere (haloReq_of_room u _ hroom)⟩
  case answer => rw [hfirst]
  case late =>
    have hus : usTicks = 500 := rfl
    omega
  case data =>
    intro pay n hhere u codes ents hcmd hout hstep
    exact ⟨fun htag => next_of_frame hheld rfl rfl hhere (haloData_of_tagged u _ c _ _ _ _ _ _ hcmd hout hstep htag),
      fun htag => next_of_frame hheld rfl rfl hhere (haloData_of_stale u _ c _ _ _ _ _ _ hcmd hout hstep htag)⟩
  case refused =>
    intro n hhere u hcmd hout hstep
    exact next_of_frame hheld rfl rfl hhere (haloData_of_refused u _ c _ _ _ _ _ _ hcmd hout hstep)

section
variable (s : State) (w : Nat)

/-! A proxied wicket at its home and at the proxy (R307). -/

theorem waitReqIn_of_free (chip req n : Nat) (hcut : s.xcut w = true) (hnone : (s.wkt w).rwait = none)
    (hkind : s.fld PTR_WKT_WKIND w = 0) (v : State)
    (hv : ((s.setFld PTR_WKT_WKIND 4 w).setFld PTR_WKT_WID chip w).setWkt w { s.wkt w with rwait := some (chip, req, n) } = v) :
    s.waitReqIn chip w req n = if v.frozen w then v else v.wktRemote w := by
  subst hv
  simp only [State.waitReqIn, hcut, hnone, hkind, not_true_eq_false, Option.isSome_none, Bool.false_eq_true, true_or, or_self, if_false]

theorem waitCancelIn_of_held (chip req m : Nat) (hheld : (s.wkt w).rwait = some (chip, req, m)) :
    s.waitCancelIn chip w req = (s.setWkt w { s.wkt w with rwait := none }).zsend chip .waitDone 0 [req, 2] [] := by
  simp only [State.waitCancelIn, hheld, and_self, if_true]

theorem waitDoneIn_of_waiter (result k : Nat) (g : Prog) (hthawed : s.frozen w = false) (hwaiter : s.waiterOn w = some (k, g)) :
    s.waitDoneIn w result =
      if result = 1 then s.cmdFault k 0x020A
      else if result = 2 then s.waitExpired k
      else (s.setProg k { s.prog k with wait := .none }).advance k := by
  simp only [State.waitDoneIn, hthawed, hwaiter, Bool.false_eq_true, if_false]
end

/-- Settles O40: each frame of a wicket or a fence where it arrives. -/
theorem remoteWickets : Obligations.RemoteWickets := by
  unfold Obligations.RemoteWickets
  intro h w req n s hheld
  refine ⟨fun hhere => ⟨fun hfrozen => ?frozen, fun hthawed hcut => ?signal, fun hthawed hno => ?stray⟩,
    fun hhere => ⟨fun hno => next_of_short_frame hheld rfl rfl hhere (if_pos (.inl (Bool.eq_false_iff.mp hno))),
      fun hcut hnone hkind => next_of_short_frame hheld rfl rfl hhere (waitReqIn_of_free _ _ _ _ _ hcut hnone hkind _ rfl)⟩,
    fun hhere m hwait => next_of_short_frame hheld rfl rfl hhere (waitCancelIn_of_held _ _ _ _ m hwait),
    fun hhere k g hthawed hwaiter => ?done,
    fun l hup o id => ⟨next_of_done hheld rfl (if_pos hup), fun f hfence => next_of_done hheld rfl ((if_pos hup).trans ?ack)⟩⟩
  case frozen => exact next_of_short_frame hheld rfl rfl hhere (if_pos hfrozen)
  case signal => exact next_of_short_frame hheld rfl rfl hhere ((if_neg (Bool.eq_false_iff.mp hthawed)).trans (if_pos hcut))
  case stray =>
    exact next_of_short_frame hheld rfl rfl hhere ((if_neg (Bool.eq_false_iff.mp hthawed)).trans (if_neg (Bool.eq_false_iff.mp hno)))
  case done =>
    have hdone := fun result => waitDoneIn_of_waiter (s.zTaken h .waitDone) w.toNat result k g hthawed hwaiter
    exact ⟨next_of_short_frame hheld rfl rfl hhere (hdone 0), next_of_short_frame hheld rfl rfl hhere (hdone 1),
      next_of_short_frame hheld rfl rfl hhere (hdone 2)⟩
  case ack =>
    simp only [State.fenceAckIn]
    rw [hfence]
end Sys2Proof.Proofs
end

section
/-! PROOF. The group (R262, R263, R300, R308, R310-R314): the barrier across chips, group time, membership. -/
namespace Sys2Proof.Proofs
open Sys2Proof Sys2Proof.Machine Sys2Proof.Laws

section
variable (s : State) (w : Nat)

/-- An arrival at the anchor while another member's is missing is recorded (R262). -/
theorem gbarArrive_of_missing (src m : Nat) (hmember : m ∈ maskBits s.zhl.members)
    (hmissing : (s.zhl.arrivals.get [] w).contains m = false) (hother : m ≠ src)
    (hnew : (s.zhl.arrivals.get [] w).contains src = false) :
    s.gbarArrive src w =
      { s with zhl := { s.zhl with arrivals := s.zhl.arrivals.set [] w (s.zhl.arrivals.get [] w ++ [src]) } } := by
  have hwait : ¬ (¬ s.islanded = true ∧ (maskBits s.zhl.members).all (s.zhl.arrivals.get [] w ++ [src]).contains = true) := by
    rintro ⟨-, hall⟩
    have hthere := List.all_eq_true.mp hall m hmember
    have habsent : m ∉ s.zhl.arrivals.get [] w := by simpa using hmissing
    simp [habsent, hother] at hthere
  simp only [State.gbarArrive, hnew, Bool.false_eq_true, if_false, if_neg hwait]

/-- A RELEASE at a chip whose participants have arrived is kept until its time, or opens the barrier at once (R262). -/
theorem gbarRelease_of_released (trel ts : Nat) (v : State) (hready : (s.wkt w).released = true)
    (hv : ({ s with zhl := { s.zhl with rels := s.zhl.rels.set none w (some (trel, ts)) } } : State) = v) :
    s.gbarRelease w trel ts = if ¬ v.islanded ∧ (trel : Int) < v.gbarTime ts then v.gbarOpen w true else v := by
  subst hv
  exact if_neg (not_not_intro hready)
end

/-- Settles O41: the barrier by who has arrived and by its time, TSYNC by who asks. -/
theorem groupBarrierAndTime : Obligations.GroupBarrierAndTime := by
  unfold Obligations.GroupBarrierAndTime
  intro h w s hheld
  refine ⟨next_of_done hheld rfl rfl, fun hhere hanchor => ⟨?arrived, fun m hmember hmissing hother hnew => ?missing⟩,
    fun hhere tr ts => ?release, fun tr ts hrel htime => ⟨fun hthere => next_of_done hheld rfl ?opens,
      fun hisl => next_of_done_same hheld rfl ?stays⟩,
    fun hon hlate => next_of_done hheld rfl (if_pos ⟨hon, hlate⟩), fun hhere ofs => ?tsync⟩
  case arrived => exact next_of_short_frame hheld rfl rfl hhere (if_pos hanchor)
  case missing =>
    exact next_of_short_frame hheld rfl rfl hhere
      ((if_pos hanchor).trans (gbarArrive_of_missing _ _ _ m hmember hmissing hother hnew))
  case release =>
    intro u hready v
    have hrel := gbarRelease_of_released u w.toNat tr.toNat ts.toNat v hready rfl
    exact ⟨fun htime => next_of_short_frame hheld rfl rfl hhere
        (hrel.trans (if_neg (fun hlate => Int.not_lt.mpr htime hlate.2))),
      fun hisl => next_of_short_frame hheld rfl rfl hhere (hrel.trans (if_neg (fun hlate => hlate.1 hisl))),
      fun hthere hlate => next_of_short_frame hheld rfl rfl hhere (hrel.trans (if_pos ⟨Bool.eq_false_iff.mp hthere, hlate⟩))⟩
  case opens =>
    rw [hrel]
    exact if_pos ⟨Bool.eq_false_iff.mp hthere, htime⟩
  case stays =>
    rw [hrel]
    exact if_neg (fun hopen => hopen.1 hisl)
  case tsync =>
    exact ⟨fun hanchor => next_of_short_frame hheld rfl rfl hhere (if_pos hanchor),
      fun hon => next_of_short_frame hheld rfl rfl hhere (if_pos hon)⟩

section
variable (s : State)

/-- A side that does not keep the canvas becomes ISLAND (R310, R311). -/
theorem cutOff_of_losing (hlose : s.keepsCanvas = false) :
    s.cutOff false = (s.islandEnter.alarm 0x51 0x0805).floodState :=
  (if_neg (Bool.eq_false_iff.mp hlose)).trans (if_neg (fun h => Bool.false_ne_true h.1))

variable (who fr cause : Nat)

/-! A REJOIN_REQ at the acting anchor, and a grant (R313). -/

theorem rejoinReq_of_anchor (ptp jump : Bool) (hgroup : s.gstate = 1) (hanchor : s.actingAnchor = s.zhl.chip)
    (hbad : ptp = false ∨ (ptp = true ∧ jump = true ∧ (s.lclock s.zhl.lc).mode = 3)) :
    s.rejoinReq who ptp jump = s.zsend who .rejoinGrant 0 [who, 0, if ptp then 2 else 1] [] := by
  have hacts : ¬ (s.gstate ≠ 1 ∨ s.actingAnchor ≠ s.zhl.chip) := by
    rw [hgroup, hanchor]
    simp
  refine (if_neg hacts).trans ?_
  rcases hbad with rfl | ⟨rfl, rfl, hmode⟩
  · exact if_pos (.inl Bool.false_ne_true)
  · exact (if_neg (fun h => h.elim (· rfl) (· hmode))).trans (if_pos rfl)

theorem rejoinGrant_of_refusal (hme : who = s.zhl.chip) (hasked : s.zhl.rjAt.isSome = true) (hcause : cause ≠ 0) :
    s.rejoinGrant who fr cause = s.rejoinBad cause :=
  (if_pos hme).trans ((if_neg (fun h => Option.isSome_iff_ne_none.mp hasked (Option.isNone_iff_eq_none.mp h))).trans (if_pos hcause))

theorem rejoinGrant_of_grant (hme : who = s.zhl.chip) (hasked : s.zhl.rjAt.isSome = true) (v : State)
    (hv : ((s.grantNote who fr).setFld ZHL_GRP_STAT_GSTATE 3).setFld ZHL_GCMD_REJOIN 0 = v) :
    s.rejoinGrant who fr 0 = { v with zhl := { v.zhl with rjAt := none } } := by
  subst hv
  exact (if_pos hme).trans ((if_neg (fun h => Option.isSome_iff_ne_none.mp hasked (Option.isNone_iff_eq_none.mp h))).trans
    (if_neg (not_not_intro rfl)))

theorem rejoinGrant_of_other (hother : who ≠ s.zhl.chip) : s.rejoinGrant who fr 0 = s.grantNote who fr :=
  (if_neg hother).trans (if_pos rfl)
end

/-- Settles O42: each step of membership by its condition. -/
theorem groupMembership : Obligations.GroupMembership := by
  unfold Obligations.GroupMembership
  intro h s hheld
  refine ⟨fun hdue => next_of_done hheld rfl (if_pos hdue), fun hgroup hcut b => ?cut,
    fun hisl hanchor => next_of_done hheld rfl (if_pos ⟨hisl, hanchor⟩), fun t hstable hlate hisl hauto hnone => next_of_done hheld rfl ?auto,
    fun hhere hgroup hanchor => ⟨fun j => ?plain, fun hmode => ?jump, fun hmode => next_of_short_frame hheld rfl rfl hhere rfl⟩,
    fun hhere c fr cause => ⟨fun hme hasked hcause => ?refused, fun hme hasked => ?granted, fun hother => ?noted⟩,
    fun t hasked hlate => next_of_done hheld rfl ?lapse, fun hdue => next_of_done hheld rfl (if_pos hdue),
    fun hdue => next_of_done hheld rfl (if_pos hdue)⟩
  case cut =>
    have hsome : s.gstate = 1 ∧ ¬ s.cutOffs.isEmpty = true := ⟨hgroup, fun hempty => hcut (List.isEmpty_iff.mp hempty)⟩
    exact ⟨fun hkeeps => next_of_done hheld rfl ((if_pos hsome).trans (if_pos hkeeps)),
      fun hlose => next_of_done hheld rfl ((if_pos hsome).trans (cutOff_of_losing s hlose))⟩
  case auto =>
    rw [hstable]
    exact if_pos ⟨hisl, hauto, Option.isNone_iff_eq_none.mpr hnone, hlate⟩
  case plain => exact next_of_short_frame hheld rfl rfl hhere (rejoinReq_of_anchor _ _ false j hgroup hanchor (.inl rfl))
  case jump => exact next_of_short_frame hheld rfl rfl hhere (rejoinReq_of_anchor _ _ true true hgroup hanchor (.inr ⟨rfl, rfl, hmode⟩))
  case refused =>
    have hpos : cause.toNat ≠ 0 := fun hzero => hcause (BitVec.eq_of_toNat_eq hzero)
    exact next_of_short_frame hheld rfl rfl hhere (rejoinGrant_of_refusal _ _ _ _ hme hasked hpos)
  case granted => exact next_of_short_frame hheld rfl rfl hhere (rejoinGrant_of_grant _ _ _ hme hasked _ rfl)
  case noted => exact next_of_short_frame hheld rfl rfl hhere (rejoinGrant_of_other _ _ _ hother)
  case lapse =>
    rw [hasked]
    exact if_pos hlate
end Sys2Proof.Proofs
end

section
/-! PROOF. Recovery (R317-R345): hangs and replays, the reset levels, sparing, keepers and dumps, the cold reset. -/
namespace Sys2Proof.Proofs
open Sys2Proof Sys2Proof.Machine Sys2Proof.Laws

section
variable (s : State)

/-! A hang (R323, R341): what it shows, and who handles it. -/

theorem hang_of_engine {e : Nat} (he : e < 1024) :
    s.hang e =
      if ((s.alarm 0x58 0x0901).setFld LDG_STAT_ENGINE e).keeperRuns then ((s.alarm 0x58 0x0901).setFld LDG_STAT_ENGINE e).handleHang e
      else { (s.alarm 0x58 0x0901).setFld LDG_STAT_ENGINE e with ldg :=
        { ((s.alarm 0x58 0x0901).setFld LDG_STAT_ENGINE e).ldg with
          waiting := ((s.alarm 0x58 0x0901).setFld LDG_STAT_ENGINE e).ldg.waiting ++ [e] } } := by
  simp only [State.hang, if_neg (Nat.not_le.mpr he)]

/-- ENGINE of a plot controller, which has no number, is open (R323). -/
theorem hang_of_controller {e : Nat} (he : 1024 ≤ e) (u : State)
    (hu : ((s.alarm 0x58 0x0901).freeBits 16).2.setFld LDG_STAT_ENGINE ((s.alarm 0x58 0x0901).freeBits 16).1 = u) :
    s.hang e = if u.keeperRuns then u.handleHang e else { u with ldg := { u.ldg with waiting := u.ldg.waiting ++ [e] } } := by
  subst hu
  simp only [State.hang, if_pos he]

/-- The end of a replay, or the next suspect (R326). -/
theorem exec_suspectReplay_of_ready {e : BitVec 11} {r : Recov} {u : State} (hheld : s.gth.held = false)
    (hrec : s.ldg.recs.find? (fun (r : Recov) => r.engine == e.toNat) = some r) (hready : s.replayReady r = true)
    (hu : (if (s.replayNext r).2 then (s.replayNext r).1.retire r.engine else (s.replayNext r).1) = u) :
    exec (.suspectReplay e) s = .next (s.after u) := by
  refine next_of_done hheld rfl ?_
  rw [hrec]
  exact (if_pos hready).trans hu
end

/-- Settles O43: a hang by who handles it, a replay by what is left. -/
theorem hangsAndReplays : Obligations.HangsAndReplays := by
  unfold Obligations.HangsAndReplays
  intro s hheld
  refine ⟨fun e hnow hfree he => ?engine, fun e hnow hfree he => ?controller,
    fun p hstall hfree => next_of_done hheld rfl (if_pos ⟨hstall, Bool.eq_false_iff.mp hfree⟩), fun e r hrec => ?replay⟩
  case engine =>
    have hhang := hang_of_engine s he
    have hgo : s.hungNow e.toNat = true ∧ ¬ s.recovering e.toNat = true := ⟨hnow, Bool.eq_false_iff.mp hfree⟩
    exact ⟨fun hkeeper => next_of_done hheld rfl ((if_pos hgo).trans (hhang.trans (if_pos hkeeper))),
      fun hnone => next_of_done hheld rfl ((if_pos hgo).trans (hhang.trans (if_neg (Bool.eq_false_iff.mp hnone))))⟩
  case controller =>
    intro t u
    have hhang := hang_of_controller s he u rfl
    have hgo : s.hungNow e.toNat = true ∧ ¬ s.recovering e.toNat = true := ⟨hnow, Bool.eq_false_iff.mp hfree⟩
    exact ⟨fun hkeeper => next_of_done hheld rfl ((if_pos hgo).trans (hhang.trans (if_pos hkeeper))),
      fun hnone => next_of_done hheld rfl ((if_pos hgo).trans (hhang.trans (if_neg (Bool.eq_false_iff.mp hnone))))⟩
  case replay =>
    refine ⟨fun hready hmore => exec_suspectReplay_of_ready s hheld hrec hready (if_neg (Bool.eq_false_iff.mp hmore)),
      fun hready hlast => exec_suspectReplay_of_ready s hheld hrec hready (if_pos hlast), fun hout => next_of_done hheld rfl ?_⟩
    rw [hrec]
    exact if_pos hout

section
variable (s : State)

/-! Levels 2 to 4 (R317, R320). -/

theorem resetWrite_of_pavilion {e : Nat} (he : e < 156) : s.resetWrite 2 e = s.ask 2 e := by
  have hok : engineOk e = true := by simp [engineOk, he]
  exact (if_pos ⟨rfl, hok⟩).trans (if_neg (by omega))

/-- An engine that is no head may be reset at level 2. -/
theorem engineOk_of_no_head {e : Nat} (he : e < 156 ∨ (256 ≤ e ∧ e < 264) ∨ (768 ≤ e ∧ e < 784)) :
    engineOk e = true ∧ ¬ (512 ≤ e ∧ e < 516) := by
  refine ⟨?_, by omega⟩
  rcases he with he | he | he <;> simp [engineOk, he]

theorem partitionBegin_of_first {p : Nat} (hfirst : s.ldg.l3At.get 0 p = 0) : s.partitionBegin p = s.partitionDo p :=
  if_neg (fun h => h.1 hfirst)

theorem warmBegin_of_first (hfirst : s.ldg.l4At = 0) : s.warmBegin = s.warmDo :=
  if_neg (fun h => h.1 hfirst)

/-- A level in progress past its bound (R320): level 1 by its teardown, the others by their start. -/
theorem levelTimeout_of_teardown {c : Nat}
    (hfind : (List.range 1024).find? (fun c => (s.ctx c).tearStep == 2 && decide ((s.ctx c).drainAt + 8 * usTicks ≤ s.tick)) = some c) :
    s.levelTimeout 1 =
      (((s.setCtx c { s.ctx c with drainAt := s.tick }).logEscalate 1 (s.tearEngine c).1 c).ask (s.tearEngine c).1 (s.tearEngine c).2) := by
  simp only [State.levelTimeout, if_true, hfind]

theorem levelTimeout_of_level {l : Nat} {x : Nat × Nat × Nat} (hl : l ≠ 1)
    (hfind : s.ldg.lvl.find? (fun x => x.1 == l && decide (x.2.2 + State.lvlBound l * usTicks ≤ s.tick)) = some x) :
    s.levelTimeout l = (s.lvlEnd l x.2.1).escalate l x.2.1 := by
  simp only [State.levelTimeout, if_neg hl, hfind]
end

/-- Settles O44: each level by its moment. -/
theorem resetLevels : Obligations.ResetLevels := by
  unfold Obligations.ResetLevels
  intro s hheld
  refine ⟨fun e => ⟨fun he => next_of_done hheld rfl (resetWrite_of_pavilion s he), fun he hmay => next_of_done hheld rfl ?begins,
      fun hruns ok => next_of_done hheld rfl (if_pos hruns)⟩, fun n hdue => next_of_done hheld rfl (if_pos hdue),
    fun p => ⟨next_of_done hheld rfl rfl,
      fun hmay hfirst => next_of_done hheld rfl ((if_pos hmay).trans (partitionBegin_of_first s hfirst)),
      fun hruns => ⟨next_of_done hheld rfl (if_pos hruns), next_of_done hheld rfl (if_pos hruns)⟩⟩,
    next_of_done hheld rfl rfl, fun hmay hfirst => next_of_done hheld rfl ((if_pos hmay).trans (warmBegin_of_first s hfirst)),
    fun hruns => ⟨next_of_done hheld rfl (if_pos hruns), next_of_done hheld rfl (if_pos hruns)⟩,
    fun l hl x hfind => next_of_done hheld rfl (levelTimeout_of_level s (fun h => hl (Fin.ext h)) hfind),
    fun c hfind => next_of_done hheld rfl (levelTimeout_of_teardown s hfind)⟩
  case begins =>
    obtain ⟨hok, hhead⟩ := engineOk_of_no_head he
    exact if_pos ⟨hok, hhead, hmay⟩

section
variable (s : State)

/-- A pavilion that is to be retired suspends the plots it moves (R331). -/
theorem retire_of_new {v : Nat} (hv : v < 156) (hin : s.retired v = false) (hnew : s.ldg.retiring.contains v = false) :
    s.retire v = { s with ldg := { s.ldg with
      retiring := s.ldg.retiring ++ [v], affected := (s.ldg.affected ++ s.movedPlots v).eraseDups } } := by
  have hgo : ¬ (155 < v ∨ s.retired v = true ∨ s.ldg.retiring.contains v = true) := by
    rw [hin, hnew]
    simp only [Bool.false_eq_true, or_self, or_false]
    omega
  exact if_neg hgo

/-- Both keepers have been silent for 10 ms (R342). -/
theorem keepersSilent_of_late {a b : Nat} (ha : s.ldg.k0At = some a) (hb : s.ldg.k1At = some b)
    (hlate : a + 10000 * usTicks ≤ s.tick ∧ b + 10000 * usTicks ≤ s.tick) : s.keepersSilent = true := by
  simp only [State.keepersSilent, ha, hb]
  exact decide_eq_true hlate

/-- GO of a hand-over by whether one runs (R343). -/
theorem fwGo_eq (flash : Bool) (lc : Nat) (u : State)
    (hu : (s.setFld LDG_FW_CTRL_FLASH (b2n flash)).setFld LDG_FW_CTRL_LC lc = u) :
    s.fwGo flash lc =
      if u.fld LDG_FW_CTRL_STATE ≠ 0 then u.addSat LDG_FW_CTRL_GO_IGNORED 1
      else (u.setFld LDG_FW_CTRL_STATE 1).setFld LDG_FW_CTRL_GO 1 := by
  subst hu
  rfl

/-- A dump whose trigger is enabled begins, or counts as missed while one runs (R337). -/
theorem dumpStart_of_trigger (n : Nat) (plot : Option Nat) (engine : Nat) (htrig : bit (s.fld LDG_DUMP_CFG_TRIG) (n - 1) = true) :
    s.dumpStart n plot engine =
      if s.ldg.dump.isSome then s.addSat LDG_DUMP_STAT_MISSED 1
      else { s.setFld LDG_DUMP_STAT_BUSY 1 with
        ldg := { s.ldg with dump := some ⟨n, engine, s.stamp, !s.trained, [], s.dumpUnits plot engine (!s.trained)⟩ } } :=
  if_neg (not_not_intro htrig)
end

/-- Settles O45: each moment of sparing, keepers and dumps by its condition. -/
theorem sparingKeepersDumps : Obligations.SparingKeepersDumps := by
  unfold Obligations.SparingKeepersDumps
  intro s hheld
  refine ⟨fun v hv hin hnew => next_of_done hheld rfl (retire_of_new s hv hin hnew), fun v hready => next_of_done hheld rfl (if_pos hready),
    fun k hmiss => next_of_done hheld rfl (if_pos hmiss), fun hwin hkeeper hlate => next_of_done hheld rfl (if_pos ⟨hwin, hkeeper, hlate⟩),
    fun a b ha hb hlate hlate' => next_of_done hheld rfl (if_pos (keepersSilent_of_late s ha hb ⟨hlate, hlate'⟩)),
    fun fl lc => ?go, fun hdue hrun => next_of_done hheld rfl (if_pos ⟨hdue, hrun⟩), fun htrig => ?dump, fun d hdump => ?runs⟩
  case go =>
    intro u
    have hgo := fwGo_eq s fl lc u rfl
    exact ⟨fun hidle => next_of_done hheld rfl (hgo.trans (if_neg (not_not_intro hidle))),
      fun hbusy => next_of_done hheld rfl (hgo.trans (if_pos hbusy))⟩
  case dump =>
    have hstart := dumpStart_of_trigger s 5 none 0xFFFFFFFF htrig
    exact ⟨fun hnone => next_of_done hheld rfl (hstart.trans (if_neg (fun h => Option.isSome_iff_ne_none.mp h hnone))),
      fun hsome => next_of_done hheld rfl (hstart.trans (if_pos (Option.isSome_iff_ne_none.mpr hsome)))⟩
  case runs =>
    refine ⟨fun u w => next_of_done hheld rfl ?_, fun us => next_of_done hheld rfl rfl⟩
    rw [hdump]
end Sys2Proof.Proofs
end

section
/-! PROOF. The resets that start a boot, what delivers an image, and a decryption's end (R319, R418-R431, R461, R462). -/
namespace Sys2Proof.Proofs
open Sys2Proof Sys2Proof.Machine Sys2Proof.Laws

/-! The view of OTP. -/

/-- A field of GTH_STAT whose bits lie before those of IDENT or after them keeps its value when IDENT is written. -/
theorem fld_setIdent (s : State) (f : Fld) (v : Nat) (hreg : f.reg = .GTH_STAT) (hbits : f.lo + f.w ≤ 6 ∨ 7 ≤ f.lo) :
    (s.setFld GTH_STAT_IDENT v).fld f = s.fld f :=
  fld_setFld_same s GTH_STAT_IDENT f v 0 0 hreg (by decide) hbits

/-- A field read from one state and written into another reads there as it did. -/
theorem fld_setFld_fld (s t : State) (f : Fld) (h : f.lo + f.w ≤ 64) : (t.setFld f (s.fld f)).fld f = s.fld f :=
  (fld_setFld_self t f _ 0 0 h).trans (Nat.mod_eq_of_lt (bits_lt _ _ _))

/-- A cold reset keeps the life cycle that OTP holds (R427). -/
theorem coldReset_lc (s : State) : s.coldReset.fld GTH_STAT_LC = s.fld GTH_STAT_LC :=
  calc s.coldReset.fld GTH_STAT_LC
    _ = _ := fld_setIdent _ GTH_STAT_LC _ rfl (by decide)
    _ = _ := fld_setFld_same _ GTH_STAT_COUNTER GTH_STAT_LC _ 0 0 rfl (by decide) (by decide)
    _ = s.fld GTH_STAT_LC := fld_setFld_fld s _ GTH_STAT_LC (by decide)

/-- A cold reset keeps the rollback counter that OTP holds (R427). -/
theorem coldReset_counter (s : State) : s.coldReset.fld GTH_STAT_COUNTER = s.fld GTH_STAT_COUNTER :=
  (fld_setIdent _ GTH_STAT_COUNTER _ rfl (by decide)).trans (fld_setFld_fld s _ GTH_STAT_COUNTER (by decide))

/-- Settles O46: both resets are `coldReset`, and the pins' commands go by the rails. -/
theorem resetsAndBootStart : Obligations.ResetsAndBootStart := by
  unfold Obligations.ResetsAndBootStart
  intro s
  exact ⟨⟨_, next_of_doneAny rfl rfl, coldReset_regsAtReset s, rfl, rfl, rfl, coldReset_lc s, coldReset_counter s⟩,
    ⟨_, next_of_doneAny rfl rfl, coldReset_regsAtReset s, rfl, rfl, rfl, rfl, rfl⟩,
    fun src addr test flash =>
      ⟨fun hheld => exec_porstRelease_of_rails_good s src addr test flash (.inl hheld),
        fun hheld => exec_porstRelease_of_rail_low s src addr test flash (.inl hheld),
        exec_supplyDetector_of_porst_high s src addr test flash,
        exec_supplyDetector_of_porst_low s src addr test flash⟩⟩

/-! Boot delivery. -/

section
variable (s : State) (d : Decr) (r : Sealed)

/-- The tag of the decryption in progress matches: its range opens with the plain text (R431). -/
theorem decryptEnd_of_plain {p : List Byte} (u v : State) (hu : ({ s with gth := { s.gth with decr := none } } : State) = u)
    (hsealed : s.gth.sealed.get none d.range = some r) (hplain : d.plain = some p) (hv : u.lpRaw r.base p = v) :
    s.decryptEnd d =
      ({ v with gth := { v.gth with sealed := v.gth.sealed.set none d.range (some { r with opened := true }) } }).mboxDone d.mbox 0 := by
  subst hu hv
  simp only [State.decryptEnd, hsealed, hplain]

/-- It does not match: the range is wiped and released (R431). -/
theorem decryptEnd_of_mismatch (u : State) (hu : ({ s with gth := { s.gth with decr := none } } : State) = u)
    (hsealed : s.gth.sealed.get none d.range = some r) (hplain : d.plain = none) :
    s.decryptEnd d = (({ u.lpWipe r.base r.len with gth := { u.gth with sealed := s.gth.sealed.set none d.range none } }).setFld
      GTH_STAT_SEALED (s.gth.sealed.set none d.range none).length).mboxDone d.mbox 0x0D0A := by
  subst hu
  simp only [State.decryptEnd, hsealed, hplain]
end

section
variable (s : State) (off : BitVec 32) (bs : List Byte) (hheld : s.gth.held = false)
include hheld

/-- A recovery write with a good PEC is NAKed where R425 does not allow it. -/
theorem exec_recovery_of_refused
    (h : ¬ s.on GTH_STAT_RECOVERY = true ∨ ¬ s.passOpen 2 = true ∨ bs.isEmpty = true ∨ 28 < bs.length ∨ off.toNat ≠ s.gth.bufS.length) :
    exec (.recovery off bs true) s = .next (s.after (s.emit .nak)) :=
  next_of_done hheld rfl ((if_neg (not_not_intro rfl)).trans (if_pos h))

/-- One that R425 allows reaches the pass. -/
theorem exec_recovery_of_taken
    (h : ¬ (¬ s.on GTH_STAT_RECOVERY = true ∨ ¬ s.passOpen 2 = true ∨ bs.isEmpty = true ∨ 28 < bs.length ∨ off.toNat ≠ s.gth.bufS.length)) :
    exec (.recovery off bs true) s = .next (s.after (State.gthNext 2 (s.passBytes 2 bs))) :=
  next_of_done hheld rfl ((if_neg (not_not_intro rfl)).trans (if_neg h))
end

/-- Settles O47: each command on its condition. -/
theorem bootDelivery : Obligations.BootDelivery := by
  unfold Obligations.BootDelivery
  intro s hheld
  refine ⟨fun bs hup hperst hphase hopen =>
      next_of_done hheld rfl (if_pos ⟨hup, Bool.eq_false_iff.mp hperst, hphase, hopen⟩),
    fun off bs => ⟨next_of_done hheld rfl (if_pos Bool.false_ne_true), ?taken, ?refused⟩,
    fun h hh => next_of_done hheld rfl (if_pos hh), ?decrypt⟩
  case taken =>
    intro hrec hopen hsome hlen hoff
    refine exec_recovery_of_taken s off bs hheld ?_
    simp [hrec, hopen, hsome, hoff, Nat.not_lt.mpr hlen]
  case refused =>
    intro h
    refine exec_recovery_of_refused s off bs hheld ?_
    rcases h with hrec | hnone | hlong | hoff
    · exact .inl (Bool.eq_false_iff.mp hrec)
    · exact .inr (.inr (.inl (List.isEmpty_iff.mpr hnone)))
    · exact .inr (.inr (.inr (.inl hlong)))
    · exact .inr (.inr (.inr (.inr hoff)))
  case decrypt =>
    intro d r hdecr hsealed u
    have ends (v : State) (h : s.decryptEnd d = v) : exec .decryptDone s = .next (s.after (State.gthNext 2 v)) :=
      next_of_done hheld rfl (by rw [hdecr]; exact congrArg (State.gthNext 2) h)
    exact ⟨fun p hplain => ends _ (decryptEnd_of_plain s d r u _ rfl hsealed hplain rfl),
      fun hplain => ends _ (decryptEnd_of_mismatch s d r u rfl hsealed hplain)⟩
end Sys2Proof.Proofs
end

section
/-! PROOF. The DMA channels and the link to the host (R350, R354-R359). -/
namespace Sys2Proof.Proofs
open Sys2Proof Sys2Proof.Machine Sys2Proof.Laws

/-- What a channel's run answers: the descriptor as it was read, and the bytes and the result of its move. -/
theorem dmaRun_of_moved (s : State) (c : Nat) (desc data : List Byte) (ok : Bool) {rd : List Byte × State} {y : State × Nat}
    (hread : (if (s.dma c).rloc = 1 then s.lpRead ((s.dma c).ring + s.fld PCI_DMA_PTR_HEAD c * 64) 64
      else ((desc ++ List.replicate 64 0).take 64, s)) = rd)
    (hmoved : (if rd.2.dmaCheck c (parseDesc rd.1) ≠ 0 then (rd.2, rd.2.dmaCheck c (parseDesc rd.1))
      else if (parseDesc rd.1).dir = 0 then
        (rd.2.dmaInto c (parseDesc rd.1) (parseDesc rd.1).lines 0 (data.take ((parseDesc rd.1).len * (parseDesc rd.1).lines)),
          if ok = true ∧ (parseDesc rd.1).len * (parseDesc rd.1).lines ≤ data.length then 0 else 2)
      else rd.2.dmaOut c (parseDesc rd.1) (parseDesc rd.1).lines 0) = y) :
    s.dmaRun c desc data ok = (y.1.setDma c { y.1.dma c with cur := some rd.1, result := y.2 }).beat (768 + c) := by
  subst hread hmoved
  rfl

/-- Settles O49: a descriptor's run goes by its checks and its direction. -/
theorem dmaChannels : Obligations.DmaChannels := by
  unfold Obligations.DmaChannels
  intro c s hheld
  refine ⟨fun hoff hfree => next_of_done hheld rfl (congrArg Prod.fst (enWrite_of_off_on s (.dma c) hoff hfree)),
    fun hstart => next_of_done hheld rfl (if_pos hstart), fun t => next_of_done hheld rfl rfl, ?descriptor,
    fun hcur => next_of_done hheld rfl (if_pos hcur), fun hup => next_of_done hheld rfl (if_pos hup)⟩
  case descriptor =>
    intro hwaits desc data ok rd d v
    have runs {u : State} (h : s.dmaRun c desc data ok = u) : exec (.dmaDescriptor c desc data ok) s = .next (s.after u) :=
      next_of_done hheld rfl ((if_pos hwaits).trans h)
    exact ⟨fun hbad => runs (dmaRun_of_moved s c desc data ok rfl (if_pos hbad)),
      fun hgood hin => runs (dmaRun_of_moved s c desc data ok rfl ((if_neg (not_not_intro hgood)).trans (if_pos hin))),
      fun hgood hout => runs (dmaRun_of_moved s c desc data ok rfl ((if_neg (not_not_intro hgood)).trans (if_neg hout)))⟩
end Sys2Proof.Proofs
end

section
/-! PROOF. The Spout ports, and the host's, the cores' and the tray controller's accesses (R349-R352, R360-R369, R416). -/
namespace Sys2Proof.Proofs
open Sys2Proof Sys2Proof.Machine Sys2Proof.Laws

section
variable (s : State) (p : Nat) {v : Nat} {t : List Nat} {u : State}

/-- The doorbell at the head of a port's queue signals its wicket (R363). -/
theorem doorbell_of_signal (hbells : (s.spt p).bells = v :: t) (hwaits : s.arc.waits = [])
    (hu : s.setSpt p { s.spt p with bells := t } = u) (hact : u.fld SPT_CFG_DBACT p = 1) :
    s.doorbell p = ((u.signalHw (u.fld SPT_CFG_WKT p) (u.fld SPT_CFG_CTX p) v).addSat SPT_CNT_DBELLS 1 p).raiseMsi (16 + p) := by
  subst hu
  simp only [State.doorbell, hbells, hwaits, hact, List.isEmpty_nil, not_true_eq_false, if_false]

/-- The doorbell of a port without an action only counts and interrupts (R363). -/
theorem doorbell_of_no_action (hbells : (s.spt p).bells = v :: t) (hwaits : s.arc.waits = [])
    (hu : s.setSpt p { s.spt p with bells := t } = u) (hact : u.fld SPT_CFG_DBACT p = 0) :
    s.doorbell p = (u.addSat SPT_CNT_DBELLS 1 p).raiseMsi (16 + p) := by
  subst hu
  simp only [State.doorbell, hbells, hwaits, hact, List.isEmpty_nil, not_true_eq_false, if_false]
end

/-- Settles O50: each access goes by the link, the owner and the offset. -/
theorem spoutPorts : Obligations.SpoutPorts := by
  unfold Obligations.SpoutPorts
  intro p f s hheld
  refine ⟨fun a => next_of_done hheld rfl rfl, fun hup => ?accesses, ?bells⟩
  case accesses =>
    have hlink : ¬ ¬ s.hostUp = true := not_not_intro hup
    refine ⟨fun howns off bs hsome hoff hlen => next_of_done hheld rfl ((if_neg ?_).trans (if_pos howns)),
      fun howns off n hoff =>
        next_of_done hheld rfl ((if_neg hlink).trans ((if_neg (not_not_intro howns)).trans (if_pos hoff))),
      fun hother off n v =>
        have hdenied : ¬ s.owns .pf0 p = true := Bool.eq_false_iff.mp hother
        ⟨next_of_done hheld rfl ((if_neg hlink).trans ((if_pos hdenied).trans (if_pos rfl))),
          next_of_done hheld rfl ((if_neg hlink).trans ((if_neg hdenied).trans (if_pos rfl)))⟩,
      fun howns v => next_of_done hheld rfl ((if_neg hlink).trans ((if_pos howns).trans (if_pos rfl)))⟩
    simp [hup, hsome, Nat.not_lt.mpr hoff, Nat.not_lt.mpr hlen]
  case bells =>
    intro v t hbells hwaits u
    exact ⟨fun hact => next_of_done hheld rfl (doorbell_of_signal s p hbells hwaits rfl hact),
      fun hact => next_of_done hheld rfl (doorbell_of_no_action s p hbells hwaits rfl hact)⟩

/-! Accesses to the device address space. -/

/-- What a read through BAR4 of address `a` answers, by the region of the address (R352). -/
def bar4ReadAt (s : State) (a n : Nat) : Region → State
  | .lpddr _ => if s.trained then s.hostLp a n else s.lpWait (.host a n)
  | .lpHole => s.arcRange.emit (.data (List.replicate n 0))
  | .pav p o => s.emit (.data (s.pavBytes p o n))
  | .fs _ => s.emit (.data (s.bytes a n))
  | .gth => (s.bump 0x0D0E 13).emit (.data (List.replicate n 0))
  | _ => s.emit (.data (List.replicate n 0))

/-- Stated of the function, not of its value: the kernel must not evaluate the region of an open address. -/
theorem bar4Read_eq : State.bar4Read = fun s off n =>
    bar4ReadAt s (s.fld PCI_BAR4_OFS_OFS * 2 ^ 28 + off) n (s.region (s.fld PCI_BAR4_OFS_OFS * 2 ^ 28 + off)) := by
  delta State.bar4Read
  funext s off n
  dsimp only
  generalize s.fld PCI_BAR4_OFS_OFS * 2 ^ 28 + off = a
  cases s.region a <;> rfl

section
variable (s : State) (off n : Nat)

theorem bar4Read_of (r : Region) (h : s.region (s.fld PCI_BAR4_OFS_OFS * 2 ^ 28 + off) = r) :
    s.bar4Read off n = bar4ReadAt s (s.fld PCI_BAR4_OFS_OFS * 2 ^ 28 + off) n r := by
  subst h
  exact congrFun (congrFun (congrFun bar4Read_eq s) off) n

/-- A read through BAR4 of LPDDR that is served (R352). -/
theorem bar4Read_of_lpddr {x : Nat} (h : s.region (s.fld PCI_BAR4_OFS_OFS * 2 ^ 28 + off) = .lpddr x) (htrained : s.trained = true) :
    s.bar4Read off n = s.hostLp (s.fld PCI_BAR4_OFS_OFS * 2 ^ 28 + off) n :=
  (bar4Read_of s off n _ h).trans (if_pos htrained)

/-- A store of a core to LPDDR joins those on their way (R416). -/
theorem coreStore_of_lpddr (c a : Nat) (bs : List Byte) {x : Nat} (h : s.region a = .lpddr x) :
    s.coreStore c a bs =
      { s.lineStore ⟨c, a, bs⟩ with
        org := { (s.lineStore ⟨c, a, bs⟩).org with stores := (s.lineStore ⟨c, a, bs⟩).org.stores ++ [⟨c, a, bs⟩] } } := by
  simp only [State.coreStore, h]

/-- A load of a core from LPDDR that is served (R416). -/
theorem coreLoad_of_lpddr (c a : Nat) {x : Nat} (h : s.region a = .lpddr x) (htrained : s.trained = true) :
    s.coreLoad c a n = (s.coreLp c a n).2.emit (.data (s.coreLp c a n).1) := by
  simp only [State.coreLoad, h, htrained, if_true]
end

section
variable (s : State) (hheld : s.gth.held = false)
include hheld

/-- An access through BAR4 of a host that reaches the device (R352). -/
theorem exec_host_write (hup : s.hostUp = true) (off : BitVec 36) (bs : List Byte) {u : State} (h : s.bar4Write off.toNat bs = u) :
    exec (.bar4Write (.host off) (.write bs)) s = .next (s.after u) :=
  h ▸ exec_bar4Write_host_write s bs off hheld hup

theorem exec_host_read (hup : s.hostUp = true) (off : BitVec 36) (n : Fin 4097) {u : State} (h : s.bar4Read off.toNat n = u) :
    exec (.bar4Write (.host off) (.read n)) s = .next (s.after u) :=
  next_of_done hheld rfl ((if_pos hup).trans h)

/-- An access of a core that executes instructions (R416). -/
theorem exec_core_write {c : Fin 16} (hcore : s.coreUp c = true) (a : BitVec 48) (bs : List Byte) {u : State}
    (h : s.coreStore c a.toNat bs = u) : exec (.bar4Write (.core c a) (.write bs)) s = .next (s.after u) :=
  next_of_done hheld rfl ((if_pos hcore).trans h)

theorem exec_core_read {c : Fin 16} (hcore : s.coreUp c = true) (a : BitVec 48) (n : Fin 4097) {u : State}
    (h : s.coreLoad c a.toNat n = u) : exec (.bar4Write (.core c a) (.read n)) s = .next (s.after u) :=
  next_of_done hheld rfl ((if_pos hcore).trans h)

theorem exec_core_fence {c : Fin 16} (hcore : s.coreUp c = true) (a : BitVec 48) {u : State}
    (h : s.coreDrain (fun y => y.core == c.val) = u) : exec (.bar4Write (.core c a) .fence) s = .next (s.after u) :=
  next_of_done hheld rfl ((if_pos hcore).trans h)
end

/-- Settles O51: the resets and the tray controller's reads as they stand, the accesses by the region of their address. -/
theorem endpointAndTray : Obligations.EndpointAndTray := by
  unfold Obligations.EndpointAndTray
  intro s hheld
  refine ⟨next_of_done hheld rfl rfl, next_of_done hheld rfl rfl, next_of_done hheld rfl rfl, fun v => next_of_done hheld rfl rfl,
    fun hup n => next_of_done hheld rfl (if_pos hup), ?trained, fun v => next_of_done hheld rfl rfl, ?unmask, ?host, ?core, ?tray⟩
  case trained =>
    intro hperst hdown sp w
    exact next_of_done hheld rfl (if_neg (by simp [hperst, hdown]))
  case unmask =>
    intro f v hv hpending
    exact next_of_done hheld rfl ((if_pos hv).trans (if_pos hpending))
  case host =>
    intro hup off a
    refine ⟨fun bs => ⟨?_, ?_, ?_⟩, fun n => ⟨?_, ?_⟩⟩
    · rintro ⟨x, hx⟩ htrained
      exact exec_host_write s hheld hup off bs (bar4Write_of_lpddr s bs off.toNat x hx htrained)
    · exact fun hgth => exec_host_write s hheld hup off bs (bar4_of s off.toNat bs _ hgth)
    · rintro (⟨x, hx⟩ | hnone)
      · exact exec_host_write s hheld hup off bs (bar4_of s off.toNat bs _ hx)
      · exact exec_host_write s hheld hup off bs (bar4_of s off.toNat bs _ hnone)
    · rintro ⟨x, hx⟩ htrained
      have reads := bar4Read_of_lpddr s off.toNat n hx htrained
      exact ⟨fun hpoison => exec_host_read s hheld hup off n (reads.trans (if_pos hpoison)),
        fun hclean => exec_host_read s hheld hup off n (reads.trans (if_neg (Bool.eq_false_iff.mp hclean)))⟩
    · rintro (⟨x, hx⟩ | hnone)
      · exact exec_host_read s hheld hup off n (bar4Read_of s off.toNat n _ hx)
      · exact exec_host_read s hheld hup off n (bar4Read_of s off.toNat n _ hnone)
  case core =>
    intro c a hcore
    refine ⟨?_, fun htrained => exec_core_fence s hheld hcore a (if_pos htrained)⟩
    rintro ⟨x, hx⟩
    exact ⟨fun bs => exec_core_write s hheld hcore a bs (coreStore_of_lpddr s c a.toNat bs hx),
      fun htrained n => exec_core_read s hheld hcore a n (coreLoad_of_lpddr s n c a.toNat hx htrained)⟩
  case tray =>
    intro say
    refine ⟨next_of_done hheld rfl rfl,
      fun hboot => next_of_done hheld rfl (congrArg (s.smbus 4) (if_neg (Bool.eq_false_iff.mp hboot))),
      fun hrec => next_of_done hheld rfl (congrArg (s.smbus 4) (if_pos hrec)),
      next_of_done hheld rfl rfl, next_of_done hheld rfl rfl, next_of_done hheld rfl rfl,
      fun i => ⟨next_of_done hheld rfl rfl, next_of_done hheld rfl rfl⟩, ?_,
      fun hasks => next_of_done hheld rfl (if_pos hasks),
      fun hquiet => next_of_done hheld rfl (if_neg (Bool.eq_false_iff.mp hquiet))⟩
    intro i t u
    exact ⟨fun hmore => next_of_done hheld rfl (if_pos hmore),
      fun hlast => next_of_done hheld rfl (if_neg (Bool.eq_false_iff.mp hlast))⟩
end Sys2Proof.Proofs
end

section
/-! PROOF. The Ethernet ports, the ring guard, PTP and the media endpoints (R373-R389). -/
namespace Sys2Proof.Proofs
open Sys2Proof Sys2Proof.Machine Sys2Proof.Laws

/-- Settles O52: each command on its condition. -/
theorem ethernetPorts : Obligations.EthernetPorts := by
  unfold Obligations.EthernetPorts
  intro s hheld
  refine ⟨fun n => ⟨fun hoff hfree => ?_, fun hstart => next_of_done hheld rfl rfl, ?bypass⟩, ?links,
    fun hguard hdue => next_of_done hheld rfl (if_pos ⟨hguard, hdue⟩),
    fun hlost => next_of_done hheld rfl (if_pos hlost), fun hhealed => next_of_done hheld rfl (if_pos hhealed),
    fun p c q hup hother => next_of_done hheld rfl ((if_pos hup).trans (if_neg hother)),
    fun vid mac => next_of_done hheld rfl rfl⟩
  · exact next_of_done hheld rfl (congrArg (State.portWork · n) (enWrite_of_off_on s (.port n) hoff hfree))
  case bypass =>
    intro t hup hon hmode hbyp hlate
    refine next_of_done hheld rfl ?_
    rw [hup]
    exact if_pos ⟨hon, hmode, Bool.eq_false_iff.mp hbyp, hlate⟩
  case links =>
    intro p n
    exact ⟨fun hup => next_of_done hheld rfl (if_pos hup),
      fun hon hhas hdown => next_of_done hheld rfl (if_pos ⟨hon, hhas, Bool.eq_false_iff.mp hdown⟩)⟩

/-! PTP's timer. -/

/-- The delay request of a master in peer delay, where its interval has passed (R380). -/
def ptpPeerDelay (s : State) (n : Nat) : State :=
  if s.ptpP2p then
    if (s.ptpi n).dreqAt + State.ptpTicks (s.fld ETH_PTP_CFG_DREQ n) ≤ s.tick then s.ptpDelay n else s
  else s

section
variable (s : State) (i : Fin 4)

theorem ptpPeerDelay_of_due (n : Nat)
    (hdue : s.ptpP2p = true ∧ (s.ptpi n).dreqAt + State.ptpTicks (s.fld ETH_PTP_CFG_DREQ n) ≤ s.tick) :
    ptpPeerDelay s n = s.ptpDelay n :=
  (if_pos hdue.1).trans (if_pos hdue.2)

theorem ptpPeerDelay_of_not_due (n : Nat)
    (hdue : ¬ (s.ptpP2p = true ∧ (s.ptpi n).dreqAt + State.ptpTicks (s.fld ETH_PTP_CFG_DREQ n) ≤ s.tick)) : ptpPeerDelay s n = s := by
  by_cases hpeer : s.ptpP2p = true
  · exact (if_pos hpeer).trans (if_neg fun hlate => hdue ⟨hpeer, hlate⟩)
  · exact if_neg hpeer

variable (hheld : s.gth.held = false) (hon : s.ptpOn (i + 1) = true)
include hheld hon

/-- A master whose Sync is due sends it, and then its delay request (R380). -/
theorem exec_ptpMessageTimer_of_sync (hmaster : s.ptpMaster (i + 1) = true)
    (hdue : (s.ptpi (i + 1)).syncAt + State.ptpTicks (s.fld ETH_PTP_CFG_SYNC (i + 1)) ≤ s.tick) {u : State}
    (hu : ptpPeerDelay (s.ptpSync (i + 1)) (i + 1) = u) : exec (.ptpMessageTimer i) s = .next (s.after u) :=
  next_of_done hheld rfl ((if_neg (not_not_intro hon)).trans ((if_pos hmaster).trans
    ((congrArg (ptpPeerDelay · (i + 1)) (if_pos hdue)).trans hu)))

/-- A slave whose delay request is due sends it (R380). -/
theorem exec_ptpMessageTimer_of_slave (hmaster : s.ptpMaster (i + 1) = false) (hslave : s.ptpSlave (i + 1) = true)
    (hdue : (s.ptpi (i + 1)).dreqAt + State.ptpTicks (s.fld ETH_PTP_CFG_DREQ (i + 1)) ≤ s.tick) :
    exec (.ptpMessageTimer i) s = .next (s.after (s.ptpDelay (i + 1))) :=
  next_of_done hheld rfl ((if_neg (not_not_intro hon)).trans ((if_neg (Bool.eq_false_iff.mp hmaster)).trans
    ((if_pos hslave).trans (if_pos hdue))))
end

/-- The first Announce is taken without HOLDOVER (R384). -/
theorem announceIn_of_first (s : State) (i gm : Nat) (logi : Int) (hfirst : (s.ptpi i).gm = none) :
    s.announceIn i gm logi = s.setPtpi i { s.ptpi i with gm := some gm, annAt := some s.tick, annLog := logi } := by
  simp only [State.announceIn, hfirst]

/-- A frame longer than 9,216 bytes with its FCS is refused (R374). -/
theorem frameIn_of_long (s : State) (p : Nat) (bs : List Byte) (ok : Bool) (idle resid : Nat) (hup : s.ethUp p = true)
    (hlong : 9216 < bs.length + 4) :
    s.frameIn p bs ok idle resid = (s.bump 0x0B0C (p / 4)).addSat ETH_CNT_RXERR 1 (p / 4) :=
  (if_neg (not_not_intro hup)).trans (if_pos hlong)

/-- Settles O53: each command on its condition. -/
theorem ethernetTraffic : Obligations.EthernetTraffic := by
  unfold Obligations.EthernetTraffic
  intro s hheld
  refine ⟨fun p bs ok idle rs => ⟨next_of_done hheld rfl rfl, fun hup hlong =>
      next_of_done hheld rfl (frameIn_of_long s p bs ok _ _ hup (Nat.add_lt_add_right hlong 4))⟩,
    fun i => ⟨fun en => next_of_done hheld rfl rfl, fun hon => ?ptp, fun hlate => next_of_done hheld rfl (if_pos hlate),
      next_of_done hheld rfl rfl⟩, fun r => ⟨fun hoff hfree => ?rx, fun hstart => next_of_done hheld rfl (if_pos hstart),
      fun hstate htrained rts q m o xs => next_of_done hheld rfl (if_pos ⟨hstate, .inl rfl, htrained⟩)⟩,
    fun t => ⟨fun hoff hfree => next_of_done hheld rfl (congrArg Prod.fst (enWrite_of_off_on s (.tx t) hoff hfree)),
      fun hstart => next_of_done hheld rfl rfl, fun hdue htrained => next_of_done hheld rfl (if_pos ⟨hdue, htrained⟩),
      fun hstate => next_of_done hheld rfl (if_pos hstate)⟩,
    fun k htrained => next_of_done hheld rfl (if_pos htrained)⟩
  case ptp =>
    refine ⟨?sync, exec_ptpMessageTimer_of_slave s i hheld hon, ?messages,
      fun gm l hfirst => next_of_done hheld rfl ((if_pos hon).trans (announceIn_of_first s _ _ _ hfirst))⟩
    case sync =>
      intro hmaster hsync u due
      exact ⟨fun hdue => exec_ptpMessageTimer_of_sync s i hheld hon hmaster hsync (ptpPeerDelay_of_not_due u _ hdue),
        fun hdue => exec_ptpMessageTimer_of_sync s i hheld hon hmaster hsync (ptpPeerDelay_of_due u _ hdue)⟩
    case messages =>
      intro q c two t p x
      exact ⟨next_of_done hheld rfl (if_pos hon),
        fun htwo hseq => next_of_done hheld rfl ((if_pos hon).trans (if_pos ⟨htwo, hseq⟩))⟩
  case rx =>
    refine next_of_done hheld rfl ?_
    dsimp only
    rw [enWrite_of_off_on s (.rx r) hoff hfree]
    exact if_neg nofun
end Sys2Proof.Proofs
end

section
/-! PROOF. The Arcade's memory, reservations and fills, and the power domains and their throttle (R392-R411). -/
namespace Sys2Proof.Proofs
open Sys2Proof Sys2Proof.Machine Sys2Proof.Laws

section
variable (s : State) (i : Nat)

/-- A reservation that passes, or that asks for no more than it has, is taken (R400). -/
theorem resvWrite_of_admitted (rate depth : Nat) (hi : i < 68)
    (hfits : rate ≤ s.fld ARC_RESV_RATE i ∨ s.admitTotal - s.fld ARC_RESV_RATE i + rate ≤ s.fld ARC_ADMIT_CAP) :
    s.resvWrite i rate depth = ((s.setFld ARC_RESV_RATE rate i).setFld ARC_RESV_DEPTH depth i).admitShow :=
  (if_neg (Nat.not_le.mpr hi)).trans (if_neg fun ⟨hmore, hover⟩ => by omega)

/-- A reservation that would raise the admitted total above CAP is refused (R400). -/
theorem resvWrite_of_refused (rate depth : Nat) (hi : i < 68) (hmore : s.fld ARC_RESV_RATE i < rate)
    (hover : s.fld ARC_ADMIT_CAP < s.admitTotal - s.fld ARC_RESV_RATE i + rate) : s.resvWrite i rate depth = s.bump 0x0C03 i :=
  (if_neg (Nat.not_le.mpr hi)).trans (if_pos ⟨hmore, hover⟩)

/-- A staging window within the SRAM is enabled where no other is (R403). -/
theorem stgEnable_of_first (hoff : s.on ARC_STG_EN i = false) (hfirst : (List.range 32).filter (fun j => s.on ARC_STG_EN j) = [])
    (hsmall : (s.stgRange i).2 ≤ 0x800000) :
    s.stgEnable i true = { s.setFld ARC_STG_EN 1 i with
      arc := { s.arc with stgAt := s.arc.stgAt.set (0, 0) i (s.fld ARC_STG_BASE i, s.fld ARC_STG_SIZE i) } } := by
  refine (if_neg (not_not_intro rfl)).trans ((if_neg (Bool.eq_false_iff.mp hoff)).trans ?_)
  rw [hfirst]
  refine if_neg ?_
  rintro (hbig | hmeets)
  · exact absurd hbig (Nat.not_lt.mpr hsmall)
  · exact Bool.false_ne_true hmeets

/-- One that meets another is refused (R403). -/
theorem stgEnable_of_overlap (hoff : s.on ARC_STG_EN i = false)
    (hmeets : ((List.range 32).filter (fun j => s.on ARC_STG_EN j)).any
      (fun j => hits (s.stgRange j).1 (s.stgRange j).2 (s.stgRange i).1 (s.stgRange i).2) = true) :
    s.stgEnable i true = s.addSat ARC_CNT_STGREF 1 :=
  (if_neg (not_not_intro rfl)).trans ((if_neg (Bool.eq_false_iff.mp hoff)).trans (if_pos (.inr hmeets)))
end

/-- Settles O54: each command on its condition. -/
theorem arcadeCommands : Obligations.ArcadeCommands := by
  unfold Obligations.ArcadeCommands
  intro s hheld
  refine ⟨fun hfirst hnot v => next_of_done hheld rfl (if_neg (by simp [hfirst, hnot])), ?trained,
    fun hdue ce ue => next_of_done hheld rfl (if_pos hdue), fun hdue hot => next_of_done hheld rfl (if_pos hdue),
    fun i r d => ⟨fun hi hmore hover => next_of_done hheld rfl (resvWrite_of_refused s i _ _ hi hmore hover),
      fun hi hfits => next_of_done hheld rfl (resvWrite_of_admitted s i _ _ hi hfits),
      fun hi => next_of_done hheld rfl (if_pos hi)⟩, ?staging, ?fill⟩
  case trained =>
    intro hdens hnot u
    exact next_of_done hheld rfl (if_pos ⟨hdens, Bool.eq_false_iff.mp hnot⟩)
  case staging =>
    intro i
    refine ⟨next_of_done hheld rfl (if_pos Bool.false_ne_true),
      fun hon => next_of_done hheld rfl ((if_neg (not_not_intro rfl)).trans (if_pos hon)), fun hoff => ?_,
      fun hon hnot htrained => next_of_done hheld rfl (if_pos ⟨hon, Bool.eq_false_iff.mp hnot, htrained⟩)⟩
    intro on
    exact ⟨fun hfirst hsmall => next_of_done hheld rfl (stgEnable_of_first s i hoff hfirst hsmall),
      fun hmeets => next_of_done hheld rfl (stgEnable_of_overlap s i hoff hmeets)⟩
  case fill =>
    intro q
    refine ⟨fun hidle => ?_, fun hbusy htrained => next_of_done hheld rfl (if_pos ⟨hbusy, htrained⟩)⟩
    intro c x
    exact next_of_done hheld rfl (if_neg (Bool.eq_false_iff.mp hidle))

/-- A domain that no function owns is switched by EN unless it is a retired pavilion's (R405, R407). -/
theorem pwrWrite_of_on (s : State) (d : Fin 221) (hfree : s.on PWR_DOM_CTRL_OWNED d = false)
    (hgood : 156 ≤ d.val ∨ s.retired d = false) : s.pwrWrite d true = (s.enWrite (.pwr d) true).1.hartsShow := by
  refine (if_neg (Bool.eq_false_iff.mp hfree)).trans (if_neg ?_)
  rintro ⟨hpav, hretired | ⟨hoff, -⟩⟩
  · rcases hgood with hother | hworks
    · exact absurd hpav (Nat.not_lt.mpr hother)
    · exact Bool.false_ne_true (hworks.symm.trans hretired)
  · exact Bool.false_ne_true hoff.symm

/-- Settles O55: each command on its condition. -/
theorem powerCommands : Obligations.PowerCommands := by
  unfold Obligations.PowerCommands
  intro s hheld
  refine ⟨fun d => ⟨fun howned b => next_of_done hheld rfl (if_pos howned), ?switch,
      fun hstart hturn ok => next_of_done hheld rfl (if_pos ⟨hstart, hturn⟩)⟩,
    fun hdue h n p => next_of_done hheld rfl (if_pos hdue), ?throttle, ?ends⟩
  case switch =>
    intro hfree hgood hoff hagain
    exact next_of_done hheld rfl ((pwrWrite_of_on s d hfree hgood).trans
      (congrArg (fun x => x.1.hartsShow) (enWrite_of_off_on s (.pwr d) hoff hagain)))
  case throttle =>
    intro d t
    exact ⟨fun hnow hnot => next_of_done hheld rfl (if_pos ⟨hnow, Bool.eq_false_iff.mp hnot⟩),
      fun hnone => next_of_done hheld rfl (if_neg fun h => Bool.false_ne_true (hnone.symm.trans h.1))⟩
  case ends =>
    intro c hclear hruns hlate
    refine next_of_done hheld rfl ?_
    rw [hclear]
    exact if_pos ⟨hruns, hlate⟩
end Sys2Proof.Proofs
end

section
/-! PROOF. Gazebo: alarms, sticky clears, the log and trace rings (R438-R445). -/
namespace Sys2Proof.Proofs
open Sys2Proof Sys2Proof.Machine Sys2Proof.Laws

section
variable (s : State) (src code : Nat) {u : State}
  (hu : ({ s with gzb := { s.gzb with unread := s.gzb.unread.set false src true,
                                      raised := s.gzb.raised.set (0, 0) src (s.tick, s.raisedNow src + 1) } } : State).emit
    (.pin "TRAY_ALERT_N" false) = u)
include hu

/-- A raise that finds the sticky bit at 1 counts and writes CODE (R439). -/
theorem alarm_of_sticky (hsticky : s.sticky src = true) :
    s.alarm src code =
      (u.setFld GZB_ALM_ENTRY_HI_COUNT (min (u.fld GZB_ALM_ENTRY_HI_COUNT src + 1) (2 ^ 32 - 1)) src).setFld GZB_ALM_ENTRY_HI_CODE
        code src := by
  subst hu
  exact if_pos hsticky

/-- A raise that finds it at 0 sets it, writes the entry and reports it (R439, R445). -/
theorem alarm_of_not_sticky (hfirst : s.sticky src = false) {v : State}
    (hv : u.setFld GZB_ALM_STICKY_STICKY (setBits (u.fld GZB_ALM_STICKY_STICKY (src / 32)) (src % 32) 1 1) (src / 32) = v) :
    s.alarm src code = ((((v.setFld GZB_ALM_ENTRY_FIRST v.stamp src).setFld GZB_ALM_ENTRY_HI_COUNT 1 src).setFld GZB_ALM_ENTRY_HI_CODE
      code src).raiseMsi 32).alarmPacket src := by
  subst hu hv
  exact if_neg (Bool.eq_false_iff.mp hfirst)
end

/-! Sticky clears (R440). -/

section
variable (s : State)

/-- What a clear of one entry does, by the raises of the tick that runs. -/
def stickyClearOne (src : Nat) : State :=
  if s.raisedNow src = 0 then s.entryClear src
  else (s.entryClear src).entryReraise src (s.raisedNow src) (decide (s.fld GZB_ALM_ENTRY_HI_COUNT src ≤ s.raisedNow src))

theorem stickyClear_eq (i mask : Nat) :
    s.stickyClear i mask = (List.range 32).foldl (fun t j => if bit mask j then stickyClearOne t (32 * i + j) else t) s := rfl

/-- A clear does not touch what was raised in this tick. -/
theorem raisedNow_entryClear (a b : Nat) : (s.entryClear a).raisedNow b = s.raisedNow b := rfl

/-- Where none of the entries was raised in this tick, the chosen ones are cleared one by one. -/
theorem foldl_stickyClearOne_of_quiet (i mask : Nat) (js : List Nat) (hquiet : ∀ j ∈ js, s.raisedNow (32 * i + j) = 0) :
    js.foldl (fun t j => if bit mask j then stickyClearOne t (32 * i + j) else t) s =
      js.foldl (fun t j => if bit mask j then t.entryClear (32 * i + j) else t) s := by
  induction js generalizing s with
  | nil => rfl
  | cons j js ih =>
    have hrest : ∀ k ∈ js, s.raisedNow (32 * i + k) = 0 := fun k hk => hquiet k (List.mem_cons_of_mem j hk)
    simp only [List.foldl_cons]
    by_cases hj : bit mask j = true
    · have hone : stickyClearOne s (32 * i + j) = s.entryClear (32 * i + j) := if_pos (hquiet j (List.mem_cons_self ..))
      rw [if_pos hj, if_pos hj, hone]
      exact ih (s.entryClear (32 * i + j)) fun k hk => (raisedNow_entryClear s _ _).trans (hrest k hk)
    · rw [if_neg hj, if_neg hj]
      exact ih s hrest
end

/-- A fold over a range that acts at one number acts once. -/
theorem foldl_range_at {α : Type} (f : α → Nat → α) (p : Nat → Bool) (k : Nat) (hp : ∀ j, p j = decide (j = k)) (a : α) (n : Nat) :
    (List.range n).foldl (fun x j => if p j then f x j else x) a = if k < n then f a k else a := by
  induction n with
  | zero => rfl
  | succ n ih =>
    rw [List.range_succ, List.foldl_append, ih, List.foldl_cons, List.foldl_nil, hp]
    by_cases hn : n = k
    · subst hn
      simp
    · have hlt : k < n + 1 ↔ k < n := by omega
      simp [hn, hlt]

/-- A power of two has one bit. -/
theorem bit_two_pow (k j : Nat) : bit (2 ^ k) j = decide (j = k) := by
  rw [bit_eq_testBit, Nat.testBit_two_pow, decide_eq_decide]
  exact eq_comm

/-- A write of one bit clears one entry. -/
theorem stickyClear_of_one (s : State) (i k : Nat) (hk : k < 32) : s.stickyClear i (2 ^ k) = stickyClearOne s (32 * i + k) :=
  (stickyClear_eq s i _).trans <| (foldl_range_at (fun t j => stickyClearOne t (32 * i + j)) _ k (bit_two_pow k) s 32).trans (if_pos hk)

/-- An entry raised in the tick of its clear, whose COUNT holds earlier raises too, is written anew (R440). -/
theorem stickyClearOne_of_raised (s : State) (src : Nat) (hraised : 0 < s.raisedNow src)
    (hmore : s.raisedNow src < s.fld GZB_ALM_ENTRY_HI_COUNT src) :
    stickyClearOne s src = (s.entryClear src).entryReraise src (s.raisedNow src) false := by
  rw [stickyClearOne, if_neg (Nat.ne_of_gt hraised), decide_eq_false (Nat.not_le.mpr hmore)]

/-! The rings' read indices (R442). -/

section
variable (s : State) (hheld : s.gth.held = false) (v : BitVec 64) {u : State}
include hheld

theorem exec_logRidxWrite (h : s.ridxWrite GZB_LOG_RIDX_IDX GZB_LOG_WIDX_IDX v.toNat = u) :
    exec (.logRidxWrite false v) s = .next (s.after u) :=
  next_of_done hheld rfl ((if_neg Bool.false_ne_true).trans h)

theorem exec_traceRidxWrite (h : s.ridxWrite GZB_TRC_RIDX_IDX GZB_TRC_WIDX_IDX v.toNat = u) :
    exec (.logRidxWrite true v) s = .next (s.after u) :=
  next_of_done hheld rfl ((if_pos rfl).trans h)
end

/-- Settles O56: each command on its condition. -/
theorem gazeboCommands : Obligations.GazeboCommands := by
  unfold Obligations.GazeboCommands
  intro s hheld
  refine ⟨fun src huser => ?raise, fun i m hquiet => ?quiet, fun src hsrc hraised hmore => ?reraise,
    fun c => next_of_done hheld rfl rfl, fun v => ?ridx, fun v hnew => ?level,
    fun k hk => next_of_done hheld rfl (by rw [hk]), next_of_done hheld rfl rfl⟩
  case raise =>
    intro a u
    refine ⟨fun hsticky => next_of_done hheld rfl ((if_pos huser).trans (alarm_of_sticky s a 0x0E04 rfl hsticky)), fun hfirst => ?_⟩
    intro v
    exact next_of_done hheld rfl ((if_pos huser).trans (alarm_of_not_sticky s a 0x0E04 rfl hfirst rfl))
  case quiet =>
    exact next_of_done hheld rfl ((stickyClear_eq s i m.toNat).trans
      (foldl_stickyClearOne_of_quiet s i m.toNat (List.range 32) fun j hj => hquiet j (List.mem_range.mp hj)))
  case reraise =>
    have hbit : src % 32 < 32 := Nat.mod_lt _ (by decide)
    have hword : (Fin.ofNat 8 (src / 32)).val = src / 32 := Nat.mod_eq_of_lt (by omega)
    have hmask : (BitVec.ofNat 32 (2 ^ (src % 32))).toNat = 2 ^ (src % 32) := Nat.mod_eq_of_lt (Nat.pow_lt_pow_right (by decide) hbit)
    have hsplit : 32 * (src / 32) + src % 32 = src := Nat.div_add_mod src 32
    refine next_of_done hheld rfl ?_
    rw [hword, hmask, stickyClear_of_one s _ _ hbit, hsplit, stickyClearOne_of_raised s src hraised hmore]
  case ridx =>
    intro on
    exact ⟨fun h => exec_logRidxWrite s hheld v (if_pos h), fun h => exec_logRidxWrite s hheld v (if_neg h),
      fun h => exec_traceRidxWrite s hheld v (if_pos h), fun h => exec_traceRidxWrite s hheld v (if_neg h)⟩
  case level =>
    intro u
    exact ⟨fun hk => next_of_done hheld rfl ((if_neg hnew).trans (if_neg hk)),
      fun hk => next_of_done hheld rfl ((if_neg hnew).trans (if_pos hk))⟩
end Sys2Proof.Proofs
end

section
/-! PROOF. Register accesses of the cores: widths, halves, unassigned offsets and denied writes (R7-R12, R417). -/
namespace Sys2Proof.Proofs
open Sys2Proof Sys2Proof.Machine Sys2Proof.Laws

/-! A register's read and write by its width and half (R9). -/

section
variable (s : State) (r : Req) (off v : Nat) (q : RegAt)

theorem writeReg_of_width_four (wide : Bool) (hwidth : q.reg.width = 4) :
    s.writeReg r off v wide q = s.regEffect r q (v % 2 ^ 32) (2 ^ 32 - 1) := by
  simp only [State.writeReg, hwidth, if_true]

theorem writeReg_of_wide (hwidth : q.reg.width = 8) (hlow : q.hi = false) :
    s.writeReg r off v true q = s.regEffect r q v (2 ^ 64 - 1) := by
  simp only [State.writeReg, hwidth, hlow, and_self, if_true]
  rfl

/-- A low word is held. -/
theorem writeReg_of_low (hwidth : q.reg.width = 8) (hlow : q.hi = false) :
    s.writeReg r off v false q = { s with heldLow := s.heldLow.set none (halfKey r off) (some (v % 2 ^ 32)) } := by
  simp only [State.writeReg, hwidth, hlow, Bool.false_eq_true, false_and, if_false]
  rfl

/-- A high word takes effect with the low word held. -/
theorem writeReg_of_high (hwidth : q.reg.width = 8) (hhigh : q.hi = true) {lo : Nat}
    (hheldLow : s.heldLow.get none (halfKey r (off - 4)) = some lo) :
    s.writeReg r off v false q = { s with heldLow := s.heldLow.set none (halfKey r (off - 4)) none }.regEffect r q
      (lo + v % 2 ^ 32 * 2 ^ 32) (2 ^ 64 - 1) := by
  simp only [State.writeReg, hwidth, hhigh, hheldLow, Bool.false_eq_true, false_and, if_false, if_true]
  rfl

/-- A read of a low word latches the high half. -/
theorem readReg_of_low {u : State} (hwidth : q.reg.width = 8) (hlow : q.hi = false) (hu : s.beforeRead q = u) :
    s.readReg r off false q =
      ({ u with latch := u.latch.set none (halfKey r off) (some (u.regValue q / 2 ^ 32)) }.clearRc q).emit
        (.read (u.regValue q % 2 ^ 32)) := by
  subst hu
  simp only [State.readReg, hwidth, hlow, Bool.false_eq_true, false_and, or_false, if_false]
  rfl

/-- A read of a high word returns the half that was latched, and releases it. -/
theorem readReg_of_high {u : State} {h : Nat} (hwidth : q.reg.width = 8) (hhigh : q.hi = true) (hu : s.beforeRead q = u)
    (hlatch : u.latch.get none (halfKey r (off - 4)) = some h) :
    s.readReg r off false q = ({ u with latch := u.latch.set none (halfKey r (off - 4)) none }).emit (.read h) := by
  subst hu
  simp only [State.readReg, hwidth, hhigh, hlatch, Bool.false_eq_true, false_and, or_false, if_true]
  rfl
end

/-! Core 0's accesses outside the pages of PCIe, Ethernet and the Gatehouse. -/

/-- Offsets whose accesses by a keeper core reach the register that stands there. -/
def plainOff (o : Nat) : Prop := o < 0x1100000 ∧ o / 0x100000 ≠ 13 ∧ o / 0x100000 ≠ 10 ∧ o / 0x100000 ≠ 9

section
variable (s : State) (hheld : s.gth.held = false) (off : BitVec 26) (v : BitVec 64) (wide : Bool) (hplain : plainOff (4 * off.toNat))
include hheld hplain

theorem exec_regWrite_of_unassigned (hnone : findReg (4 * off.toNat) = none) :
    exec (.regWrite (.core 0) off wide v) s = .next (s.after s) := by
  obtain ⟨hspace, hgth, hpci, -⟩ := hplain
  refine next_of_done hheld rfl ?_
  rw [core0_regWrite s _ _ wide hspace hgth hpci, hnone]

theorem exec_regWrite_of_reg {q : RegAt} (hq : findReg (4 * off.toNat) = some q) {u : State}
    (h : s.writeReg (.core 0) (4 * off.toNat) v.toNat wide q = u) :
    exec (.regWrite (.core 0) off wide v) s = .next (s.after u) := by
  obtain ⟨hspace, hgth, hpci, -⟩ := hplain
  refine next_of_done hheld rfl ?_
  rw [core0_regWrite s _ _ wide hspace hgth hpci, hq]
  exact h

theorem exec_readClear_of_unassigned (hnone : findReg (4 * off.toNat) = none) :
    exec (.readClear (.core 0) off wide) s = .next (s.after (s.emit (.read 0))) := by
  obtain ⟨-, hgth, hpci, heth⟩ := hplain
  refine next_of_done hheld rfl ?_
  rw [core0_regRead s _ wide hgth hpci heth, hnone]

theorem exec_readClear_of_reg {q : RegAt} (hq : findReg (4 * off.toNat) = some q) {u : State}
    (h : s.readReg (.core 0) (4 * off.toNat) wide q = u) :
    exec (.readClear (.core 0) off wide) s = .next (s.after u) := by
  obtain ⟨-, hgth, hpci, heth⟩ := hplain
  refine next_of_done hheld rfl ?_
  rw [core0_regRead s _ wide hgth hpci heth, hq]
  exact h
end

/-- LOW_WORD_READ is a READ_CLEAR of 32 bits. -/
theorem exec_lowWordRead (s : State) (r : Req) (off : BitVec 26) : exec (.lowWordRead r off) s = exec (.readClear r off false) s := rfl

/-- Settles O57: each access by its offset, and the register's width and half. -/
theorem registerAccess : Obligations.RegisterAccess := by
  unfold Obligations.RegisterAccess
  intro s hheld plain
  refine ⟨fun off v wide hplain => ?keeper, fun off hplain q hq hwidth hlow => ?low, fun n off v wide hn hplain hdenied => ?denied⟩
  case keeper =>
    intro o
    refine ⟨fun hnone => ⟨exec_regWrite_of_unassigned s hheld off v wide hplain hnone,
      exec_readClear_of_unassigned s hheld off wide hplain hnone⟩, fun q hq => ?_⟩
    have writes {wide : Bool} {u : State} (h : s.writeReg (.core 0) o v.toNat wide q = u) :
        exec (.regWrite (.core 0) off wide v) s = .next (s.after u) := exec_regWrite_of_reg s hheld off v wide hplain hq h
    have reads {wide : Bool} {u : State} (h : s.readReg (.core 0) o wide q = u) :
        exec (.readClear (.core 0) off wide) s = .next (s.after u) := exec_readClear_of_reg s hheld off wide hplain hq h
    refine ⟨fun hwidth => ⟨writes (writeReg_of_width_four s _ o _ q false hwidth), reads (readReg_of_width_four s _ o wide q hwidth)⟩,
      fun hwidth hlow => ⟨writes (writeReg_of_wide s _ o _ q hwidth hlow), writes (writeReg_of_low s _ o _ q hwidth hlow), ?_⟩,
      fun hwidth hhigh => ⟨fun lo hlo => writes (writeReg_of_high s _ o _ q hwidth hhigh hlo), ?_⟩⟩
    · intro u
      exact reads (readReg_of_low s _ o q hwidth hlow rfl)
    · intro u h hlatch
      exact reads (readReg_of_high s _ o q hwidth hhigh rfl hlatch)
  case low =>
    intro u
    rw [exec_lowWordRead]
    exact exec_readClear_of_reg s hheld off false hplain hq (readReg_of_low s _ _ q hwidth hlow rfl)
  case denied =>
    obtain ⟨hspace, hgth, hpci, -⟩ := hplain
    exact next_of_done hheld rfl (core_denied s n _ _ wide hn hspace hgth hpci hdenied)
end Sys2Proof.Proofs
end
